-- ==== Sys2Proof/Word.lean ====
section
/-! DEFINITION. The plain word types of the SYK8-A model: bytes, words, addresses and the identifiers
of the package's units (R21, R22). Nothing here computes a rule of the manual. -/

namespace Sys2Proof

/-- One byte of memory. -/
abbrev Byte := BitVec 8

/-- A 32-bit word. -/
abbrev Word32 := BitVec 32

/-- A 64-bit word: a scalar register, a 64-bit register, an instruction word. -/
abbrev Word64 := BitVec 64

/-- A 48-bit address (device physical or virtual) or an `a` register (R148). -/
abbrev Addr48 := BitVec 48

/-- A context ID (R15: 0 to 1,023). -/
abbrev CtxId := Fin 1024

/-- A queue number (64 submission queues). -/
abbrev QueueId := Fin 64

/-- A tile number under R22: die in bits [7:6], local index in bits [5:0]. -/
abbrev TileId := Fin 256

/-- A PCI Express function: 0 the physical function, 1 to 8 the virtual functions. -/
abbrev FnId := Fin 9

/-- A die ID under R21: 0 to 3 the Kiln dies, 4 the hub die, 5 the Maze die. -/
abbrev DieId := Fin 6

/-- A Kiln die, K0 to K3. -/
abbrev KilnId := Fin 4

/-- A window of the cycle schedule (R27: at most eight). -/
abbrev WindowId := Fin 8

/-- A sensor table entry (R277). -/
abbrev SensorId := Fin 32

end Sys2Proof
end

