-- ==== Sys2Proof/Syntax.lean ====
section
/-! DEFINITION. The commands of the block (`Instr`, one constructor for each row of the spec's table)
and the plain types of their operands. An operand carries what the outside world decides about a
step: which unit, what the host wrote, when it happened in Sundial time (`t`, in ns), what a physical
sensor or link gave. What the part decides itself is in the meanings. -/

namespace Sys2Proof

/-- Criticality class, encoded as GH_SQ_CFG.CLASS (R32): 0 QM, 1 B, 2 D. -/
inductive Class where
  | qm | b | d
  deriving DecidableEq, Repr

/-- A work item by its queue and its sequence number (R48, R55). -/
structure ItemId where
  queue : QueueId
  seq   : Word32
  deriving DecidableEq, Repr

/-- One copy of one instance of an item: `second` names the second copy of a PAIRED item (R70). -/
structure InstanceId where
  item   : ItemId
  index  : Nat
  second : Bool
  deriving DecidableEq, Repr

/-- A write the host makes through BAR0 of function `fn` (R507): `size` in bytes, `data` in its low
bytes, `poisoned` when the request carries poisoned data. -/
structure BusWrite where
  fn       : FnId
  off      : BitVec 26
  size     : Nat
  data     : Word64
  poisoned : Bool
  deriving DecidableEq, Repr

/-- A read the host makes through BAR0 of function `fn` (R507). -/
structure BusRead where
  fn   : FnId
  off  : BitVec 26
  size : Nat
  deriving DecidableEq, Repr

/-- A physical upset of one bit of an accumulator entry (R135 checks for it). The operand `upset` of a memory access is
the number of bits (of a shelf word) or of symbols (of an LPDDR6 granule) that an upset has made wrong in the first word
or granule that the access touches: 0 for none. -/
structure BitFlip where
  row : Fin 32
  col : Fin 64
  bit : Fin 32
  deriving DecidableEq, Repr

/-- A physical upset of the result of one addition of a `vred`: of the one at a tree level that the lane feeds (R203). -/
structure TreeUpset where
  lane  : Fin 32
  level : Fin 5
  flips : BitVec 72
  deriving DecidableEq, Repr

/-- A physical upset of a vector lane (R141, R142). With `stored` it has inverted the low 32 bits of `flips` of that lane
of a v register before the instruction reads it; otherwise it inverts `flips` in the lane's result, before any wrap, for
`vred` in the result of the addition of that tree level which the lane feeds (R203). -/
structure LaneFault where
  lane   : Fin 32
  level  : Fin 5
  flips  : BitVec 72
  stored : Option (Fin 16)
  /-- Upsets of further additions of a `vred`. -/
  more   : List TreeUpset
  deriving DecidableEq, Repr

/-- The two outside time sources of R266. -/
inductive TimeSource where
  | gptp | pps
  deriving DecidableEq, Repr

/-- A camera frame as received (R272, R273, R279, R286): `frameStart` is the Sundial time of its
Frame Start packet, `strips` the CRC-32C of its 16 strips, `corrupt` a failed packet ECC or CRC. -/
structure CameraSample where
  port        : Fin 16
  channel     : Byte
  frameNumber : BitVec 16
  frameStart  : Nat
  arrival     : Nat
  corrupt     : Bool
  strips      : List Word32
  payload     : List Byte
  deriving DecidableEq, Repr

/-- A lidar UDP packet as received (R272, R274). -/
structure LidarSample where
  port       : Fin 4
  udpPort    : BitVec 16
  payload    : List Byte
  gptpSynced : Bool
  arrival    : Nat
  deriving DecidableEq, Repr

/-- An object's placement for one time bin as the list holds it (R294): x, y, z in 0.05 m, yaw in 2π / 65,536. -/
structure Placement where
  x   : BitVec 16
  y   : BitVec 16
  z   : BitVec 16
  yaw : BitVec 16
  deriving DecidableEq, Repr

/-- What TRACK's association and prediction make of one object in a cycle (R294), by algorithms the manual does not give:
its fresh detection as channel and index, its confidence, its sizes and velocity as FP16, and its place in each of the 32
bins. -/
structure Track where
  id        : Word32
  sphere    : Bool
  detection : Option (Fin 32 × Nat)
  conf      : BitVec 4
  half      : Vector (BitVec 16) 3
  velocity  : Vector (BitVec 16) 2
  place     : List Placement
  deriving DecidableEq, Repr

/-- A flit on a module (R403): its sequence number and data as sent, 252 bytes, and the 256 bytes that arrive, of which the
last four are the CRC-32C. The manual gives no layout (DESIGN CHOICE, log 164). -/
structure FlitPassage where
  sent : List Byte
  got  : List Byte
  deriving DecidableEq, Repr

/-- The numbers that a cycle's fusion steps compute from the sensors' own data by algorithms the
manual does not give: REGISTER's accepted sweep, rejections and local map; EGO's estimate at T_c, and with each point time
tp the pose change inverse(pose(T_c)) · pose(tp) as 3 × 4 FP32; the cells and bins that a sensor's sample occupies beyond
those that R272, R280 and R285 place; the odometry speed of a sample stamp and the ego speed in micrometres per second;
the objects of TRACK. `unreadable` names sensors whose newest sample cannot be read. -/
structure FusionInput where
  acceptedSweep : Option Nat
  regRejected   : Nat
  localMap      : List (Int × Int × Int)
  pose          : List Word32
  mapPose       : Option (List Word32)
  covariance    : List Word32
  changes       : List (Nat × List Word32)
  data          : List (SensorId × Nat × Word32)
  vOdo          : List (Nat × Int)
  vEgo          : Int
  speed         : BitVec 16
  tracks        : List Track
  unreadable    : List SensorId
  deriving DecidableEq, Repr

/-- A checker whose verdict a physical fault inverts in a pass (R319). -/
structure CheckerUpset where
  bank    : Fin 2
  checker : Nat
  deriving DecidableEq, Repr

/-- Physical faults of a Maze pass: the checkers that give wrong verdicts, and the 8 B words of the store or the banks, by
device physical address, that cannot be corrected from now on (R319, R335). -/
structure MazeUpset where
  checkers : List CheckerUpset
  words    : List Nat
  deriving DecidableEq, Repr

/-- A writer's store of one half of the machine state record, landing between two reads of the Maze (R309, R310). -/
structure StateWrite where
  upper : Bool
  bytes : List Byte
  deriving DecidableEq, Repr

/-- What the Maze meets as its window opens: physical faults, and the stores of the state record's writer that land between
its reads of the record (R309, R310). -/
structure MazeOpening where
  bad     : MazeUpset
  between : List StateWrite
  deriving DecidableEq, Repr

/-- What a drain's verdict finds: a physical upset of the bank, and a lane check that fails in the same clock cycle, with its
vector engine (R135, R145). -/
structure DrainFault where
  flip : Option BitFlip
  lane : Option (Fin 32 × Fin 2)
  deriving DecidableEq, Repr

/-- What a checked score finds: a physical upset of one score, and a lane check that fails in the same clock cycle, with its
vector engine (R145, R211). -/
structure ScoreFault where
  flip : Option (Nat × Word32)
  lane : Option (Fin 32 × Fin 2)
  deriving DecidableEq, Repr

/-- A context whose teardown has not drained, and the dies whose units still hold tags of its ID (R64). -/
structure TagHolders where
  ctx  : CtxId
  dies : List DieId
  deriving DecidableEq, Repr

/-- A partition reset's length in µs, and the unit that holds the class's oldest outstanding transaction, if there is one
(R428, R429). -/
structure PartitionRun where
  durationUs : Nat
  holder     : BitVec 16
  deriving DecidableEq, Repr

/-- The units that still hold tags of the class 3 ms into step 3, each with their number (R428), and the time. -/
structure PartitionPurge where
  t       : Nat
  holders : List (BitVec 16 × Nat)
  deriving DecidableEq, Repr

/-- A regulated count (R349): a context on a tile DMA engine, or one of the six other masters in the
order of BW_MASTER_SELECT. -/
inductive MasterId where
  | tile (tl : TileId) (c : CtxId)
  | other (m : Fin 6)
  deriving DecidableEq, Repr

/-- A queue with a throttle level (R352). -/
inductive OutQueue where
  | channel (k : KilnId) (ch : Fin 8)
  | pcie
  | pergola
  deriving DecidableEq, Repr

/-- The two Belvedere islands. -/
inductive Island where
  | a | b
  deriving DecidableEq, Repr

/-- A heartbeat that reaches an island from its peer: `missed` says that one or two before it have not come (R359). -/
structure PeerHeartbeat where
  isl    : Island
  missed : Bool
  deriving DecidableEq, Repr

/-- The level of an island's reset input (R357). -/
structure ResetLevel where
  isl : Island
  low : Bool
  deriving DecidableEq, Repr

/-- What an island measures between plan cycle boundaries with its own oscillator (R360). -/
inductive BoundarySpacing where
  | measured (ns : Nat)
  | missing
  deriving DecidableEq, Repr

/-- What a periodic self-test segment tests: a tile (R388) or a Maze checker bank (R391). -/
inductive SegmentUnit where
  | tile (tl : TileId)
  | bank (b : Fin 2)
  deriving DecidableEq, Repr

/-- A report to a fault aggregator (R396, R398): `names` is the other unit that a timeout report
names, `none` for a self-report. -/
structure FaultReport where
  reporter : BitVec 16
  names    : Option (BitVec 16)
  cause    : Byte
  ctx      : Option CtxId
  status   : BitVec 16
  detail   : Word32
  injected : Bool
  deriving DecidableEq, Repr

/-- An end of a Trellis module by die and index under R395, or the Pergola link. -/
inductive ModuleId where
  | trellis (die : DieId) (idx : Fin 9)
  | pergola
  deriving DecidableEq, Repr

/-- What one training attempt of R405 finds: the two pass masks, whether the chosen lanes pass the
pattern test at both ends, the half-groups that would pass at both ends in FALLBACK (R408), for
Pergola whether the partner claims the leader's role (R413) and the round-trip time in ns (R414). -/
structure TrainingAttempt where
  localMask     : BitVec 4
  remoteMask    : BitVec 4
  patternOk     : Bool
  fallback      : BitVec 4
  partnerLeader : Bool
  roundTripNs   : Nat
  deriving DecidableEq, Repr

/-- Which comparators fail to flag in the start-up test (R386, R387), and the training attempts of the modules of the dies that
start (R405, R426). -/
structure StartupOutcome where
  tiles       : List TileId
  pairLane    : Bool
  mazeBank    : Bool
  aggregators : List DieId
  watchdog    : Bool
  lockstep    : Bool
  training    : List (ModuleId × TrainingAttempt)
  deriving DecidableEq, Repr

/-- What a package cold reset finds at the pins and in its tests: PAIR_LEAD (R413), a valid reference
(R418), a sensor above 105 degrees (R456), the slots (kind index, slot B) whose flash does not read (R476), and the
start-up test's outcome (R386). -/
structure BootInput where
  pairLead : Bool
  refValid : Bool
  hot      : Bool
  badReads : List (Fin 5 × Bool)
  startup  : StartupOutcome
  deriving DecidableEq, Repr

/-- Measured draws in mW (R30, R435): each Kiln die over 100 µs and over 1 ms, and the three fixed
consumers. -/
structure PowerDraws where
  kiln100us : List Nat
  kiln1ms   : List Nat
  hub       : Nat
  maze      : Nat
  lpddr     : Nat
  deriving DecidableEq, Repr

/-- How a return from sleep goes (R447, R449): the step that fails twice, the retained segments whose
guard differs (bit 8i + s), the length in µs, and the start-up checks of the dies. -/
structure ReturnOutcome where
  failedStep : Option (Fin 5)
  lost       : Word32
  lengthUs   : Nat
  boot       : BootInput
  deriving DecidableEq, Repr

/-- A mailbox start (R478): the write of LG_MBOX_CTRL by function `fn`, or with `resumes` no write but a command that has
waited for its buffer and goes on; the host memory it finds, whether the buffer can be reached, and the Sundial time. -/
structure MboxGo where
  fn    : FnId
  value : Word32
  host  : List Host.Cell
  bufOk : Bool
  resumes : Bool
  t     : Nat
  deriving DecidableEq, Repr

/-- The Lodge's 1 ms sample: the 76 thermal sensors in 1/16 °C, and the 16 voltage monitors in mV, none where one gives no
reading (R452, R479). -/
structure LodgeSample where
  temps    : List Int
  monitors : List (Option (BitVec 16))
  deriving DecidableEq, Repr

/-- A cause of a Gatehouse halt with the address at which it halts (R487): a DB_GH_HALT write, a
breakpoint or a watch. -/
inductive GhHaltCause where
  | request (f : FnId) (v : Word32) (pc : Word32)
  | breakpoint (i : Fin 4) (pc : Word32)
  /-- The access that hit: its address, its bytes (1, 2, 4 or 8) and whether it stores (R483). -/
  | watch (j : Fin 2) (pc : Word32) (addr : Addr48) (size : Nat) (store : Bool)
  deriving DecidableEq, Repr

/-- A trace record that a source emits (R494): master number, KIND, and whether its die's replica enters SYNC in this
clock cycle (R271). Context and body are those of the event. -/
structure TraceInput where
  master      : BitVec 16
  kind        : Byte
  timeInvalid : Bool
  deriving DecidableEq, Repr

/-- A BAR4 access (R509): offset, the bytes written or the number read. -/
structure Bar4Access where
  off      : Nat
  write    : Option (List Byte)
  n        : Nat
  poisoned : Bool
  deriving DecidableEq, Repr

/-- A failed host-memory read as HI_HOST_ERR records it (R513): KIND, function, SOURCE, queue of a
descriptor fetch, address, and the instance that read, when one did. -/
structure HostReadError where
  kind   : Fin 4
  fn     : FnId
  source : Fin 5
  queue  : QueueId
  addr   : Word64
  reader : Option InstanceId
  deriving DecidableEq, Repr

/-- A supply rail by what R520 does when it leaves its range. -/
inductive Rail where
  | kiln (k : KilnId)
  | maze
  | package
  | island (i : Island)
  | other
  deriving DecidableEq, Repr

/-- The commands of the block: one constructor for each row of the table of operations and events.
A command is one whole step of the part: a host access, a step that one of the part's own engines
takes, a tile instruction, a sensor or pin event. Each docstring gives the row's rule. -/
inductive Instr where
  /-- REGISTER_WRITE (R8): A host write to a register field that has no row of its own sets RW fields, clears W1C bits or sets W1S bits, subject to reserved-bit and reserved-encoding rules. -/
  | registerWrite (a : BusWrite)
  /-- QUEUE_ENABLE (R33): A write setting GH_SQ_CFG.ENABLE from 0 to 1 enables a queue and resets its fetch and completion indexes and expected phase, unless a clear is pending or the function rule forbids it. -/
  | queueEnable (f : FnId) (q : QueueId) (v : Word32)
  /-- QUEUE_DISABLE (R33): A write clearing GH_SQ_CFG.ENABLE stops descriptor fetch at once and leaves the clear pending until every fetched entry has published. -/
  | queueDisable (f : FnId) (q : QueueId) (v : Word32)
  /-- QUEUE_DISABLE_DONE (R33): Once the last fetched entry of a queue with a pending clear publishes, ENABLE reads 0. -/
  | queueDisableDone (q : QueueId)
  /-- SUBMISSION_DOORBELL (R508): A submission doorbell write announces ring entries HEAD to INDEX-1, or sets DOORBELL_ERR for a bad index or a plan queue. -/
  | submissionDoorbell (f : FnId) (q : QueueId) (v : Word32)
  /-- COMPLETION_DOORBELL (R508): A completion doorbell write frees completion slots counted from the previous INDEX, letting held publication resume. -/
  | completionDoorbell (f : FnId) (q : QueueId) (v : Word32)
  /-- DESCRIPTOR_FETCH (R46): The Gatehouse fetches the next announced descriptor in ring order and checks every field under R17 and R18. -/
  | descriptorFetch (q : QueueId) (t : Nat) (host : List Host.Cell)
  /-- DESCRIPTOR_FETCH_RETRY (R513): A descriptor fetch that failed on the host bus is retried every 100 µs with HEAD unchanged. -/
  | descriptorFetchRetry (q : QueueId) (t : Nat) (host : List Host.Cell)
  /-- DESCRIPTOR_ACCEPT (R46): When every journal mirror acknowledges the entry write, the descriptor is accepted, its acceptance time taken and HEAD advanced. -/
  | descriptorAccept (q : QueueId) (t : Nat)
  /-- RUN (R38): A RUN descriptor starts INSTANCES instances of an image entry, or a batch RUN whose header is read and checked at acceptance. -/
  | run (i : ItemId)
  /-- COPY (R42): A COPY descriptor requests one DMA transfer between virtual ranges of its context. -/
  | copy (i : ItemId)
  /-- FUSE_CONFIG (R275): A FUSE-CONFIG descriptor writes one Fusion Engine configuration section, read and checked at acceptance. -/
  | fuseConfig (i : ItemId)
  /-- PLAN_CONFIG (R301): A PLAN-CONFIG descriptor writes one Maze, schedule or Belvedere configuration section, read and checked at acceptance. -/
  | planConfig (i : ItemId)
  /-- FENCE (R51): A FENCE descriptor orders later items in its scope behind every earlier item of that scope. -/
  | fence (i : ItemId) (t : Nat)
  /-- CONTEXT_CREATE (R43): A CONTEXT-CREATE descriptor checks its creation block, reserves the shelf quota and puts the ID in LOADING. -/
  | contextCreate (i : ItemId)
  /-- CONTEXT_DESTROY (R63): A CONTEXT-DESTROY descriptor tears a context down through waiting, stopping, closing tags, scrubbing and freeing. -/
  | contextDestroy (i : ItemId) (t : Nat)
  /-- SYNC_ADD (R74): A SYNC descriptor with OP ADD adds VALUE to its sync object once its waits are satisfied and earlier items have published. -/
  | syncAdd (i : ItemId) (t : Nat)
  /-- SYNC_RESET (R74): A SYNC descriptor with OP RESET sets its sync object to VALUE once its waits are satisfied and earlier items have published. -/
  | syncReset (i : ItemId) (t : Nat)
  /-- ITEM_BEGIN (R531): An accepted item begins when its waits are satisfied and its type's start condition holds. -/
  | itemBegin (i : ItemId) (t : Nat)
  /-- DEADLINE_EXPIRE (R54): An item that has not begun when its deadline passes completes with ST_DEADLINE_EXPIRED without running. -/
  | deadlineExpire (i : ItemId) (t : Nat)
  /-- CONTEXT_LOAD (R186): A LOADING context's image is read and checked, its footprint bound, its sections copied and its seed slots set, and it becomes READY or the create fails. -/
  | contextLoad (c : CtxId) (t : Nat) (host : List Host.Cell)
  /-- TILE_PLACE (R66): The Gatehouse gives a free tile to the highest-ranking ready instance found by the scan order. -/
  | tilePlace (t : Nat)
  /-- POST_INSTANCE (R105): The Gatehouse posts a ready instance into a tile's TI_NEXT, pre-empting the lowest-ranking running instance. -/
  | postInstance (t : Nat)
  /-- STAGING_DONE (R102): Staging of a posted instance's seed slot, weights, code and shelf-map entries completes and TI_NEXT.STAGED reads 1, recording any failure under R533. -/
  | stagingDone (tl : TileId)
  /-- SWITCH (R106): A yield point with a staged post runs drain, register kill, slot write, tag switch, seed and weight load and first issue of the incoming instance. -/
  | switch (tl : TileId) (clk : Nat) (t : Nat)
  /-- YIELD_WATCHDOG_EXPIRE (R100): The yield watchdog expiring after 30,000 clock cycles stops the instance, completes its item with ST_YIELD_OVERRUN and faults the context. -/
  | yieldWatchdogExpire (tl : TileId)
  /-- CONTEXT_DRAIN_DONE (R63): When all per-ID counters of a closing context read 0 its shelves are scrubbed, TLB flushed, quota released and ID freed. -/
  | contextDrainDone (c : CtxId)
  /-- TEARDOWN_STALL_TIMEOUT (R64): Counters not drained 10 ms into step 3 complete the CONTEXT-DESTROY with ST_TEARDOWN_STALLED and leave the ID CLOSING. -/
  | teardownStallTimeout (x : TagHolders) (t : Nat)
  /-- LATE_RESPONSE_DROP (R64): A response arriving for a CLOSING or FREE ID is dropped and counted in GH_LATE_DROP. -/
  | lateResponseDrop (c : CtxId)
  /-- ITEM_PUBLISH (R53): A done item whose earlier items have published and whose completion slot is free has its record written, signals applied and journal state set to published. -/
  | itemPublish (i : ItemId) (t : Nat)
  /-- ITEM_REPLAY (R58): After a hardware-detected error and once its chains have ended, an item is replayed from its start on another tile, at most twice. -/
  | itemReplay (i : ItemId)
  /-- JOURNAL_REBUILD (R49): A lost journal mirror is rebuilt on the next Kiln die in service while acceptance stalls, and acceptance resumes when it is written. -/
  | journalRebuild
  /-- PROGRESS_WRITE (R76): Every 100 µs the device writes each enabled function's progress block, updating HEARTBEAT counts. -/
  | progressWrite (f : FnId) (t : Nat)
  /-- SYNC_FABRIC_APPLY (R73): In a Sync Fabric clock cycle resets then adds to an object apply and waits are evaluated on the result, setting SY_SATURATED on clamps. -/
  | syncFabricApply (n : Nat)
  /-- INSTR_NOP (R152): The nop instruction does nothing. -/
  | instrNop (tl : TileId) (clk : Nat)
  /-- INSTR_YIELD (R98): The yield instruction is a yield point that switches to a staged post or re-enters the same instance. -/
  | instrYield (tl : TileId) (clk : Nat)
  /-- INSTR_END (R162): The end instruction ends the instance and frees its seed slot at the switch. -/
  | instrEnd (tl : TileId) (clk : Nat)
  /-- INSTR_TRAP (R163): The trap instruction stops the instance with ST_PROGRAM_TRAP and faults the context. -/
  | instrTrap (tl : TileId) (clk : Nat)
  /-- INSTR_B (R160): The branch instruction compares two s registers by COND and jumps by OFF32 when the condition holds. -/
  | instrB (tl : TileId) (clk : Nat)
  /-- INSTR_CALL (R160): The call instruction writes the return address to sRD and jumps by OFF32. -/
  | instrCall (tl : TileId) (clk : Nat)
  /-- INSTR_JR (R160): The jr instruction jumps to the address in sRS1, illegal when misaligned. -/
  | instrJr (tl : TileId) (clk : Nat)
  /-- INSTR_RDSR (R150): The rdsr instruction reads a special register into an s register. -/
  | instrRdsr (tl : TileId) (clk : Nat) (t : Nat)
  /-- INSTR_ADD_I64 (R163): add.i64 writes the sum of two s registers modulo 2^64. -/
  | instrAddI64 (tl : TileId) (clk : Nat)
  /-- INSTR_SUB_I64 (R163): sub.i64 writes the difference of two s registers modulo 2^64. -/
  | instrSubI64 (tl : TileId) (clk : Nat)
  /-- INSTR_MUL_I64 (R163): mul.i64 writes the low 64 bits of the product. -/
  | instrMulI64 (tl : TileId) (clk : Nat)
  /-- INSTR_MULH_I64 (R163): mulh.i64 writes the high 64 bits of the signed product. -/
  | instrMulhI64 (tl : TileId) (clk : Nat)
  /-- INSTR_MULH_U64 (R163): mulh.u64 writes the high 64 bits of the unsigned product. -/
  | instrMulhU64 (tl : TileId) (clk : Nat)
  /-- INSTR_DIV_I64 (R164): div.i64 writes the truncated signed quotient on the shared divider. -/
  | instrDivI64 (tl : TileId) (clk : Nat)
  /-- INSTR_DIV_U64 (R164): div.u64 writes the unsigned quotient on the shared divider. -/
  | instrDivU64 (tl : TileId) (clk : Nat)
  /-- INSTR_REM_I64 (R164): rem.i64 writes the signed remainder on the shared divider. -/
  | instrRemI64 (tl : TileId) (clk : Nat)
  /-- INSTR_REM_U64 (R164): rem.u64 writes the unsigned remainder on the shared divider. -/
  | instrRemU64 (tl : TileId) (clk : Nat)
  /-- INSTR_AND_I64 (R163): and.i64 writes the bitwise AND of two s registers. -/
  | instrAndI64 (tl : TileId) (clk : Nat)
  /-- INSTR_OR_I64 (R163): or.i64 writes the bitwise OR of two s registers. -/
  | instrOrI64 (tl : TileId) (clk : Nat)
  /-- INSTR_XOR_I64 (R163): xor.i64 writes the bitwise XOR of two s registers. -/
  | instrXorI64 (tl : TileId) (clk : Nat)
  /-- INSTR_SHL_I64 (R163): shl.i64 shifts left by sRS2[5:0]. -/
  | instrShlI64 (tl : TileId) (clk : Nat)
  /-- INSTR_SHR_U64 (R163): shr.u64 shifts right logically by sRS2[5:0]. -/
  | instrShrU64 (tl : TileId) (clk : Nat)
  /-- INSTR_SRA_I64 (R163): sra.i64 shifts right arithmetically by sRS2[5:0]. -/
  | instrSraI64 (tl : TileId) (clk : Nat)
  /-- INSTR_MIN_I64 (R163): min.i64 writes the signed minimum. -/
  | instrMinI64 (tl : TileId) (clk : Nat)
  /-- INSTR_MAX_I64 (R163): max.i64 writes the signed maximum. -/
  | instrMaxI64 (tl : TileId) (clk : Nat)
  /-- INSTR_ADDI_I64 (R163): addi.i64 adds the sign-extended IMM32. -/
  | instrAddiI64 (tl : TileId) (clk : Nat)
  /-- INSTR_ANDI_I64 (R163): andi.i64 ANDs with the sign-extended IMM32. -/
  | instrAndiI64 (tl : TileId) (clk : Nat)
  /-- INSTR_ORI_I64 (R163): ori.i64 ORs with the sign-extended IMM32. -/
  | instrOriI64 (tl : TileId) (clk : Nat)
  /-- INSTR_XORI_I64 (R163): xori.i64 XORs with the sign-extended IMM32. -/
  | instrXoriI64 (tl : TileId) (clk : Nat)
  /-- INSTR_SHLI_I64 (R163): shli.i64 shifts left by IMM32[5:0]. -/
  | instrShliI64 (tl : TileId) (clk : Nat)
  /-- INSTR_SHRI_U64 (R163): shri.u64 shifts right logically by IMM32[5:0]. -/
  | instrShriU64 (tl : TileId) (clk : Nat)
  /-- INSTR_SRAI_I64 (R163): srai.i64 shifts right arithmetically by IMM32[5:0]. -/
  | instrSraiI64 (tl : TileId) (clk : Nat)
  /-- INSTR_LI_I64 (R163): li.i64 loads the sign-extended IMM44 into sRD. -/
  | instrLiI64 (tl : TileId) (clk : Nat)
  /-- INSTR_LIH_I64 (R163): lih.i64 writes IMM44[19:0] into sRD[63:44] keeping the other bits. -/
  | instrLihI64 (tl : TileId) (clk : Nat)
  /-- INSTR_MOVA (R148): mova copies sRS1[47:0] into an a register. -/
  | instrMova (tl : TileId) (clk : Nat)
  /-- INSTR_MOVS (R148): movs copies an a register zero-extended into an s register. -/
  | instrMovs (tl : TileId) (clk : Nat)
  /-- INSTR_ADDAI (R148): addai adds a sign-extended IMM32 to an a register modulo 2^48. -/
  | instrAddai (tl : TileId) (clk : Nat)
  /-- INSTR_PCMP (R163): pcmp sets a predicate register to all ones or zero by a COND comparison. -/
  | instrPcmp (tl : TileId) (clk : Nat)
  /-- INSTR_PLOG (R165): plog performs the predicate operation that FUNC selects. -/
  | instrPlog (tl : TileId) (clk : Nat)
  /-- INSTR_FOP (R166): fop performs the FP64 or FP32 Sequencer floating-point operation that FUNC selects. -/
  | instrFop (tl : TileId) (clk : Nat)
  /-- INSTR_LD_U (R167): ld.u loads 1 to 8 B from a shelf address zero-extended into an s register. -/
  | instrLdU (tl : TileId) (clk : Nat) (upset : Nat)
  /-- INSTR_LD_I (R167): ld.i loads 1 to 4 B sign-extended into an s register. -/
  | instrLdI (tl : TileId) (clk : Nat)
  /-- INSTR_ST (R167): st stores the low 1 to 8 B of an s register to a shelf address. -/
  | instrSt (tl : TileId) (clk : Nat) (upset : Nat)
  /-- INSTR_LDA (R167): lda loads 8 B into an a register. -/
  | instrLda (tl : TileId) (clk : Nat)
  /-- INSTR_STA (R167): sta stores an a register zero-extended to 8 B. -/
  | instrSta (tl : TileId) (clk : Nat)
  /-- INSTR_VLD_B32 (R167): vld.b32 loads 128 B unconverted into a v register through a chosen bank port. -/
  | instrVldB32 (tl : TileId) (clk : Nat)
  /-- INSTR_VST_B32 (R167): vst.b32 stores 128 B from a v register. -/
  | instrVstB32 (tl : TileId) (clk : Nat) (err : Option LaneFault)
  /-- INSTR_FENCE (R168): fence stops issue until every earlier shelf access on the masked ports has completed. -/
  | instrFence (tl : TileId) (clk : Nat)
  /-- INSTR_SALLOC (R169): salloc binds one shelf in nearest order and returns its index or a failure code. -/
  | instrSalloc (tl : TileId) (clk : Nat)
  /-- INSTR_SFREE (R170): sfree releases a bound shelf index, which is scrubbed before it becomes free. -/
  | instrSfree (tl : TileId) (clk : Nat)
  /-- INSTR_SINFO (R166): sinfo returns the context's quota and bound shelf count. -/
  | instrSinfo (tl : TileId) (clk : Nat)
  /-- INSTR_DMA (R171): dma starts a DMA chain on the tile's engine after earlier shelf writes complete, waiting while 16 chains are in flight. -/
  | instrDma (tl : TileId) (clk : Nat)
  /-- DMA_DESCRIPTOR (R173): The DMA engine reads and checks the next chain descriptor, moves its rows and applies its signal, or ends the chain on a fault. -/
  | dmaDescriptor (tl : TileId) (ch : Fin 16) (host : List Host.Cell) (upset : Nat)
  /-- DMA_CHAIN_END (R101): A DMA chain ends at its last descriptor, a fault, or the reset, fence or loss of its tile. -/
  | dmaChainEnd (tl : TileId) (ch : Fin 16)
  /-- INSTR_DTEST (R180): dtest sets a predicate to all ones when no chain of the instance is in flight. -/
  | instrDtest (tl : TileId) (clk : Nat)
  /-- INSTR_DWAIT_Y (R161): dwait.y is a blocking yield point until no chain of the instance is in flight. -/
  | instrDwaitY (tl : TileId) (clk : Nat)
  /-- INSTR_SADD_U32 (R177): sadd.u32 sends an ADD to a sync object after earlier shelf writes complete. -/
  | instrSaddU32 (tl : TileId) (clk : Nat)
  /-- INSTR_SRESET_U32 (R177): sreset.u32 sends a RESET to a sync object after earlier shelf writes complete. -/
  | instrSresetU32 (tl : TileId) (clk : Nat)
  /-- INSTR_STEST_U32 (R178): stest.u32 sets a predicate when a sync counter is at least v. -/
  | instrStestU32 (tl : TileId) (clk : Nat)
  /-- INSTR_SWAIT_Y (R179): swait.y is a blocking yield point that suspends the instance until WAIT(id, v) holds. -/
  | instrSwaitY (tl : TileId) (clk : Nat)
  /-- SWAIT_SATISFIED (R179): When a suspended instance's wait is satisfied the Gatehouse makes it ready to rank again within 1 µs. -/
  | swaitSatisfied (w : InstanceId)
  /-- INSTR_TLDW (R190): tldw fetches 2 KiB of weights and any MX scales into the shadow set. -/
  | instrTldw (tl : TileId) (clk : Nat)
  /-- SHADOW_ACTIVATE (R190): The shadow set becomes active once its fetch has completed and earlier tensor instructions have finished reading the active set, the checksum row acting first. -/
  | shadowActivate (tl : TileId)
  /-- INSTR_TWFMT (R191): twfmt reinterprets the active weight set in a new format and forms its checksums again. -/
  | instrTwfmt (tl : TileId) (clk : Nat)
  /-- INSTR_TMAC (R192): tmac streams ROWS input rows into a bank and accumulates with checksums. -/
  | instrTmac (tl : TileId) (clk : Nat)
  /-- INSTR_TCLR (R194): tclr clears a bank, its checksums and its mode. -/
  | instrTclr (tl : TileId) (clk : Nat)
  /-- INSTR_TDRAIN (R196): tdrain converts a bank's rows to a format and holds its shelf writes for the check. -/
  | instrTdrain (tl : TileId) (clk : Nat)
  /-- DRAIN_VERDICT (R135): The check verdict of a drain or tchk is ready and the held writes are released or discarded under R144. -/
  | drainVerdict (tl : TileId) (bad : DrainFault)
  /-- INSTR_TCHK (R198): tchk checks a bank without writing anything. -/
  | instrTchk (tl : TileId) (clk : Nat)
  /-- INSTR_TROW (R199): trow copies 32 bank entries of a row into a v register unchecked. -/
  | instrTrow (tl : TileId) (clk : Nat)
  /-- INSTR_VADD (R203): vadd adds lane-wise. -/
  | instrVadd (tl : TileId) (clk : Nat) (err : Option LaneFault)
  /-- INSTR_VSUB (R203): vsub subtracts lane-wise. -/
  | instrVsub (tl : TileId) (clk : Nat) (err : Option LaneFault)
  /-- INSTR_VMUL (R203): vmul multiplies lane-wise. -/
  | instrVmul (tl : TileId) (clk : Nat) (err : Option LaneFault)
  /-- INSTR_VFMA (R203): vfma computes vRS1 × vRS2 + vRS3 lane-wise. -/
  | instrVfma (tl : TileId) (clk : Nat) (err : Option LaneFault)
  /-- INSTR_VMIN (R203): vmin takes the lane-wise minimum. -/
  | instrVmin (tl : TileId) (clk : Nat) (err : Option LaneFault)
  /-- INSTR_VMAX (R203): vmax takes the lane-wise maximum. -/
  | instrVmax (tl : TileId) (clk : Nat) (err : Option LaneFault)
  /-- INSTR_VNEG_VABS (R203): vneg or vabs negates or takes the absolute value lane-wise. -/
  | instrVnegVabs (tl : TileId) (clk : Nat) (err : Option LaneFault)
  /-- INSTR_VCVT (R207): vcvt converts lanes between FP32, INT32, BF16 and FP16. -/
  | instrVcvt (tl : TileId) (clk : Nat) (err : Option LaneFault)
  /-- INSTR_VCMP (R204): vcmp compares lanes into a predicate register. -/
  | instrVcmp (tl : TileId) (clk : Nat) (err : Option LaneFault)
  /-- INSTR_VSEL (R202): vsel selects each lane from one of two registers by a predicate. -/
  | instrVsel (tl : TileId) (clk : Nat) (err : Option LaneFault)
  /-- INSTR_VLOGIC (R202): vand, vor, vxor or vnot applies a bitwise operation to lanes. -/
  | instrVlogic (tl : TileId) (clk : Nat) (err : Option LaneFault)
  /-- INSTR_VSHIFT (R202): vshl, vshr or vsra shifts INT32 lanes. -/
  | instrVshift (tl : TileId) (clk : Nat) (err : Option LaneFault)
  /-- INSTR_VBCAST (R202): vbcast broadcasts an s register value to every lane. -/
  | instrVbcast (tl : TileId) (clk : Nat)
  /-- INSTR_VRED (R205): vred reduces 32 lanes by a fixed tree into an s register. -/
  | instrVred (tl : TileId) (clk : Nat) (err : Option LaneFault)
  /-- INSTR_VFN (R206): vfn evaluates a table-based transcendental function lane-wise. -/
  | instrVfn (tl : TileId) (clk : Nat) (err : Option LaneFault)
  /-- INSTR_VPERM (R202): vperm permutes lanes by index. -/
  | instrVperm (tl : TileId) (clk : Nat) (err : Option LaneFault)
  /-- INSTR_VGATHER (R208): vgather loads 4 B per enabled lane from shelf offsets. -/
  | instrVgather (tl : TileId) (clk : Nat) (err : Option LaneFault)
  /-- INSTR_VSCATTER (R208): vscatter stores 4 B per enabled lane to shelf offsets. -/
  | instrVscatter (tl : TileId) (clk : Nat) (err : Option LaneFault)
  /-- INSTR_VLDC (R209): vldc loads 32 elements of a format and widens them into lanes. -/
  | instrVldc (tl : TileId) (clk : Nat)
  /-- INSTR_VSTC (R209): vstc converts 32 lanes to a format and stores them, with an MX scale when needed. -/
  | instrVstc (tl : TileId) (clk : Nat) (err : Option LaneFault)
  /-- INSTR_VEXT (R201): vext reads one lane into an s register. -/
  | instrVext (tl : TileId) (clk : Nat) (err : Option LaneFault)
  /-- INSTR_VINS (R201): vins writes an s register value into one lane. -/
  | instrVins (tl : TileId) (clk : Nat) (err : Option LaneFault)
  /-- INSTR_VIOTA (R202): viota writes each lane's index into it. -/
  | instrViota (tl : TileId) (clk : Nat)
  /-- INSTR_SSCORE_I8 (R210): sscore.i8 writes checked INT32 dot products of a query against page summaries. -/
  | instrSscoreI8 (tl : TileId) (clk : Nat) (bad : ScoreFault)
  /-- INSTR_STOPK_I32 (R212): stopk.i32 writes the top K scores with indexes, optionally merging into an existing list. -/
  | instrStopkI32 (tl : TileId) (clk : Nat)
  /-- TRANSLATION_WALK (R228): A TLB miss walks four table levels on the home die's translation unit and fills the TLB or faults. -/
  | translationWalk (tl : TileId) (c : CtxId) (va : Addr48) (write : Bool)
  /-- TU_INVAL (R234): A write of TU_INVAL with GO makes every unit drop a context's translation entries. -/
  | tuInval (f : FnId) (v : Word32)
  /-- TU_INVAL_DONE (R234): When no access translated under the old entries is outstanding, TU_INVAL.GO returns to 0. -/
  | tuInvalDone
  /-- BLOCK_ALLOC (R529): A write of TU_ALLOC_CTRL.GO checks the request and places COUNT 2 MiB blocks by the spill order. -/
  | blockAlloc (f : FnId) (v : Word32) (grants : List Nat)
  /-- BLOCK_ALLOC_DONE (R236): After the blocks are zeroed and listed, TU_ALLOC_STATUS is written, spills reported and GO returns to 0. -/
  | blockAllocDone (f : FnId) (listOk : Bool) (t : Nat)
  /-- BLOCK_FREE (R237): A TU_FREE write frees and scrubs a block owned by the named context, or sets FREE_ERR. -/
  | blockFree (f : FnId) (v : Word64)
  /-- PATROL_READ (R227): The memory controller's patrol reads a granule, correcting or counting and latching errors. -/
  | patrolRead (pa : Addr48) (symbols : Nat) (t : Nat)
  /-- BATCH_ENTRY_WRITE (R251): A GH_BATCH_ENTRY write marks entries of a READY context as batch entries, keeping invalid fields. -/
  | batchEntryWrite (f : FnId) (v : Word64)
  /-- BATCH_TABLE_STEP (R255): After a batch RUN's waits are satisfied the Gatehouse classifies the length table, writes STATE bytes and the live record, then starts instances. -/
  | batchTableStep (i : ItemId) (t : Nat) (host : List Host.Cell)
  /-- SD_SOURCE_WRITE (R265): A write changing SD_CFG.SOURCE moves Sundial to ACQUIRING or FREE_RUN for the new discipline. -/
  | sdSourceWrite (f : FnId) (v : Word32)
  /-- SD_SET (R267): A write of SD_SET steps Sundial's seconds at once or at the next PPS edge, ignored once a plan queue exists. -/
  | sdSet (f : FnId) (v : Word64)
  /-- PPS_EDGE (R267): An active PPS edge is stamped and disciplines or steps Sundial, and stamps GNSS fixes. -/
  | ppsEdge (rising : Bool) (t : Nat)
  /-- GPTP_SYNC (R269): A gPTP sync exchange updates Sundial's offset, stepping or slewing it and possibly reaching LOCKED. -/
  | gptpSync (port : Fin 4) (offset : Int) (t : Nat)
  /-- SOURCE_LOST (R268): Loss of the selected time source puts Sundial in HOLDOVER and sets SOURCE_LOST. -/
  | sourceLost (src : TimeSource)
  /-- TIME_BUS_SYNC (R270): A time-bus sync message every 1 µs corrects each die's replica. -/
  | timeBusSync (die : DieId) (t : Nat)
  /-- REPLICA_STOPPED (R271): A replica whose clock stops or that misses four sync messages enters STOPPED and its stamps become invalid. -/
  | replicaStopped (die : DieId) (t : Nat)
  /-- REPLICA_RESYNC (R271): A replica whose clock returns reaches SYNC within 10 µs. -/
  | replicaResync (die : DieId)
  /-- PLAN_CYCLE_BOUNDARY (R25): At each whole millisecond of Sundial time a plan cycle starts: sections take effect, the fusion snapshot is taken and windows and watchdogs arm. -/
  | planCycleBoundary (t : Nat)
  /-- CAMERA_TRIGGER (R273): At each multiple of TRIGGER_PERIOD_US the hub drives the camera's trigger edge. -/
  | cameraTrigger (port : Fin 16) (t : Nat)
  /-- CAMERA_FRAME (R273): A received camera frame is matched to its trigger, stamped, checked for freezing and written to its ingest ring. -/
  | cameraFrame (fr : CameraSample)
  /-- LIDAR_PACKET (R272): A received lidar UDP packet is stamped from its PTP timestamp, classified and written to its ingest ring. -/
  | lidarPacket (pk : LidarSample)
  /-- SPI_DATA_READY (R272): An IMU or odometry data-ready edge stamps a sample read over SPI and written to its ingest ring. -/
  | spiDataReady (port : Fin 4) (bytes : List Byte) (edge : Nat) (arrival : Nat)
  /-- GNSS_FIX (R272): A GNSS fix received on the UART is stamped at its PPS edge and written to its ingest ring. -/
  | gnssFix (bytes : List Byte) (arrival : Nat)
  /-- FUSION_PUBLISH (R296): The Fusion Engine finishes aligning, voting, tracking and writing grid, object list and world epoch, writes the status record last and increments OUT_SYNC_ID. -/
  | fusionPublish (inp : FusionInput) (t : Nat)
  /-- MAZE_WINDOW_OPEN (R315): At the Maze window's opening the Maze binds the newest epoch, reads the machine state, masks edges, generates stops and runs the stop pass. -/
  | mazeWindowOpen (t : Nat) (x : MazeOpening)
  /-- MAZE_PASS (R317): A PASS step checks a range of edges against the bound epoch. -/
  | mazePass (bad : MazeUpset)
  /-- MAZE_SEARCH (R325): A SEARCH step runs a bounded best-first search over valid edges for a chain. -/
  | mazeSearch
  /-- MAZE_SKIP_IF_FOUND (R324): A SKIP_IF_FOUND step skips the next N steps when a chain is held. -/
  | mazeSkipIfFound
  /-- MAZE_END (R324): An END step ends the search program and reports the Maze stage complete. -/
  | mazeEnd (t : Nat)
  /-- MAZE_WINDOW_CLOSE (R327): The Maze window's close ends any running program and reports stage completion. -/
  | mazeWindowClose (t : Nat)
  /-- PUBLICATION_OPEN (R328): At the publication window's opening the Maze takes the held chain and stop and decides whether to recheck. -/
  | publicationOpen (t : Nat)
  /-- RECHECK_PASS (R328): A recheck pass against the newest epoch ends, invalidating the chain on any block and choosing the held stop again. -/
  | recheckPass (t : Nat) (bad : MazeUpset)
  /-- PLAN_COMMIT (R331): The Maze selects the result by precedence, writes the result slot and commits it to Belvedere B. -/
  | planCommit (t : Nat)
  /-- PART_SPLIT_WRITE (R343): A GH_PART_SPLIT write changes the shelf and memory split only when the affected partitions are empty and the values fit. -/
  | partSplitWrite (f : FnId) (v : Word32)
  /-- PART_MAP_WRITE (R343): A GH_PART_MAP write changes a class's sync range and function only when empty and non-overlapping. -/
  | partMapWrite (f : FnId) (k : Class) (v : Word64)
  /-- WINDOW_OPEN (R346): A schedule window opens, letting its class's instances rank and run. -/
  | windowOpen (w : WindowId) (t : Nat)
  /-- WINDOW_CLOSE (R346): A schedule window closes and its contexts' tiles are vacated. -/
  | windowClose (w : WindowId) (t : Nat)
  /-- REGULATOR_WINDOW (R350): At each regulator window start every count returns to zero and pauses end, and misses of the ending window are reported. -/
  | regulatorWindow (t : Nat) (waiting : List MasterId)
  /-- THROTTLE_LEVEL_CHANGE (R352): A queue's occupancy crossing a threshold changes its throttle level and pauses or resumes counts. -/
  | throttleLevelChange (qu : OutQueue) (occupancy : Nat)
  /-- BW_MASTER_GUARANTEE_WRITE (R354): A BW_MASTER_GUARANTEE write takes effect only if the class pool and the master's limit allow it. -/
  | bwMasterGuaranteeWrite (f : FnId) (v : Word32)
  /-- BW_MASTER_CLASS_WRITE (R354): A BW_MASTER_CLASS write moves a master's guarantee to a class only if that pool allows it. -/
  | bwMasterClassWrite (f : FnId) (v : Word32)
  /-- LOCKSTEP_MISMATCH (R358): An island's lockstep comparator mismatch asserts its outputs, resets its cores and latches LOCKSTEP. -/
  | lockstepMismatch (isl : Island)
  /-- ISLAND_HEARTBEAT (R359): An island receives its peer's heartbeat, clearing PEER_LOST after 1 ms without a miss. -/
  | islandHeartbeat (x : PeerHeartbeat)
  /-- PEER_HEARTBEAT_LOSS (R359): Three missed peer heartbeats assert the island's outputs with PEER_LOST, and HUB_LOST in Belvedere B. -/
  | peerHeartbeatLoss (isl : Island)
  /-- BOUNDARY_TIMEOUT (R360): A boundary spacing outside limits, or no boundary 1.03 ms after the last, latches BOUNDARY. -/
  | boundaryTimeout (isl : Island) (spacing : BoundarySpacing)
  /-- GATEHOUSE_HEARTBEAT (R361): Belvedere A receives the Gatehouse firmware heartbeat. -/
  | gatehouseHeartbeat
  /-- GATEHOUSE_HEARTBEAT_LOSS (R361): No Gatehouse heartbeat for 300 µs latches DEVICE in Belvedere A. -/
  | gatehouseHeartbeatLoss
  /-- HELD_STOP_FRAME (R361): While DEVICE, HUB_LOST or a trip holds, Belvedere B sends a held-stop result frame every 1 ms of its own time. -/
  | heldStopFrame
  /-- SAFE_RELEASE (R364): A keyed BV_SAFE_RELEASE write clears the latched causes of the named islands, or acknowledges a failed start-up test. -/
  | safeRelease (f : FnId) (v : Word32)
  /-- STOP_REQUEST_FRAME (R367): A frame on STOP_ID latches EXTERNAL when its bytes match, or is counted as rejected. -/
  | stopRequestFrame (isl : Island) (ident : BitVec 29) (data : List Byte)
  /-- CAN_BUS_OFF (R365): A CAN controller entering bus-off recovers and sets its BV_CAN_STATUS bit. -/
  | canBusOff (ctl : Fin 4) (off : Bool)
  /-- ISLAND_SUPPLY_FAULT (R363): An island supply out of range for 5 µs asserts its outputs with SUPPLY. -/
  | islandSupplyFault (isl : Island)
  /-- ISLAND_OSCILLATOR_FAULT (R363): An island oscillator more than 10 % off for 20 µs asserts its outputs with OSCILLATOR. -/
  | islandOscillatorFault (isl : Island)
  /-- ISLAND_RESET (R357): An island's reset input resets that island alone. -/
  | islandReset (x : ResetLevel)
  /-- WATCHDOG_COMPLETION (R370): A watched stage's completion event is judged against its window, latching WINDOW when early. -/
  | watchdogCompletion (w : WindowId) (t : Nat)
  /-- WATCHDOG_DEADLINE (R370): No completion stamped by WD_CLOSE_US is declared a late timing fault 200 ns later. -/
  | watchdogDeadline (w : WindowId) (t : Nat)
  /-- PAIR_SIGNATURE (R376): A copy of a PAIRED instance sends its tile signature at a yield point or end, and the second arrival is compared. -/
  | pairSignature (w : InstanceId) (t : Nat)
  /-- PAIR_TIMEOUT (R377): A second signature not arriving within 50 µs fails the comparison. -/
  | pairTimeout (i : ItemId) (n : Nat) (t : Nat)
  /-- GOLDEN_RESERVE (R382): A lead time before a golden window the Gatehouse reserves tiles and posts VACATE to them. -/
  | goldenReserve (w : WindowId) (t : Nat)
  /-- GOLDEN_RUN (R383): In a golden window the Gatehouse writes the patch and runs one golden instance, comparing its end signature. -/
  | goldenRun (i : ItemId) (w : WindowId) (t : Nat)
  /-- STARTUP_TEST (R386): After the last Kiln die leaves reset the islands force every comparator to flag and take failures out of service. -/
  | startupTest (o : StartupOutcome) (t : Nat)
  /-- SELFTEST_SEGMENT_START (R389): A periodic self-test segment starts on a free tile when timing and waiting-work conditions allow. -/
  | selftestSegmentStart (u : SegmentUnit) (t : Nat)
  /-- SELFTEST_SEGMENT_ABORT (R390): A segment running when a B or D window opens, or a B or D instance needs the tile, is aborted within 2 µs. -/
  | selftestSegmentAbort (u : SegmentUnit) (t : Nat)
  /-- SELFTEST_SEGMENT_END (R388): A self-test segment completes and frees its tile. -/
  | selftestSegmentEnd (u : SegmentUnit) (pass : Bool) (t : Nat)
  /-- SELFTEST_LAG (R391): A tile's last full test passing 100 ms sets BV_SELFTEST.LAG and reports cause 0x10. -/
  | selftestLag (tl : TileId) (t : Nat)
  /-- TARGETED_TEST_END (R393): A targeted test ends, fencing a unit that fails or passes its fourth test in 24 h, and rewrites the fault record. -/
  | targetedTestEnd (unit : BitVec 16) (shelf : Byte) (pass : Bool) (t : Nat)
  /-- FAULT_REPORT (R396): A report to a fault aggregator opens or joins a fault epoch and counts votes. -/
  | faultReport (die : DieId) (r : FaultReport) (t : Nat)
  /-- FAULT_EPOCH_CLOSE (R397): 10 µs after its first report an epoch closes, is attributed, recorded and interrupts the island and Gatehouse. -/
  | faultEpochClose (die : DieId) (t : Nat)
  /-- FLIT_RECEIVE (R403): A received Trellis or Pergola flit is acknowledged, or replayed from the retry buffer on a bad CRC or sequence. -/
  | flitReceive (m : ModuleId) (flit : FlitPassage)
  /-- LINK_ERROR_THRESHOLD (R404): A module crossing its replay threshold makes an error retrain and reports cause 0x0A. -/
  | linkErrorThreshold (m : ModuleId) (t : Nat)
  /-- LINK_TRAINING (R405): A module's training attempt runs detection, lane training, mask exchange and check, becoming ACTIVE or retraining. -/
  | linkTraining (m : ModuleId) (a : TrainingAttempt) (t : Nat)
  /-- LINK_DETECT_TIMEOUT (R405): DETECT without a partner for 1 ms goes DOWN and retries every 10 ms. -/
  | linkDetectTimeout (m : ModuleId)
  /-- LINK_RESET_SEQUENCE (R409): A received reset sequence discards the retry buffer and retrains the module from scratch. -/
  | linkResetSequence (m : ModuleId)
  /-- DIE_LOST (R410): A Kiln die without route to the hub, or the Maze die without its module, is declared lost and the die-loss rules apply. -/
  | dieLost (die : DieId) (t : Nat)
  /-- PERGOLA_TIME (R414): The leader's Sundial time sent every 1 µs over Pergola disciplines the non-leader's Sundial. -/
  | pergolaTime (leader : Nat) (t : Nat)
  /-- PAIR_TOPOLOGY_REFRESH (R415): The outbound routing table is refreshed after a change of the partner's topology GENERATION. -/
  | pairTopologyRefresh (states : List (DieId × Byte × Byte))
  /-- PAIR_LINK_LOSS (R416): Loss of the pair link clears PAIR, faults partner-dependent items and puts the non-leader's Sundial in HOLDOVER. -/
  | pairLinkLoss (t : Nat)
  /-- PAIR_LEND_RECLAIM (R416): 100 ms after a pair loss without recovery the lent blocks are scrubbed and freed. -/
  | pairLendReclaim (t : Nat)
  /-- REFCLK_LOSS (R418): Loss of REFCLK switches the hub PLLs to the internal oscillator and enters reduced mode. -/
  | refclkLoss (t : Nat)
  /-- FORWARDED_CLOCK_LOSS (R420): A die's clock-loss detector holds it in reset and the hub declares the die lost. -/
  | forwardedClockLoss (die : DieId) (t : Nat)
  /-- COLD_RESET (R421): Power-on, COLD_RESET_N low or a Lodge request resets the whole package, after which the Lodge boot sequence runs. -/
  | coldReset (b : BootInput)
  /-- PERST_N (R421): PERST_N asserted triggers a hub warm reset including the PCIe endpoint. -/
  | perstN (t : Nat)
  /-- TL_RESET_HUB (R425): A keyed TL_RESET write with LEVEL 1 performs a hub warm reset. -/
  | tlResetHub (f : FnId) (v : Word32) (t : Nat)
  /-- TL_RESET_DIE (R426): A keyed TL_RESET write with LEVEL 0 runs the die reset sequence of a Kiln or the Maze die. -/
  | tlResetDie (f : FnId) (v : Word32) (t : Nat) (o : StartupOutcome)
  /-- PARTITION_RESET (R428): A keyed GH_PART_RESET write runs the partition reset sequence of one class. -/
  | partitionReset (f : FnId) (v : Word32) (t : Nat) (x : PartitionRun)
  /-- PARTITION_PURGE_TIMEOUT (R428): Units still holding a class's tags 3 ms into step 3 discard them and report cause 0x0C. -/
  | partitionPurgeTimeout (x : PartitionPurge)
  /-- TILE_RESET (R60): A tile reset ends its instances and chains for replay, keeping shelf contents. -/
  | tileReset (tl : TileId)
  /-- DUMP_START (R430): DB_DUMP_CTRL.GO, or a hub warm reset with AUTO, starts a crash dump of the selected regions. -/
  | dumpStart (f : FnId) (v : Word32) (t : Nat)
  /-- DUMP_END (R433): A crash dump ends, writing header and result to host memory or flash. -/
  | dumpEnd (hostOk : Bool) (unreadable : List Nat) (t : Nat)
  /-- GOVERNOR_TICK (R435): Every 10 µs the governor compares each Kiln die's draw with its share and lowers, raises, parks or unparks it. -/
  | governorTick (d : PowerDraws) (t : Nat)
  /-- PM_KILN_CEILING_WRITE (R435): A PM_KILN.CEILING write limits a die's level, lowering it one level per 10 µs when below. -/
  | pmKilnCeilingWrite (f : FnId) (k : KilnId) (v : Word64)
  /-- AVS_REQUEST (R440): A voltage request sends a commit write, waits for acknowledge and transition done, then raises frequency on a raise. -/
  | avsRequest (k : KilnId) (retries : Nat) (mv : Nat)
  /-- AVS_REQUEST_FAIL (R441): A voltage request that goes unanswered or overruns sets PM_AVS_STATUS.FAIL, logs it and schedules a retry 1 ms later. -/
  | avsRequestFail (k : KilnId) (retries : Nat) (t : Nat)
  /-- POWER_TELEMETRY (R439): Every 1 ms the device reads rail voltages and currents to form package power. -/
  | powerTelemetry (rails : List (Nat × Nat))
  /-- SLEW_ADMIT (R442): The die's slew governor admits a waiting engine activation once the current-step budget allows. -/
  | slewAdmit (k : KilnId) (tl : TileId) (milliamps : Nat) (t : Nat)
  /-- SLEEP_ENTRY (R445): A PM_SLEEP write with GO and TARGET 1 to 4 enters the sleep state when its conditions hold. -/
  | sleepEntry (f : FnId) (v : Word32) (t : Nat) (wake : Option (Fin 4))
  /-- SLEEP_RETURN_REQUEST (R448): A PM_SLEEP write with GO and TARGET 0 in S1 or S2 starts the return. -/
  | sleepReturnRequest (f : FnId) (v : Word32)
  /-- WAKE_ADDRESS (R448): A wake-port address byte matching PM_WAKE.ADDRESS in S1 to S4 is acknowledged and starts the return. -/
  | wakeAddress (b : Byte)
  /-- SLEEP_RETURN (R449): The return runs regulator, oscillator, memory and logic steps and restores state, or performs cold reset on a repeated failure. -/
  | sleepReturn (o : ReturnOutcome) (t : Nat)
  /-- PM_RETAIN_WRITE (R446): A PM_RETAIN write selects retained segments, keeping a byte that omits the reserved-area segment. -/
  | pmRetainWrite (f : FnId) (v : Word64)
  /-- THERMAL_SAMPLE (R455): Every 1 ms the Lodge reads all thermal sensors and the coolant sensor, detecting sensor failure and flow stop. -/
  | thermalSample (x : LodgeSample) (coolant : Option Int) (t : Nat)
  /-- R_EST_UPDATE (R452): Every 10 ms the thermal resistance estimate is updated and the cap law recomputed. -/
  | rEstUpdate (t : Nat)
  /-- HOT_STEP (R454): Every 100 µs while Tj exceeds 118 °C the hottest unparked Kiln die is lowered one level. -/
  | hotStep (t : Nat)
  /-- THERMAL_TRIP (R456): Two comparator readings at 125 °C latch THERMAL and ramp down every core rail until cold reset. -/
  | thermalTrip (sensor : Fin 76)
  /-- MBOX_STATUS (R478): The STATUS mailbox command writes the directory, lifecycle, counters and serial to the buffer. -/
  | mboxStatus (g : MboxGo)
  /-- MBOX_UPDATE (R469): The UPDATE mailbox command verifies an image and writes it into the inactive slot. -/
  | mboxUpdate (g : MboxGo) (flashOk : Bool)
  /-- MBOX_ACTIVATE (R469): The ACTIVATE mailbox command sets TRIAL for the masked kinds and performs package cold reset. -/
  | mboxActivate (g : MboxGo) (b : BootInput)
  /-- MBOX_COMMIT (R469): The COMMIT mailbox command makes a running trial slot active and raises its anti-rollback counter. -/
  | mboxCommit (g : MboxGo)
  /-- MBOX_ATTEST (R472): The ATTEST mailbox command writes a signed attestation report over the host nonce. -/
  | mboxAttest (g : MboxGo)
  /-- MBOX_LOG_READ (R478): The LOG_READ mailbox command copies log entries from the ring or flash mirror to the buffer. -/
  | mboxLogRead (g : MboxGo)
  /-- MBOX_LIFECYCLE (R473): The LIFECYCLE mailbox command verifies an authorization image, blows lifecycle and revoke fuses and resets. -/
  | mboxLifecycle (g : MboxGo) (b : BootInput)
  /-- MBOX_CERTS (R471): The CERTS mailbox command writes the certificate chain to the buffer. -/
  | mboxCerts (g : MboxGo)
  /-- LOG_MIRROR_FLUSH (R477): A full log page, or one 1 s old, is copied to the flash mirror. -/
  | logMirrorFlush (t : Nat)
  /-- BREAKPOINT_HIT (R482): A Sequencer about to issue at an armed breakpoint address halts the tile. -/
  | breakpointHit (tl : TileId)
  /-- WATCH_HIT (R483): A Sequencer memory instruction touching a watched range halts the tile after it completes. -/
  | watchHit (tl : TileId)
  /-- DB_HALT (R484): A DB_HALT_CTRL.HALT write stops issue on a tile and drains its engines. -/
  | dbHalt (f : FnId) (tl : TileId) (v : Word32)
  /-- HALT_DRAINED (R484): When no engine instruction of the halted instance remains the halt state reads halted. -/
  | haltDrained (tl : TileId)
  /-- DB_RESUME (R485): A DB_HALT_CTRL.RESUME write resumes issue from the halted PC. -/
  | dbResume (f : FnId) (tl : TileId) (v : Word32)
  /-- DB_STEP (R485): A DB_HALT_CTRL.STEP write issues one instruction alone and halts again. -/
  | dbStep (f : FnId) (tl : TileId) (v : Word32)
  /-- GH_HALT (R487): A Gatehouse halt request or hit stops the core and its helpers, stopping acceptance, publication and posting. -/
  | ghHalt (cause : GhHaltCause)
  /-- GH_RESUME (R487): A DB_GH_HALT resume restarts the Gatehouse core. -/
  | ghResume (f : FnId) (v : Word32)
  /-- GH_STEP (R487): A DB_GH_HALT step issues one Gatehouse instruction and halts again. -/
  | ghStep (f : FnId) (v : Word32) (pc : Word32)
  /-- ENG_SELECT_WRITE (R491): A DB_ENG_SELECT write of REASON restarts the selected-reason counter at zero. -/
  | engSelectWrite (f : FnId) (tl : TileId) (v : Word32)
  /-- TRACE_RECORD (R495): A source emits a trace record into its queue, or drops and counts it when full. -/
  | traceRecord (r : TraceInput) (t : Nat)
  /-- LTB_HALF_DRAIN (R497): A full local trace buffer half, or one 10 ms old, is written to the next host slot and the count updated. -/
  | ltbHalfDrain (buf : Fin 5) (t : Nat)
  /-- FUNCTION_LEVEL_RESET (R504): A function-level reset resets the function's partitions and disables its queues, ending VFs for the PF. -/
  | functionLevelReset (f : FnId) (t : Nat)
  /-- SRIOV_VF_CHANGE (R503): Clearing VF Enable or lowering NumVFs resets every VF that ceases to exist. -/
  | sriovVfChange (enable : Bool) (numVfs : Nat) (t : Nat)
  /-- FUNCTION_POWER_STATE (R505): A function entering D3hot or clearing Bus Master Enable holds its requests until it returns to D0 with BME set. -/
  | functionPowerState (f : FnId) (d3hot : Bool) (busMaster : Bool)
  /-- BAR4_ACCESS (R509): A BAR4 access reads or writes LPDDR6 through the window, returning all-ones or poison where absent or uncorrectable. -/
  | bar4Access (a : Bar4Access)
  /-- HOST_READ_ERROR (R513): A failed host-memory read is latched in HI_HOST_ERR and handled by its reader. -/
  | hostReadError (e : HostReadError)
  /-- RAIL_FAULT (R520): A supply rail out of range for 2 µs holds its die or the package in reset, or raises an island SUPPLY cause. -/
  | railFault (rail : Rail) (t : Nat)
  /-- REGISTER_READ_CLEAR (R10): A host read of a register holding RC fields returns them and clears them, and a read of SD_TIME_NS latches the fraction into SD_TIME_FRAC. -/
  | registerReadClear (a : BusRead)
  /-- COPY_TRANSFER_END (R42): A COPY's DMA transfer completes its last write and the item becomes done, or stops at once on a walk fault or uncorrectable read. -/
  | copyTransferEnd (i : ItemId) (host : List Host.Cell) (t : Nat)
  /-- BLOCK_SCRUB_DONE (R428): The scrub of a freed 2 MiB block ends and the block becomes free, raising FREE_MIB. -/
  | blockScrubDone (blk : Nat)
  /-- REFCLK_RESTORED (R419): The 100 MHz reference returns to valid and PM_CLK_STATUS.REF_VALID reads 1 again while reduced mode stays in force. -/
  | refclkRestored
  /-- RAIL_RESTORED (R520): A supply rail returns to its operating range, clearing an island's SUPPLY cause or, after 1 ms with every rail in range, releasing the package cold reset hold. -/
  | railRestored (rail : Rail) (b : BootInput)
  /-- ISLAND_OSCILLATOR_RESTORED (R363): An island oscillator back within 10 % of the hub reference ends its OSCILLATOR cause, which holds only while the condition lasts. -/
  | islandOscillatorRestored (isl : Island)
  /-- PCIE_LINK_CHANGE (R241): The PCIe link trains, retrains or goes down, updating HI_LINK and the host rows of the topology table and advancing GENERATION. -/
  | pcieLinkChange (speed : Fin 6) (width : Nat) (up : Bool)
  /-- TRACE_LINK_CHANGE (R496): The trace probe gains or loses lane lock, setting DB_TRACE_STATUS.LINK_UP and, on link start, sending ASYNC and VERSION. -/
  | traceLinkChange (up : Bool)
  /-- PARTNER_ACCESS (R415): An inbound access from the pair partner over Pergola reaches a lent block, or is refused outside the lend map. -/
  | partnerAccess (pa : Addr48) (write : Option (List Byte)) (n : Nat)
  /-- PARTNER_LEND_REQUEST (R235): A level-4 block request from the pair partner is granted from this package's QM memory up to TU_PAIR_LEND.LIMIT, raising LENT. -/
  | partnerLendRequest (count : Nat)
  deriving DecidableEq, Repr

end Sys2Proof
end

