-- ==== Sys2Proof/Config.lean ====
section
/-! DEFINITION. What an implementation fixes and the free values: constants without a body, of which
nothing can be proved but that they are values of their type. Each is named in an assumption log. -/

namespace Sys2Proof.Config

/-- The nth free value drawn from the state's counter, for a choice that the manual leaves open. -/
opaque freeNat : Nat → Nat

/-- The fraction of a nanosecond, in 2⁻¹⁶ ns, that Sundial time has at an event which its command gives in whole ns. -/
opaque subNs : Nat → BitVec 16

/-- How a tile's engines share the clock cycles of an interval between busy, stalled and idle, and what holds them in the
stalled ones: the kth number of a draw (R488, R489). -/
opaque engineCycle : (seed step k : Nat) → Nat

/-- The result of `vfn` FUNC for an FP32 input that R206 does not fix: the firmware tables' value. -/
opaque vfn : Nat → Word32 → Word32

/-- SHA-512 of a byte string (64 B), a standard outside the manual (R462). -/
opaque sha512 : List Byte → List Byte

/-- Whether an ECDSA P-521 signature (r, s) under a public key is valid for a byte string (R462). -/
opaque ecdsaValid : (pubkey : List Byte) → (r : List Byte) → (s : List Byte) → List Byte → Bool

/-- The 132 B signature of the Alias key over a byte string (R472). -/
opaque aliasSign : List Byte → List Byte

/-- The Alias certificate for the five measurements and versions (R471). -/
opaque aliasCert : List (List Byte) → List Nat → List Byte

/-- The 8 B destination tag that stands for a register (kind 0 s, 1 a, 2 p, 3 v) or a sync object
(kind 4) in a bus signature: R375 names such tags and gives no code for them. -/
opaque busTag : (kind index : Nat) → Nat

/-- Typical read latency in ns of a path on a route for which R242's table gives none. -/
opaque pathLatency : (src dst hops via : Nat) → Nat

/-- Bandwidth in units of 100 MB/s of the host link at a speed code and width of HI_LINK other than 32 GT/s and
8 lanes, for which R501 gives the figure. -/
opaque hostRate : (speed width : Nat) → Nat

end Sys2Proof.Config
end

