-- ==== Sys2Proof/Machine/State.lean ====
section
/-! DEFINITION. The state of the block as plain data: every register, table, buffer, queue and pin the
manual gives the SYK8-A, the queue of waiting commands, and the state after package cold reset. Tables
are sparse lists of key and value with a stated default; memory is the canonical list of `Host.Cell`. -/

namespace Sys2Proof.Machine

/-- A sparse table: keys strictly rising, a key absent reads as the table's stated default. -/
abbrev Tab (α : Type) := List (Nat × α)

/-- Byte memory by address, canonical: addresses strictly rising, no entry holding 0. -/
abbrev Memory := List Host.Cell

/-! ## Gatehouse: queues, items, contexts (R31 to R78) -/

/-- One submission queue with its registers GH_SQ_CFG, GH_SQ_STATUS, GH_SQ_BASE and GH_SQ_CQ_BASE. -/
structure Queue where
  /-- GH_SQ_CFG.SIZE_LOG2, 4 to 12. -/
  sizeLog2    : BitVec 4
  enable      : Bool
  cls         : Class
  planQueue   : Bool
  /-- GH_SQ_CFG.FUNCTION, 0 to 8. -/
  function    : BitVec 4
  /-- A write cleared ENABLE and its effect is pending (R33). -/
  clearPending : Bool
  /-- GH_SQ_STATUS.HEAD. -/
  head        : BitVec 12
  doorbellErr : Bool
  planDrop    : Bool
  /-- Host bus address of the ring, bits [11:0] zero. -/
  base        : Word64
  cqBase      : Word64
  /-- Last submission doorbell INDEX (R508). -/
  subIndex    : BitVec 12
  /-- Last completion doorbell INDEX (R508). -/
  cqIndex     : BitVec 12
  /-- Completion slots written and not freed by the host (R35). -/
  cqUsed      : Nat
  /-- SEQ of the next descriptor or plan item (R55). -/
  nextSeq     : Word32
  /-- SEQ of the next record to publish (R52). -/
  pubSeq      : Word32
  /-- A descriptor fetched and found valid, whose journal write is not yet acknowledged (R46). -/
  fetched     : Option (List Byte)
  /-- Its block or header bytes as checked, kept for the item. -/
  block       : List Byte
  /-- The last fetch failed on the host bus and waits for its retry (R513). -/
  fetchFailed : Bool
  deriving DecidableEq, Repr

/-- The stage of a listed item: `rejected` has only a record to publish (R47), the others are the
journal's STATE 1 to 3 (R48). STATE 4 leaves the list. -/
inductive Stage where
  | rejected | accepted | running | done
  deriving DecidableEq, Repr

/-- Why a begun instance that holds no tile does not rank (R66, R161, R179, R376). -/
inductive InstWait where
  | ready
  | dma
  | sync (id : BitVec 16) (v : Word32)
  deriving DecidableEq, Repr

/-- One copy of an instance, started and not ended (R94). -/
structure Inst where
  id     : InstanceId
  /-- Its seed slot, 0 to 255. -/
  slot   : Byte
  /-- The tile that holds it (R108). -/
  tile   : Option TileId
  wait   : InstWait
  /-- A signature was sent at a yield point and its comparison has not passed (R376). -/
  paired : Bool
  /-- The instance is the golden run of its item (R383). -/
  golden : Bool
  /-- Number of yield points it has issued (R376). -/
  points : Nat
  /-- DMA chains it has issued, for R375. -/
  issued : Nat
  /-- Its five bus signatures of R375: Sequencer, drain, V0, V1, DMA. -/
  sigs   : Vector Word64 5
  /-- Results of its `salloc` and `sfree`, in order, and how many of its partner's a second copy has
  taken (R374). -/
  results : List Word64
  took   : Nat
  /-- It has issued `end` and waits for the comparison there (R376). -/
  finished : Bool
  /-- Signatures of yield points formed and not yet arrived at the comparator, oldest first: point and
  signature (R376). -/
  unsent  : List (Nat × Word64)
  /-- Its signature at `end` has arrived at the comparator. -/
  endSent : Bool
  /-- The tile that it ran on last. -/
  ranOn   : Option TileId
  deriving DecidableEq, Repr

/-- The golden duty of a GOLDEN item (R383 to R385). -/
inductive GoldenDuty where
  | none | due | running (w : WindowId) | passed | deferred
  deriving DecidableEq, Repr

/-- An accepted (or rejected), unpublished item. -/
structure Item where
  id       : ItemId
  /-- The 64 B descriptor; for a plan item the 64 zero bytes. -/
  desc     : List Byte
  /-- The creation block, configuration block or batch header bytes, as checked at acceptance. -/
  block    : List Byte
  /-- A plan-queue item (R56). -/
  plan     : Bool
  /-- Sundial acceptance time in ns. -/
  accepted : Nat
  stage    : Stage
  /-- The type's own row has taken up the accepted item (RUN, COPY, ... of the table). -/
  taken    : Bool
  /-- It has begun under R531. -/
  began    : Bool
  /-- Bit i: wait i has been satisfied (R73). -/
  waits    : BitVec 4
  /-- Replays so far (R58). -/
  replays  : Nat
  /-- The latest hardware error that calls for a replay, not yet replayed (R58). -/
  error    : Option (BitVec 16 × Word32)
  /-- The status and DETAIL with which it completes once its instances and chains have ended. -/
  verdict  : Option (BitVec 16 × Word32)
  /-- The verdict bars its signals whatever its status (R60: SIGNALS_DROPPED). -/
  dropped  : Bool
  /-- Instance indexes that must run: all of them, or the live entries of a batch (R258). -/
  todo     : List Nat
  /-- Instances ended so far. -/
  ended    : Nat
  /-- A batch RUN at acceptance (R250). -/
  batch    : Bool
  /-- The table step of a batch RUN has run in this attempt (R255). -/
  tabled   : Bool
  /-- The batch item has been counted in GH_BATCH_REJECT (R260). -/
  counted  : Bool
  spilled  : Bool
  paired   : Bool
  golden   : GoldenDuty
  /-- Frame number of a GOLDEN item within its context (R381); of a plan item the low bits of its cycle
  number, its TAG (R55). -/
  frame    : Word32
  /-- Clock cycles B and O of R71 over all instances, and the busy time in units of 1/108 ns. -/
  busy     : Nat
  other    : Nat
  busyNs   : Nat
  /-- A COPY's engine tile, while its transfer runs (R42). -/
  engine   : Option TileId
  /-- Sundial time at which that transfer began (R429). -/
  engineAt : Nat := 0
  /-- The tile on which the latest error that calls for a replay came up: the replay runs on another (R42, R58). -/
  avoid    : Option TileId := none
  /-- Instances whose access has met a translation fault: their later accesses are abandoned (R231). -/
  abandoned : List InstanceId := []
  /-- Bytes that a running COPY has moved (R42). -/
  copied   : Nat := 0
  deriving DecidableEq, Repr

/-- Context states of R61. -/
inductive CtxState where
  | free | loading | ready | faulted | closing
  deriving DecidableEq, Repr

/-- A context: its creation block (R43) and what the device keeps for its ID. -/
structure Context where
  state      : CtxState
  cls        : Class
  home       : KilnId
  /-- Shelf quota. -/
  shelves    : Nat
  imageAddr  : Addr48
  imageLen   : Nat
  imageCrc   : Word32
  ttRoot     : Addr48
  windowMask : Byte
  seedShelf  : Nat
  /-- CHECK_K, Q8.8. -/
  checkK     : BitVec 16
  guarantee  : Word32
  limit      : Word32
  /-- The item that created it. -/
  creator    : ItemId
  /-- Status of its first fault (R532). -/
  firstFault : BitVec 16
  /-- Context shelf index to physical shelf ID (R84). -/
  map        : Tab Nat
  /-- The same for its shadow set (R373), which exists when `shadowed`. -/
  shadow     : Tab Nat
  shadowed   : Bool
  /-- Entry table of the image (R182). -/
  entries    : List Word32
  /-- Sticky mask of Kiln dies its walks touched (R232). -/
  mask       : BitVec 4
  /-- Its GH_BATCH_ENTRY register (R250). -/
  batch      : Word64
  /-- TU_CTX_TRAFFIC for levels 3, 4 and 5 (R239). -/
  traffic3   : Word64
  traffic4   : Word64
  traffic5   : Word64
  /-- The teardown's item, step and the Sundial time at which step 3 began (R63). -/
  closer     : Option ItemId
  closing3   : Option Nat
  /-- The teardown has completed with ST_TEARDOWN_STALLED and this DETAIL (R64). -/
  stalled    : Option Word32
  /-- Golden frames accepted, and whether the latest was deferred (R381, R385). -/
  frames     : Word32
  lastDeferred : Bool
  deriving DecidableEq, Repr

/-- A Sync Fabric operation sent by a tile and not yet applied (R177). -/
structure SyncOp where
  reset : Bool
  id    : BitVec 16
  value : Word32
  deriving DecidableEq, Repr

/-- GH_FAULT_CTX. -/
structure FaultCtx where
  ctx       : BitVec 10
  status    : BitVec 16
  tile      : Byte
  tileValid : Bool
  valid     : Bool
  deriving DecidableEq, Repr

/-- A function's progress block (R76, R77). -/
structure Progress where
  /-- GH_PROGRESS_BASE: ENABLE in bit 0, ADDR in [63:8]. -/
  base       : Word64
  writeCount : Word64
  deriving DecidableEq, Repr

/-- The Gatehouse. -/
structure Gatehouse where
  queues     : Tab Queue
  items      : List Item
  insts      : List Inst
  contexts   : Tab Context
  ctxSelect  : BitVec 10
  faultCtx   : FaultCtx
  lateDrop   : Word32
  /-- GH_JOURNAL_STATUS: mirror dies, REBUILDING and SINGLE; a mirror is `none` when none exists. -/
  mirrorA    : Option KilnId
  mirrorB    : Option KilnId
  rebuilding : Bool
  single     : Bool
  progress   : Tab Progress
  /-- HEARTBEAT and PUBLISHED for QM, B, D (R76) and whether the class moved since the last write. -/
  heartbeat  : List Word32
  published  : List Word64
  moved      : List Bool
  batchSelect : BitVec 10
  rejectEntries : BitVec 16
  rejectItems   : BitVec 16
  deriving DecidableEq, Repr

/-- The Sync Fabric (R72 to R75). -/
structure SyncFabric where
  counters  : Tab Word32
  /-- SY_SATURATED by object. -/
  saturated : Tab Bool
  waiting   : List SyncOp
  deriving DecidableEq, Repr

/-! ## Tiles and shelves (R79 to R109), tile registers (R146, R147) and engines -/

/-- TI_STATUS.STATE. -/
inductive TileState where
  | free | running | switching | waiting | halted | inReset | fenced | selfTest
  deriving DecidableEq, Repr

/-- What the switch stage holds for a post (R102, R533). -/
structure Staged where
  pc      : Word32
  seed    : List Word64
  weights : List Byte
  failure : Option (BitVec 16 × Word32)
  deriving DecidableEq, Repr

/-- TI_NEXT: a post of an instance, or a vacate. -/
structure Post where
  inst   : Option InstanceId
  ctx    : CtxId
  slot   : Byte
  staged : Option Staged
  deriving DecidableEq, Repr

/-- How the instance leaving a tile left it: the write of R106 step 2. -/
inductive Leaving where
  | suspend (pc : Word32)
  | ended
  deriving DecidableEq, Repr

/-- One accumulator bank's mode and checks (R134, R194). -/
structure Bank where
  /-- `none` is a clear bank; `some (floating, wide)` its kind and width (wide: N = 64). -/
  mode    : Option (Bool × Bool)
  acc     : Tab Word32
  rowChk  : Tab Word32
  rowAbs  : Tab Word32
  colChk  : Tab Word32
  colAbs  : Tab Word32
  /-- Input checksums r[k] and q[k] since the last fold (R134): integers, or multiples of 2^-150. -/
  r       : Tab Int
  q       : Tab Int
  /-- Rows and columns that a NaN or infinity entered (R138). -/
  rowSpecial : BitVec 32
  colSpecial : BitVec 64
  deriving DecidableEq, Repr

/-- A weight set: 2 KiB (sparse, 0), format and 128 scale bytes (sparse, 0x7F) (R188). -/
structure Weights where
  bytes  : Tab Byte
  format : BitVec 4
  scales : Tab Byte
  deriving DecidableEq, Repr

/-- A `tdrain` (or, with `only`, a `tchk`) whose verdict is not yet known and whose shelf writes are held
(R135): its word and program address, and its operands as issued. -/
structure Drain where
  bank    : Fin 4
  only    : Bool
  word    : Nat
  pc      : Nat
  dest    : Nat
  scale   : Nat
  control : Word64
  deriving DecidableEq, Repr

/-- A `tldw` whose fetch has not started (R190): its word, program address and operand addresses. -/
structure Fetch where
  word   : Nat
  pc     : Nat
  addr   : Nat
  scales : Nat
  deriving DecidableEq, Repr

/-- The Tensor Array. -/
structure Tensor where
  active : Weights
  /-- The shadow set that a `tldw` has fetched and that is not yet active (R190). -/
  shadow : Option Weights
  /-- Later `tldw`, which fetch once the set before theirs has become active, earliest first (R190). -/
  fetches : List Fetch
  banks  : Tab Bank
  drain  : Option Drain
  deriving DecidableEq, Repr

/-- Check and conversion registers of a tile (R146). -/
structure Checks where
  pass       : Word32
  skip       : Word32
  checksum   : Byte
  residue    : Byte
  lastFormat : BitVec 4
  lastUnit   : Bool
  lastCtx    : BitVec 10
  /-- TI_CHECK_WHERE. -/
  whereReg   : Word32
  sat        : Word32
  deriving DecidableEq, Repr

/-- An engine's counters (R490): cumulative, the current command's, reasons. -/
structure Engine where
  busy     : BitVec 48
  stall    : BitVec 48
  idle     : BitVec 48
  cmdBusy  : BitVec 16
  cmdStall : BitVec 16
  cmdIdle  : BitVec 16
  last     : BitVec 4
  selected : BitVec 48
  other    : BitVec 48
  deriving DecidableEq, Repr

/-- A trace record that its event has produced and its source has not emitted yet (R494): KIND, CTX_ID, body. -/
structure TraceDue where
  kind : Byte
  ctx  : BitVec 16
  body : List Byte
  deriving DecidableEq, Repr

/-- A tile's debug window (R481 to R493). -/
structure TileDebug where
  bp        : Tab Word64
  watch     : Tab Word64
  /-- DB_HALT_STATUS.STATE: 0 running, 1 draining, 2 halted. -/
  state     : BitVec 2
  cause     : BitVec 4
  stepLost  : Bool
  refused   : Bool
  ctx       : BitVec 10
  pc        : Word32
  /-- A HALT was asked for while no instance ran: it acts at the next issue. -/
  wanted    : Bool
  /-- The next issue is that of a STEP: halt after it. -/
  stepping  : Bool
  /-- A breakpoint at the halted PC does not hit for the next issue (R485). -/
  passing   : Bool
  /-- A watch hit by the latest memory instruction, not yet acted on (R483). -/
  watchHit  : Option (Fin 2)
  regSelect : Word64
  engSelect : BitVec 3
  /-- DB_ENG_SELECT.REASON. -/
  reason    : BitVec 4
  engines   : Tab Engine
  /-- What the open shares of its engines' clock cycles are drawn by: the draw at its latest entry, and the draws since. -/
  seed      : Nat
  cycles    : Nat
  cmdCtx    : BitVec 10
  current   : Bool
  census    : Tab (BitVec 48)
  censusSelect : Byte
  censusFilter : BitVec 11
  /-- Untaken branches since the latest BRANCH record (R494). -/
  untaken   : BitVec 16
  /-- RESUME_PC of the latest entry, for its ENTRY record (R494). -/
  entryPc     : Word32
  /-- The clock cycles of that entry's switch (R494). -/
  entryClocks : Nat
  /-- Clock cycles since the latest issue that a sample has counted (R491). -/
  sampled     : Nat
  /-- Engines that may hold work, bit by engine: 1 to 3 since their first instruction of the entry, 4 while a chain is in
  flight (R488). -/
  used        : BitVec 5
  /-- The reason for which issue waits with the instruction at the program counter; 0 for none (R489). -/
  waits       : BitVec 4
  /-- Trace records of the tile's events, earliest first (R494). -/
  due         : List TraceDue
  deriving DecidableEq, Repr

/-- One tile. -/
structure Tile where
  state   : TileState
  /-- A tile that a detected error bars from work until its targeted test ends (R144, R392). -/
  testing : Bool
  ctx     : CtxId
  slot    : Byte
  inst    : Option InstanceId
  next    : Option Post
  /-- A yield point, end or stop has been reached and the switch to the post has not run (R106). -/
  leaving : Option Leaving
  /-- TI_YIELD_WD.COUNT. -/
  count   : Nat
  /-- No instruction has issued since the entry: the watchdog counts from the first issue (R99). -/
  fresh   : Bool
  yieldMax    : BitVec 16
  yieldMaxCtx : BitVec 10
  switchMax   : BitVec 16
  switches    : Word32
  shelfSelect : Byte
  corrected   : BitVec 16
  lastUe      : Byte
  ue          : Bool
  checks  : Checks
  pc      : Word32
  s       : Vector Word64 32
  a       : Vector Addr48 16
  v       : Vector (Vector Word32 32) 16
  p       : Vector Word32 8
  /-- Lanes of v0 to v15, as 32 × register + lane, whose parity bit does not fit their value (R142). -/
  vbad    : List Nat
  tensor  : Tensor
  /-- The 64 B lines stored to since the entry, by context shelf address, with the bytes each held at
  the entry (R155). -/
  dirty   : List (Nat × List Byte)
  /-- Translations cached in the TLB: (context, page base, page bits, leaf base, write) (R232). -/
  tlb     : List (CtxId × Nat × Nat × Nat × Bool)
  dbg     : TileDebug
  /-- Periodic self-test: next segment 0 to 3, and Sundial time of the last full test (R388). -/
  segment : Fin 4
  /-- Sundial time at which the running segment started. -/
  segAt   : Nat
  tested  : Nat
  /-- Sundial time of the latest entry of an instance (R429). -/
  enteredAt : Nat
  deriving DecidableEq, Repr

/-- Use of a physical shelf; a shelf not listed is free (R85). -/
inductive ShelfUse where
  | free
  | bound (c : CtxId) (index : Nat) (shadow : Bool)
  | fenced
  deriving DecidableEq, Repr

/-- A DMA chain in flight on a tile's engine (R171). -/
structure Chain where
  tile   : TileId
  ch     : Fin 16
  ctx    : CtxId
  inst   : InstanceId
  golden : Bool
  /-- Program address of its `dma`. -/
  pc     : Word32
  /-- Context shelf address of the next descriptor; `none` when only its end remains. -/
  nextAddr : Option Word32
  /-- Descriptors reached so far. -/
  count  : Nat
  /-- Issue number within the instance, and the chain's own signature (R375). -/
  number : Nat
  sig    : Word64
  /-- The descriptor that it is moving, with the bytes moved of it; while both its spaces are virtual, the bytes that it
  has overwritten, by device physical address, as they were before (R175). -/
  desc   : Option (List Byte) := none
  moved  : Nat := 0
  old    : Tab Byte := []
  /-- Sundial time of its `dma` (R429). -/
  born   : Nat := 0
  deriving DecidableEq, Repr

/-- The tiles, their shelves and chains. -/
structure Tiles where
  tiles   : Tab Tile
  shelves : Tab ShelfUse
  /-- Uncorrectable 8 B words of shelves and of the Maze store and banks, by device physical address of
  the word (R91, R335). -/
  badWords : List Nat
  /-- 8 B words of shelves in which one bit is wrong, which a read corrects and counts (R91). -/
  softWords : List Nat
  chains  : List Chain
  deriving DecidableEq, Repr

/-! ## Memory, translation and placement (R214 to R244) -/

/-- One LPDDR6 channel's registers. -/
structure Channel where
  /-- MC_CH_STATUS.STATE: 0 in service, 1 fenced, 2 self-refresh, 3 training. -/
  state    : BitVec 2
  reduced  : Bool
  corrected : BitVec 16
  uncorrectable : Byte
  ueAddr   : Addr48
  patrol   : Bool
  ueValid  : Bool
  deriving DecidableEq, Repr

/-- Service state of a die (topology table DIE.STATE, R240). -/
inductive DieState where
  | service | lost | fenced | reset
  deriving DecidableEq, Repr

/-- A function's allocation registers (R235 to R237, R529). -/
structure Alloc where
  /-- TU_ALLOC_CTRL. -/
  ctrl    : Word32
  list    : Word64
  result  : BitVec 3
  freeErr : Bool
  spilled : BitVec 10
  pool    : Word64
  /-- Blocks placed by the request in progress: (device physical address, level). -/
  placed  : List (Nat × Nat)
  /-- Requests of 256 B in which the hub DMA has zeroed those blocks so far (R236, R348). -/
  zeroed  : Nat
  /-- A request waits for another function's (R237), with the blocks that the partner would grant it. -/
  waiting : Bool
  grants  : List Nat
  deriving DecidableEq, Repr

/-- A 2 MiB block that is not free. -/
inductive BlockUse where
  | owned (c : CtxId) (level : Nat)
  | lent
  | scrubbing
  deriving DecidableEq, Repr

/-- TU_FAULT. -/
structure TuFault where
  va     : Addr48
  ctx    : BitVec 10
  reason : BitVec 3
  valid  : Bool
  deriving DecidableEq, Repr

/-- Translation, placement and LPDDR6 control. -/
structure MemSys where
  /-- Uncorrectable LPDDR6 granules by device physical address of the granule (R226). -/
  badGranules : List Nat
  /-- LPDDR6 granules with an error in one symbol, which a read corrects, counts and writes back (R224, R225). -/
  softGranules : List Nat
  /-- Channels by 8 × die + channel. -/
  channels : Tab Channel
  dies     : Tab DieState
  /-- Blocks by device physical address. -/
  blocks   : Tab BlockUse
  alloc    : Tab Alloc
  pairLimit : BitVec 16
  /-- TU_INVAL and the invalidation in progress. -/
  invalCtx : BitVec 10
  invalGo  : Bool
  fault    : TuFault
  spillL3  : BitVec 16
  spillL4  : BitVec 16
  spillL5  : BitVec 16
  ctxSelect : BitVec 10
  /-- Topology table GENERATION (R241). -/
  generation : Word32
  deriving DecidableEq, Repr

/-! ## Partitions and bandwidth (R338 to R356) -/

/-- GH_PART_MAP of one class. -/
structure PartMap where
  syncBase : BitVec 16
  syncLast : BitVec 16
  function : BitVec 4
  deriving DecidableEq, Repr

/-- A schedule window (R344). -/
structure Window where
  openUs  : Nat
  closeUs : Nat
  kind    : Nat
  cls     : Class
  reserve : Nat
  deriving DecidableEq, Repr

/-- A regulated master other than a tile engine. -/
structure Master where
  guarantee : Word32
  limit     : Word32
  cls       : Class
  deriving DecidableEq, Repr

/-- BW_MISS. -/
structure Miss where
  count  : BitVec 16
  master : BitVec 9
  ctx    : BitVec 10
  valid  : Bool
  deriving DecidableEq, Repr

/-- Partitions, schedule and regulators. -/
structure Partition where
  dShelves : Byte
  bShelves : Byte
  dMem     : BitVec 7
  bMem     : BitVec 7
  mapQm    : PartMap
  mapB     : PartMap
  mapD     : PartMap
  busyErr  : Bool
  rangeErr : Bool
  schedule : Vector Window 8
  /-- Bit i: window i is open (R346). -/
  openMask : Byte
  bwWindow : BitVec 7
  bwHigh   : BitVec 6
  bwStep   : BitVec 4
  bwSelect : BitVec 3
  masters  : Vector Master 6
  pools    : Vector Word32 3
  /-- BW_LEVEL: die levels, PCIe, Pergola; and each channel queue's level behind a die's. -/
  levels   : Tab (BitVec 2)
  miss     : Miss
  /-- Bytes counted in this regulator window: key 1024 × tile + context, or 2^18 + master (R349). -/
  counts   : Tab Nat
  /-- Masters whose miss has been logged in this plan cycle (R356). -/
  logged   : List Nat
  deriving DecidableEq, Repr

/-! ## Sundial and the Fusion Engine (R265 to R299) -/

/-- SD_STATUS.STATE of R265. -/
inductive SunState where
  | unset | acquiring | locked | holdover | freeRun | pairLocked
  deriving DecidableEq, Repr

/-- State of a die's replica (R271). -/
inductive ReplicaState where
  | sync | stopped | resync
  deriving DecidableEq, Repr

/-- Sundial and the replicas. -/
structure Sundial where
  /-- Sundial time in ns and its 16-bit fraction. -/
  ns       : Nat
  frac     : BitVec 16
  /-- Time in ns since package cold reset as the islands' own oscillators count it: no step of Sundial moves it (R393). -/
  elapsed  : Nat
  /-- SD_TIME_FRAC as latched by the last read of SD_TIME_NS. -/
  fracLatch : BitVec 16
  /-- SD_CFG. -/
  cfg      : BitVec 9
  state    : SunState
  /-- The time counts as set (R265). -/
  timeSet  : Bool
  sourceLost  : Bool
  offsetFault : Bool
  offsetNs : Word32
  /-- A SD_SET write waits for the next PPS edge (R267). -/
  pendingSet : Option (BitVec 48)
  /-- Sundial time of the last active PPS edge. -/
  lastPps  : Option Nat
  /-- Consecutive source updates within ±1 µs (R269). -/
  inRange  : Nat
  /-- SD_FREQ.PPB. -/
  ppb      : Word32
  replicas : Tab ReplicaState
  /-- How far a die's replica stands from Sundial time, in ns (R270). -/
  deviation : Tab Int
  /-- SD_REPLICA.STOPPED_EVER. -/
  stoppedEver : BitVec 6
  /-- Bit i: the gPTP state of lidar port i is synchronised (R274). -/
  gptpSync : BitVec 4
  /-- Source of the GNSS epoch stamp: Sundial time of the PPS edge (R272). -/
  ppsStamp : Option Nat
  /-- Sundial time of the latest rising edge of each camera trigger output (R273). -/
  triggers : Tab Nat
  deriving DecidableEq, Repr

/-- A sensor's run-time state (R284 to R292). -/
structure Sensor where
  /-- VOTE: 0 TRUSTED, 1 SUSPECT, 2 VOTED_OUT. -/
  vote       : BitVec 2
  confidence : BitVec 4
  disagree   : Byte
  staleRun   : Byte
  frozenRun  : Nat
  /-- Consecutive cycles with no confidence event (R292). -/
  clean      : Nat
  /-- A confidence event of R292 has come since the last publication. -/
  marked     : Bool
  late       : BitVec 16
  stale      : BitVec 16
  frozen     : BitVec 16
  invalid    : BitVec 16
  /-- This cycle's late, stale, frozen and invalid counts (R296 EVENTS). -/
  evLate     : Nat
  evStale    : Nat
  evFrozen   : Nat
  evInvalid  : Nat
  /-- Camera: strips, frame number and stamp of the previous frame, largest number seen. -/
  strips     : List Word32
  frameNo    : Nat
  largestNo  : Nat
  lastStamp  : Option Nat
  /-- Ring sample number n (R279). -/
  n          : Nat
  /-- Unmatched triggers, earliest first (R273). -/
  pendTrig   : List Nat
  /-- Samples to be used: (stamp, arrival, ring sample number), newest first (R283). -/
  samples    : List (Nat × Nat × Nat)
  deriving DecidableEq, Repr

/-- A configuration section accepted and done, waiting for its boundary (R276, R303): acceptance
order, section number, block, and its item. -/
structure PendingSection where
  order   : Nat
  secNo : Nat
  block   : List Byte
  item    : ItemId
  deriving DecidableEq, Repr

/-- A cycle's outputs on their way (R296): its number, the write requests still to issue, the status record. -/
structure Outgoing where
  cycle    : Nat
  requests : List (Nat × List Byte)
  record   : List Byte
  deriving DecidableEq, Repr

/-- A received sample on its way into its ring (R279, R351): its stamp and fraction, what its receipt found, the data requests
still to issue, its slot and the bytes that the slot takes. -/
structure HeldSample where
  sensor   : Nat
  stamp    : Nat
  frac     : Nat
  arrival  : Nat
  bad      : Bool
  corrupt  : Bool
  frozen   : Bool
  frame    : Nat
  strips   : List Word32
  requests : List (Nat × List Byte)
  slot     : Nat
  length   : Nat
  cut      : Bool
  /-- Its regulator has held it up: it arrives when its last byte is written (R272). -/
  waited   : Bool
  deriving DecidableEq, Repr

/-- The Fusion Engine. -/
structure Fusion where
  /-- Sections in force, by SECTION number (R275). -/
  config   : Tab (List Byte)
  /-- Done sections waiting for a boundary. -/
  waiting  : List PendingSection
  sensors  : Tab Sensor
  select   : BitVec 5
  /-- FE_STATUS.STATE and CYCLE. -/
  state    : BitVec 2
  cycle    : Word32
  /-- The snapshot of the current cycle: T_c, and per sensor the samples in it (R283). -/
  snapAt   : Option Nat
  snap     : Tab (List (Nat × Nat × Nat))
  /-- Perception channel counters at the snapshot (R283). -/
  snapSync : Tab Word32
  conCount : BitVec 16
  conRegion : Byte
  conA     : BitVec 5
  conB     : BitVec 5
  conValid : Bool
  coarsen  : BitVec 16
  maxLevel : BitVec 5
  /-- Sweep stamp of the last accepted registration, and the runs of R289. -/
  lastReg  : Option Nat
  slip     : Bool
  slipRun  : Nat
  /-- The previous cycle's bin 0 footprint by vote region (R290). -/
  previous : Tab (BitVec 256)
  /-- The latest estimate (R287, R288, R297): local pose, velocity and rate as 13 FP32, the map pose as 7 when it is
  known, the 21 covariance values. -/
  pose     : List Word32
  mapPose  : Option (List Word32)
  covariance : List Word32
  /-- The rolling local map: its occupied 0.2 m voxels (R287). -/
  localMap : List (Int × Int × Int)
  /-- ID and CLASS of each object (R294). -/
  tracks   : List (Word32 × Byte)
  /-- The outputs of a cycle that are not all written yet (R296). -/
  outgoing : Option Outgoing
  /-- Samples that are not written yet, oldest first (R279, R351). -/
  held     : List HeldSample
  /-- Reads of rings and perception slots that the cycle still has to issue: address and bytes (R283, R348). -/
  reading  : List (Nat × Nat)
  deriving DecidableEq, Repr

/-! ## The Maze planning engine (R300 to R337) -/

/-- A world bank's descriptor (R313). -/
structure WorldBank where
  /-- 0 empty, 1 WRITING, 2 complete, 3 BOUND. -/
  state     : BitVec 2
  count     : Nat
  epoch     : Word64
  additions : Bool
  speed     : BitVec 16
  cycle     : Nat
  deriving DecidableEq, Repr

/-- State of an edge in a cycle (R317). -/
inductive EdgeState where
  | unchecked | valid | blocked
  deriving DecidableEq, Repr

/-- A chain held by the Maze (R324). -/
structure ChainHeld where
  edges      : List Nat
  cost       : Word32
  expansions : Nat
  isPartial  : Bool
  deriving DecidableEq, Repr

/-- The machine state used in a cycle (R309, R310). -/
structure MachineState where
  seq   : Word32
  region : Nat
  stamp : Nat
  curvature : BitVec 16
  articulation : BitVec 16
  masks : Word64
  deriving DecidableEq, Repr

/-- The Maze. -/
structure Maze where
  /-- Sections in force: 0x01, 0x02, 0x03, 0x04, 0x12 (header only by validity), 0x20-0x2E, 0x30-0x3E;
  large contents also lie in the road-map store (R305). -/
  config   : Tab (List Byte)
  waiting  : List PendingSection
  /-- Bit r: region slot r is LOADING; bit r: a region section for it has taken effect. -/
  loading  : BitVec 15
  loaded   : BitVec 15
  bank0    : WorldBank
  bank1    : WorldBank
  newest   : Word64
  /-- MZ_STATUS.STATE. -/
  state    : BitVec 2
  fenced0  : Bool
  fenced1  : Bool
  /-- Periodic segments that run on a checker bank, by bank: when each started (R391). -/
  segments : Tab Nat
  searchFenced : Bool
  region   : BitVec 4
  lastCycle : Word32
  /-- The cycle's start T_c in ns. -/
  cycleAt  : Nat
  bound    : Option (Fin 2)
  newer    : Bool
  aged     : Bool
  stale    : Bool
  /-- The newest consistent machine state record (R310). -/
  used     : Option MachineState
  lastCurvature    : BitVec 16
  lastArticulation : BitVec 16
  /-- States of the bound region's edges, unlisted UNCHECKED. -/
  edges    : Tab EdgeState
  /-- The held chain; the held stop's entry, `none` when no entry was clear at the latest stop pass, HAZARD. -/
  chain    : Option ChainHeld
  stop     : Option Nat
  hazard   : Bool
  /-- STOP of the held stop as its stop pass chose it (R334); empty before the first. -/
  heldBytes : List Byte
  stopPassDone : Bool
  passes   : Nat
  rechecked : Bool
  /-- A recheck pass runs on the bound bank (R328 step 3). -/
  rechecking : Bool
  /-- The cycle's result as a timing fault fixed it: the slot's bytes and the status (R334). -/
  fixed    : Option (List Byte × BitVec 16)
  /-- The cycle's result as selected, while its slot is not yet written whole (R328 step 4). -/
  slotHeld : Option (List Byte × BitVec 16)
  /-- Requests of the slot that have been issued (R351). -/
  slotSent : Nat
  /-- The stop table has been found bad in this cycle, and reported (R335). -/
  tableSeen : Bool
  /-- The search program: next step and whether it runs. -/
  pc       : Nat
  running  : Bool
  opened   : Option Nat
  publishing : Bool
  committed : Option Nat
  /-- Epoch of the final check and its bank's speed and instant. -/
  checkEpoch : Word64
  checkSpeed : BitVec 16
  instant  : Nat
  trajectory : BitVec 16
  held     : BitVec 16
  maxDecel : BitVec 16
  recheck  : BitVec 16
  mismatch : BitVec 16
  checker  : BitVec 13
  mismatchValid : Bool
  programMax : Word32
  closed   : BitVec 16
  /-- The Gatehouse's copy of PLAN_QUEUE and RESULT_BASE (R427). -/
  planQueue  : Option QueueId
  resultBase : Addr48
  deriving DecidableEq, Repr

/-! ## Belvedere (R357 to R401) -/

/-- A watchdog entry (R368). -/
structure WdEntry where
  openUs  : Nat
  closeUs : Nat
  on      : Bool
  sync    : BitVec 16
  deriving DecidableEq, Repr

/-- A golden table entry (R380). -/
structure GoldenEntry where
  ctx   : CtxId
  entry : Nat
  shelf : Nat
  elem  : Nat
  sig   : Word64
  /-- Its number, which is that of its patch slot. -/
  slot  : Nat
  deriving DecidableEq, Repr

/-- PLAN-CONFIG section 0x13 (R365). -/
structure CanConfig where
  nominal  : Byte
  data     : Byte
  extended : Bool
  enable   : BitVec 2
  statusA  : BitVec 32
  statusB  : BitVec 32
  result   : BitVec 32
  stop     : BitVec 32
  deriving DecidableEq, Repr

/-- A CAN FD frame that an island has sent (R366): island, identifier, data. -/
structure CanFrame where
  island : Island
  ident  : BitVec 32
  data   : List Byte
  deriving DecidableEq, Repr

/-- One island. -/
structure IslandState where
  /-- Cause bits as in BV_STATUS. -/
  causes   : BitVec 16
  /-- Its reset input is low (R357). -/
  inReset  : Bool
  /-- Peer heartbeats received without a miss (R359). -/
  clean    : Nat
  /-- The calibration tables trim its oscillator (R360, R465). -/
  trimmed  : Bool
  /-- The island's own memory: the firmware that package cold reset loaded, by load offset (R464, R465). -/
  firmware : Memory
  /-- The latest spacing of two boundaries that it measured, in ns (R360). -/
  spacing  : Option Nat
  records  : List (List Byte)
  /-- ALIVE by identifier (R366). -/
  alive    : Tab Byte
  deriving DecidableEq, Repr

/-- A fault aggregator (R396, R397). -/
structure Aggregator where
  isOpen  : Bool
  first   : Option FaultReport
  opened  : Nat
  timeInvalid : Bool
  self    : Option (BitVec 16)
  reports : BitVec 16
  votes   : Tab Nat
  /-- DETAIL of the first report that each unit is attributed by: its own, or one that names it (R395, R397). -/
  details : Tab Word32
  partners : BitVec 128
  epoch   : Word32
  deriving DecidableEq, Repr

/-- A targeted self-test in progress (R392): the unit, shelf, and the records that its end completes (R399). -/
structure TestRun where
  unit    : BitVec 16
  shelf   : Byte
  records : List (List Byte)
  deriving DecidableEq, Repr

/-- A signature waiting at the pair comparator (R376). -/
structure PairPoint where
  inst  : InstanceId
  point : Nat
  sig   : Word64
  time  : Nat
  deriving DecidableEq, Repr

/-- An outward effect of a primary copy, held until a comparison passes (R378). -/
structure HeldEffect where
  inst : InstanceId
  op   : SyncOp
  deriving DecidableEq, Repr

/-- The islands, watchdogs, pair comparator, golden runs, self-tests and aggregators. -/
structure Belvedere where
  a : IslandState
  b : IslandState
  /-- Sundial time of the last plan cycle boundary; `none` before the first (R360). -/
  lastBoundary : Option Nat
  /-- Boundaries after a return from S3 or S4 before the islands judge their spacing again (R445). -/
  resuming : Nat
  releaseReject : BitVec 16
  wd        : Vector WdEntry 8
  wdEarly   : Byte
  wdLate    : Byte
  wdOff     : Bool
  wdCount   : Word32
  /-- Bit i: window i has been judged in this cycle (R369). -/
  judged    : Byte
  /-- Bit i: the stage of window i in the cycle before has not completed and its WD_CLOSE_US + 200 ns falls
  past the boundary (R370). -/
  owed      : Byte
  pairChecked  : BitVec 16
  pairMismatch : Byte
  pairTimeout  : Byte
  pairPrimary  : Byte
  pairSecond   : Byte
  pairService  : Bool
  pairValid    : Bool
  points    : List PairPoint
  held      : List HeldEffect
  goldPassed   : BitVec 16
  goldMismatch : Byte
  goldDeferred : Byte
  goldCtx      : BitVec 10
  goldValid    : Bool
  golden    : List GoldenEntry
  /-- Tiles reserved for a golden window (R382). -/
  reserved  : List (WindowId × TileId)
  segments  : BitVec 16
  aborted   : BitVec 16
  lagTile   : Byte
  lag       : Bool
  /-- BV_INJECT. -/
  inject    : Word32
  busOff    : BitVec 4
  stopReject : Byte
  faultSelect : BitVec 7
  can       : Option CanConfig
  /-- Frames sent, newest first. -/
  frames    : List CanFrame
  /-- Completion events of stages on their way to the watchdogs: window, stamp and die, earliest first (R369, R370). -/
  stages    : List (WindowId × Nat × Nat)
  /-- The newest fusion status record delivered to Belvedere A (R296). -/
  fusionRecord : List Byte
  /-- The latest commit that Belvedere B has received: the 32 B result frame fields (R361). -/
  commit    : Option (List Byte)
  aggs      : Tab Aggregator
  tests     : List TestRun
  /-- Targeted tests passed: (unit, shelf, island time in ns) (R393). -/
  passes    : List (BitVec 16 × Byte × Nat)
  /-- Bit i: BVA_SAFE0_N, BVA_SAFE1_N, BVB_SAFE0_N, BVB_SAFE1_N at a high level. -/
  pins      : BitVec 4
  deriving DecidableEq, Repr

/-! ## Links, clocks, resets (R402 to R433) -/

/-- A module end: Trellis or Pergola (R405). -/
structure Module where
  /-- TL_MOD_STATUS.STATE. -/
  state  : BitVec 4
  width  : BitVec 2
  lanes  : BitVec 2
  localMask  : BitVec 4
  remoteMask : BitVec 4
  retrains   : BitVec 4
  replays    : BitVec 16
  errorRetrains : Byte
  resetRetrains : Byte
  /-- The retry buffer: the flits that are not acknowledged yet, oldest first, at most 64 (R403). -/
  retry  : List (List Byte)
  /-- Failures in a row of those flits, by sequence number (R404). -/
  failed : Tab Nat
  /-- Sundial times of the replays of the last 1 ms (R404). -/
  recent : List Nat
  /-- Sequence number that the receiver expects next (R403). -/
  seq    : Nat
  /-- The module is DOWN until a reset of a die at either end (R408). -/
  stuck  : Bool
  testing : Bool
  /-- Sundial time at which the latest error retrain began (R416). -/
  retrainAt : Nat
  deriving DecidableEq, Repr

/-- Links, Pergola and the pair (R412 to R416). -/
structure Links where
  modules  : Tab Module
  pergola  : Module
  modSelect : BitVec 7
  leader   : Bool
  roleErr  : Bool
  losses   : BitVec 16
  delayNs  : Word32
  offsetNs : Word32
  /-- The package has been in a pair since cold reset, and its index (R23). -/
  pairedEver : Bool
  /-- What the partner claimed at the latest training that has passed: its role and the round trip in ns (R413, R414). -/
  claim    : Option (Bool × Nat)
  /-- The pair is up: bit 0 of PAIR (R240). -/
  pairUp   : Bool
  lostAt   : Option Nat
  /-- Outbound table: the partner's die states and channels by die ID (R415). -/
  outbound : Tab (Byte × Byte)
  /-- Blocks lent to the partner, by device physical address (R415). -/
  lend     : List Nat
  /-- Contexts whose walks produced a leaf in the partner window (R416). -/
  partnerCtx : List CtxId
  deriving DecidableEq, Repr

/-- Resets and dumps (R421 to R433), clocks (R418 to R420). -/
structure Resets where
  busy     : Bool
  die      : BitVec 3
  result   : BitVec 2
  partBusy : Bool
  partClass : BitVec 2
  partResult : BitVec 2
  stuckValid : Bool
  stuckCtx : BitVec 10
  stuckUnit : BitVec 16
  purged   : BitVec 16
  durationUs : BitVec 16
  /-- Sundial times at which the partition reset's steps 2 and 3 began (R428). -/
  partStep2 : Option Nat
  partStep3 : Option Nat
  /-- Classes whose partition reset waits for the running one, and functions whose function-level reset waits for them
  (R424). -/
  partQueue : List Class
  flrWaits : List Nat
  /-- Length in µs of the running partition reset (DURATION_US at its end). -/
  partLength : Nat
  /-- A hub warm reset waits for its dump (R430); `true` when PERST_N asked for it. -/
  hubWaits : Option Bool
  dumpBase : Word64
  dumpSize : Word32
  /-- DB_DUMP_CTRL.REGIONS, AUTO and GO. -/
  dumpRegions : Byte
  dumpAuto : Bool
  dumpGo   : Bool
  /-- Start time, TRIGGER, GH_FAULT_CTX and GH_PART_RESET_STATUS at the dump's start. -/
  dumpStart : Nat
  dumpTrigger : Byte
  dumpFault : Word64
  dumpPart : Word64
  dumpResult : BitVec 2
  unreadable : Word32
  refValid : Bool
  reduced  : Bool
  refLost  : Bool
  fwdLost  : BitVec 6
  /-- Bit i: die i is held in reset by its clock-loss detector (R420). -/
  clockOut : BitVec 6
  /-- The package is held in cold reset by a rail, a sensor above 105 °C, or a trip (R456, R520). -/
  held     : Bool
  tripped  : Bool
  /-- A rail has asked for the hold, until the device boots. -/
  heldByRail : Bool
  /-- A sensor above 105 °C holds the package cold reset, which found this at its pins and finds it in its tests (R456). -/
  heldHot  : Option BootInput
  /-- Rails out of range (R520). -/
  railsOut : List Rail
  deriving DecidableEq, Repr

/-! ## Power, sleep, cooling (R434 to R456) -/

/-- An exact fraction; the denominator is positive. -/
structure Frac where
  num : Int
  den : Nat
  deriving DecidableEq, Repr

/-- A Kiln die's power registers and governor state. -/
structure KilnPower where
  level    : BitVec 3
  ceiling  : BitVec 3
  parked   : Bool
  avsPending : Bool
  shareW   : Byte
  drawW    : Byte
  /-- The draw over the last 100 µs in mW, before the register's rounding. -/
  drawMw   : Nat
  changes  : BitVec 16
  /-- Direction and target of a voltage request in progress: `true` raises. -/
  request  : Option (Bool × BitVec 3)
  /-- A lowering decided while a raise waits for its voltage (R437). -/
  queued   : Option (BitVec 3)
  /-- No raise until a request for the rail succeeds, and the retry due time (R441). -/
  noRaise  : Bool
  retryAt  : Option (Nat × Bool × BitVec 3)
  /-- Sundial time of the last lowering's start; draw in mW before it parked; since when the share
  has allowed unparking (R435, R438). -/
  lowered  : Option Nat
  parkDraw : Nat
  roomSince : Option Nat
  /-- Admissions of the last 1 µs: Sundial time and current step in mA (R442). -/
  grants   : List (Nat × Nat)
  deriving DecidableEq, Repr

/-- The power block. -/
structure Power where
  userW    : BitVec 9
  effectiveW : BitVec 9
  source   : Bool
  inletMax : Byte
  marginW  : Byte
  rInit    : BitVec 16
  rEst     : BitVec 16
  inletC   : Byte
  tjC      : Byte
  hotDie   : BitVec 3
  sensorFail : Bool
  flowStop : Bool
  hot      : Bool
  flowStops : BitVec 16
  hotSteps : BitVec 16
  sensorFails : BitVec 16
  kilns    : Tab KilnPower
  failRail : BitVec 4
  fail     : Bool
  retries  : BitVec 16
  packageW : BitVec 16
  sleepTarget : BitVec 3
  sleepGo  : Bool
  sleepResult : BitVec 2
  sleepState : BitVec 3
  retain   : Word32
  wake     : BitVec 7
  /-- The matcher's copy of ADDRESS (R448). -/
  matcher  : BitVec 7
  wakeFrom : BitVec 3
  byPort   : Bool
  lost     : Word32
  returnUs : BitVec 16
  /-- Segments that a sleep entry has lost since the latest return, and the guards that it took of the others: CRC-32C by
  64 × die + 8 × channel + segment (R446, R447). -/
  lostAtEntry : Word32
  guards   : Tab Word32
  /-- Sundial time at which the latest return ended (R445). -/
  returnedAt : Option Nat
  /-- Temperatures of the last 20 samples, newest first, 76 readings of 1/16 °C each (R455). -/
  history  : List (List Int)
  /-- Latest coolant reading in 1/16 °C, time of the latest good one, since when good (R451). -/
  coolant  : Option Int
  coolantAt : Nat
  coolantGood : Option Nat
  /-- Since when R455's clearing condition has held. -/
  calmSince : Option Nat
  /-- r_est in K/W, the effective cap in W and the package power in W, before their registers' rounding (R439, R452,
  R453). -/
  rExact   : Frac
  capExact : Frac
  power    : Frac
  /-- Sundial time of the last rise of the effective cap (R453). -/
  capAt    : Nat
  /-- Sundial time of the latest sample of the thermal sensors. -/
  sampledAt : Option Nat
  deriving DecidableEq, Repr

/-! ## The Lodge (R457 to R479) -/

/-- A kind's directory record (R466). -/
structure Slot where
  activeB : Bool
  trial   : Bool
  tried   : Bool
  stateA  : Byte
  stateB  : Byte
  svA     : Word32
  svB     : Word32
  lenA    : Word32
  lenB    : Word32
  deriving DecidableEq, Repr

/-- The Lodge: fuses, flash, boot outcome, log and mailbox. -/
structure Lodge where
  lifecycle : BitVec 3
  keyHash  : List (List Byte)
  revoke   : BitVec 4
  counters : List Nat
  serial   : List Byte
  /-- Lifecycle and counters as read at boot are the fuses' own; the flash's bytes, sparse, 0xFF erased. -/
  flash    : Tab Byte
  /-- The governing directory, by kind index, and its SEQ and copy. -/
  slots    : Tab Slot
  dirSeq   : Word32
  dirCopy  : Bool
  recovery : Bool
  /-- Bit k: kind k runs from its trial slot; from slot B. -/
  onTrial  : BitVec 5
  onB      : BitVec 5
  /-- Kinds running (verified at boot). -/
  booted   : BitVec 5
  haltUsed : Bool
  /-- The device stays in hub reset (Retired, R474) or has not been released (R465). -/
  hubHeld  : Bool
  mboxCmd  : Byte
  mboxGo   : Bool
  arg0     : Word64
  arg1     : Word64
  buf      : Word64
  len      : BitVec 22
  result   : BitVec 4
  refused  : Bool
  outLen   : Word32
  nextSeq  : Word32
  logLost  : BitVec 16
  /-- Entries in the ring not yet in flash: SEQ of the oldest of them (R477). -/
  mirrored : Word32
  lostBefore : Bool
  /-- Sundial time of the first entry not yet in flash of the page that holds the oldest of them (R477). -/
  pageAt   : Nat
  /-- Later pages begun: page number and Sundial time of the first entry (R477). -/
  pagesAt  : List (Nat × Nat)
  /-- SHA-512 of the image that each kind runs, empty when it runs none, and its SECURITY_VERSION (R462, R472). -/
  measures : List (List Byte)
  versions : List Nat
  sensorSelect : Byte
  /-- Latest sensor values by index (R479). -/
  sensors  : Tab (BitVec 16 × Bool)
  /-- Latest reading of each voltage monitor in mV and its Sundial time, none of it since Sundial restarted (R479, R521). -/
  monitors : Tab (BitVec 16 × Option Nat)
  /-- The unique device secret is locked until the next package cold reset (R464). -/
  secretLocked : Bool
  /-- The calibration tables as applied, by load offset; none for the ROM's default trims (R464, R465). -/
  trims    : Memory
  /-- The patch RAM (R464, R470): MATCH_ADDR and TARGET of its 64 slots, 0 where unused, and the patch code. -/
  patches  : List (Nat × Word32)
  patchCode : List Byte
  /-- Units fenced, in the fence list of R394: the unit and, for a shelf, its local number. -/
  fences   : List (BitVec 16 × Byte)
  /-- The subsystem IDs are the board's (R498); the debug path's lifecycle is `lifecycle`. -/
  subsystem : Word32
  deriving DecidableEq, Repr

/-! ## Debug, trace and PCI Express (R480 to R513) -/

/-- A trace source's queue (R495): records of 16 B and the records dropped since its last LOST. -/
structure TraceSource where
  queue : List (List Byte)
  lost  : Word32
  deriving DecidableEq, Repr

/-- The trace DMA's writes of one half (R497): its buffer, and the requests that are left, the count's last. -/
structure TraceDrain where
  buf  : Fin 5
  todo : List (Nat × List Byte)
  deriving DecidableEq, Repr

/-- A local trace buffer (R497): entries of 32 B of the half being filled and of the full one. -/
structure TraceBuffer where
  filling : List (List Byte)
  full    : Option (List (List Byte))
  started : Nat
  deriving DecidableEq, Repr

/-- Gatehouse debug and the trace unit. -/
structure Debug where
  ghBp      : Tab Word64
  ghWatch   : Tab Word64
  ghState   : BitVec 2
  ghCause   : BitVec 4
  ghRefused : Bool
  ghPc      : Word32
  /-- TARGET from which the instruction at the halted PC executes, when a patch redirects its fetch (R470). -/
  ghPatch   : Option Word32
  traceCtrl : Word32
  linkUp    : Bool
  lost      : Word32
  sources   : Tab TraceSource
  ltbBase   : Word64
  ltbSlots  : BitVec 16
  ltbPtr    : Word64
  halves    : Word32
  ltbLost   : BitVec 16
  buffers   : Tab TraceBuffer
  /-- Trace records of the Gatehouse's and the aggregators' events by master number, earliest first (R494). -/
  due       : List (BitVec 16 × TraceDue)
  /-- The half that the trace DMA writes (R497). -/
  drain     : Option TraceDrain
  deriving DecidableEq, Repr

/-- Power state of a function (R505). -/
structure FnPower where
  d3hot     : Bool
  busMaster : Bool
  deriving DecidableEq, Repr

/-- The host interface: HI_ registers, SR-IOV and function states. -/
structure HostIf where
  linkSpeed  : BitVec 3
  linkWidth  : BitVec 4
  linkUp     : Bool
  bar4Base   : BitVec 7
  /-- BAR4 holds 2^bar4Log bytes: 30 to 37 (R506). -/
  bar4Log    : Nat
  errKind    : BitVec 3
  errFn      : BitVec 4
  errSource  : BitVec 3
  errQueue   : BitVec 6
  errCount   : BitVec 16
  errValid   : Bool
  errAddr    : Word64
  badAccess  : BitVec 16
  poisoned   : BitVec 16
  vfEnable   : Bool
  numVfs     : BitVec 4
  /-- Uncorrectable Error Status of the Advanced Error Reporting capability, by function number (R499, R507). -/
  aer        : Tab Word32
  /-- Function power states by function number. -/
  fns        : Tab FnPower
  deriving DecidableEq, Repr

/-! ## The whole state -/

/-- The state of the block. `pending` is the queue of waiting commands, first in, first out; `free`
counts the free values drawn so far (log 1); `lastRead`, `lastBytes` and `lastPoison` are what the latest
host read returned (log 9). These five are the model's own: they are no register of the part. -/
structure State where
  pending  : List Instr
  free     : Nat
  lastRead : Word64
  lastBytes : List Byte
  /-- The latest read completed with poisoned data (R226). -/
  lastPoison : Bool
  /-- The 48-bit device physical map of R214. -/
  mem      : Memory
  /-- Host memory by host bus address. -/
  hostMem  : Memory
  /-- The partner's LPDDR6 as reached through the pair window (R214). -/
  partnerMem : Memory
  gh       : Gatehouse
  sync     : SyncFabric
  tl       : Tiles
  ms       : MemSys
  part     : Partition
  sun      : Sundial
  fe       : Fusion
  mz       : Maze
  bv       : Belvedere
  ln       : Links
  rs       : Resets
  pw       : Power
  lg       : Lodge
  db       : Debug
  hi       : HostIf
  deriving DecidableEq, Repr

/-- Why a step stops with a fault. No command of this block faults: every condition the manual names is
a state change (an error flag, a status, a cause), so this type has no constructor that a meaning
raises but `absent`. -/
inductive Fault where
  /-- Raised by no meaning; kept so that the type is inhabited. Safe. -/
  | absent
  deriving DecidableEq, Repr

/-- Why a step is refused. -/
inductive Refusal where
  /-- Raised by the dispatcher for a command whose meaning is not written yet. Safe: the run stops. -/
  | notModelled (mnemonic : String)
  deriving DecidableEq, Repr

/-! ## Reset values -/

/-- A queue's registers at reset (GH_SQ_CFG and its companions). -/
def queueReset : Queue :=
  { sizeLog2 := 4, enable := false, cls := .qm, planQueue := false, function := 0,
    clearPending := false, head := 0, doorbellErr := false, planDrop := false, base := 0, cqBase := 0,
    subIndex := 0, cqIndex := 0, cqUsed := 0, nextSeq := 0, pubSeq := 0, fetched := none, block := [],
    fetchFailed := false }

/-- An ID with no context (R61 FREE). -/
def contextReset : Context :=
  { state := .free, cls := .qm, home := 0, shelves := 0, imageAddr := 0, imageLen := 0, imageCrc := 0,
    ttRoot := 0, windowMask := 0, seedShelf := 0, checkK := 0, guarantee := 0, limit := 0,
    creator := ⟨0, 0⟩, firstFault := 0, map := [], shadow := [], shadowed := false, entries := [],
    mask := 0, batch := 0, traffic3 := 0, traffic4 := 0, traffic5 := 0, closer := none,
    closing3 := none, stalled := none, frames := 0, lastDeferred := false }

/-- A function's progress registers at reset. -/
def progressReset : Progress := { base := 0, writeCount := 0 }

def gatehouseReset : Gatehouse :=
  { queues := [], items := [], insts := [], contexts := [], ctxSelect := 0,
    faultCtx := ⟨0, 0, 0, false, false⟩, lateDrop := 0, mirrorA := some 0, mirrorB := some 1,
    rebuilding := false, single := false, progress := [], heartbeat := [0, 0, 0],
    published := [0, 0, 0], moved := [false, false, false], batchSelect := 0, rejectEntries := 0,
    rejectItems := 0 }

def syncReset : SyncFabric := { counters := [], saturated := [], waiting := [] }

/-- A clear bank (R194). -/
def bankReset : Bank :=
  { mode := none, acc := [], rowChk := [], rowAbs := [], colChk := [], colAbs := [],
    r := [], q := [], rowSpecial := 0, colSpecial := 0 }

/-- Weight registers of zero in INT8, every scale 2⁰ (R189). -/
def weightsReset : Weights := { bytes := [], format := 0, scales := [] }

def tensorReset : Tensor := { active := weightsReset, shadow := none, fetches := [], banks := [], drain := none }

def checksReset : Checks :=
  { pass := 0, skip := 0, checksum := 0, residue := 0, lastFormat := 0, lastUnit := false, lastCtx := 0,
    whereReg := 0, sat := 0 }

def engineReset : Engine :=
  { busy := 0, stall := 0, idle := 0, cmdBusy := 0, cmdStall := 0, cmdIdle := 0, last := 0,
    selected := 0, other := 0 }

def tileDebugReset : TileDebug :=
  { bp := [], watch := [], state := 0, cause := 0, stepLost := false, refused := false, ctx := 0, pc := 0, wanted := false,
    stepping := false, passing := false, watchHit := none, regSelect := 0, engSelect := 0, reason := 0, engines := [],
    seed := 0, cycles := 0, cmdCtx := 0, current := false, census := [], censusSelect := 0, censusFilter := 0, untaken := 0,
    entryPc := 0, entryClocks := 0, sampled := 0, used := 0, waits := 0, due := [] }

/-- A tile at reset: in service and free, every register at the value R109 and R146 give; registers
that R97 sets at entry are zero. -/
def tileReset : Tile :=
  { state := .free, testing := false, ctx := 0, slot := 0, inst := none, next := none, leaving := none,
    count := 0, fresh := false, yieldMax := 0, yieldMaxCtx := 0, switchMax := 0, switches := 0, shelfSelect := 0,
    corrected := 0, lastUe := 0xFF, ue := false, checks := checksReset, pc := 0,
    s := Vector.replicate 32 0, a := Vector.replicate 16 0,
    v := Vector.replicate 16 (Vector.replicate 32 0), p := Vector.replicate 8 0, vbad := [], tensor := tensorReset,
    dirty := [], tlb := [], dbg := tileDebugReset, segment := 0, segAt := 0,
    tested := 0, enteredAt := 0 }

def tilesReset : Tiles := { tiles := [], shelves := [], badWords := [], softWords := [], chains := [] }

def channelReset : Channel :=
  { state := 0, reduced := false, corrected := 0, uncorrectable := 0, ueAddr := 0, patrol := false,
    ueValid := false }

def allocReset : Alloc :=
  { ctrl := 0, list := 0, result := 0, freeErr := false, spilled := 0, pool := 0, placed := [], zeroed := 0,
    waiting := false, grants := [] }

def memSysReset : MemSys :=
  { badGranules := [], softGranules := [], channels := [], dies := [], blocks := [], alloc := [], pairLimit := 0,
    invalCtx := 0, invalGo := false, fault := ⟨0, 0, 0, false⟩, spillL3 := 0, spillL4 := 0, spillL5 := 0,
    ctxSelect := 0, generation := 0 }

/-- The default schedule of R346. -/
def defaultSchedule : Vector Window 8 :=
  #v[⟨0, 300, 2, .d, 0⟩, ⟨300, 700, 3, .d, 0⟩, ⟨700, 900, 4, .d, 0⟩, ⟨900, 1000, 5, .d, 2⟩,
     ⟨0, 1000, 1, .d, 0⟩, ⟨0, 1000, 1, .b, 0⟩, ⟨0, 1000, 1, .qm, 0⟩, ⟨0, 0, 0, .qm, 0⟩]

/-- Masters in the order of BW_MASTER_SELECT (R348, BW_MASTER_CLASS). -/
def mastersReset : Vector Master 6 :=
  #v[⟨0, 0xFFFFFFFF, .qm⟩, ⟨0, 0xFFFFFFFF, .d⟩, ⟨0, 0xFFFFFFFF, .d⟩, ⟨0, 0xFFFFFFFF, .d⟩,
     ⟨0, 0xFFFFFFFF, .qm⟩, ⟨0, 0xFFFFFFFF, .qm⟩]

/-- Partition and regulator registers at reset. At Sundial time 0 the windows that open at 0 µs are
open: 0, 4, 5 and 6 (R346). -/
def partitionReset : Partition :=
  { dShelves := 0x20, bShelves := 0x20, dMem := 0x10, bMem := 0x10, mapQm := ⟨0x2000, 0xFFFF, 0⟩,
    mapB := ⟨0x1000, 0x1FFF, 0⟩, mapD := ⟨0x0000, 0x0FFF, 0⟩, busyErr := false, rangeErr := false,
    schedule := defaultSchedule, openMask := 0x71, bwWindow := 0x0A, bwHigh := 0x28, bwStep := 8,
    bwSelect := 0, masters := mastersReset, pools := #v[0, 0, 0], levels := [], miss := ⟨0, 0, 0, false⟩,
    counts := [], logged := [] }

/-- Sundial after package cold reset: counting from 0, SOURCE 0, FREE_RUN, its time set (R265). Only the
hub's replica is SYNC (SD_REPLICA reset 0x10). -/
def sundialReset : Sundial :=
  { ns := 0, frac := 0, elapsed := 0, fracLatch := 0, cfg := 0, state := .freeRun, timeSet := true, sourceLost := false,
    offsetFault := false, offsetNs := 0, pendingSet := none, lastPps := none, inRange := 0, ppb := 0,
    replicas := [(4, .sync)], deviation := [], stoppedEver := 0, gptpSync := 0, ppsStamp := none,
    triggers := [] }

def sensorReset : Sensor :=
  { vote := 0, confidence := 15, disagree := 0, staleRun := 0, frozenRun := 0, clean := 0, marked := false,
    late := 0, stale := 0, frozen := 0, invalid := 0, evLate := 0,
    evStale := 0, evFrozen := 0, evInvalid := 0, strips := [], frameNo := 0, largestNo := 0,
    lastStamp := none, n := 0, pendTrig := [], samples := [] }

def fusionReset : Fusion :=
  { config := [], waiting := [], sensors := [], select := 0, state := 0, cycle := 0,
    snapAt := none, snap := [], snapSync := [], conCount := 0, conRegion := 0, conA := 0, conB := 0,
    conValid := false, coarsen := 0, maxLevel := 1, lastReg := none, slip := false, slipRun := 0,
    previous := [], pose := [], mapPose := none, covariance := [], localMap := [], tracks := [],
    outgoing := none, held := [], reading := [] }

def bankDescReset : WorldBank :=
  { state := 0, count := 0, epoch := 0, additions := false, speed := 0, cycle := 0 }

def mazeReset : Maze :=
  { config := [], waiting := [], loading := 0, loaded := 0, bank0 := bankDescReset,
    bank1 := bankDescReset, newest := 0, state := 0, fenced0 := false, fenced1 := false, segments := [],
    searchFenced := false, region := 0xF, lastCycle := 0, cycleAt := 0, bound := none, newer := false,
    aged := false, stale := false, used := none, lastCurvature := 0, lastArticulation := 0, edges := [],
    chain := none, stop := none, hazard := false, heldBytes := [], stopPassDone := false, passes := 0,
    rechecked := false, rechecking := false, fixed := none, slotHeld := none, slotSent := 0, tableSeen := false, pc := 0, running := false, opened := none, publishing := false, committed := none, checkEpoch := 0, checkSpeed := 0,
    instant := 0, trajectory := 0, held := 0, maxDecel := 0, recheck := 0, mismatch := 0, checker := 0,
    mismatchValid := false, programMax := 0, closed := 0, planQueue := none,
    resultBase := 0 }

/-- An island after power-on: START_UP holds (R363, BV_STATUS). -/
def islandReset (causes : BitVec 16) : IslandState :=
  { causes := causes, inReset := false, clean := 0, trimmed := true, firmware := [], spacing := none,
    records := [], alive := [] }

def aggregatorReset : Aggregator :=
  { isOpen := false, first := none, opened := 0, timeInvalid := false, self := none, reports := 0,
    votes := [], details := [], partners := 0, epoch := 0 }

/-- Watchdog entries after package cold reset (R368): windows 0, 1 and 2 of the default schedule. -/
def defaultWatchdogs : Vector WdEntry 8 :=
  #v[⟨0, 300, true, 0⟩, ⟨300, 700, true, 0⟩, ⟨700, 900, true, 0⟩, ⟨0, 0, false, 0⟩, ⟨0, 0, false, 0⟩,
     ⟨0, 0, false, 0⟩, ⟨0, 0, false, 0⟩, ⟨0, 0, false, 0⟩]

def belvedereReset : Belvedere :=
  { a := islandReset 0x0001, b := islandReset 0x0001, lastBoundary := none, resuming := 0, releaseReject := 0,
    wd := defaultWatchdogs, wdEarly := 0, wdLate := 0, wdOff := false, wdCount := 0, judged := 0,
    owed := 0, pairChecked := 0, pairMismatch := 0, pairTimeout := 0, pairPrimary := 0,
    pairSecond := 0, pairService := true, pairValid := false, points := [], held := [], goldPassed := 0,
    goldMismatch := 0, goldDeferred := 0, goldCtx := 0, goldValid := false, golden := [], reserved := [],
    segments := 0, aborted := 0, lagTile := 0, lag := false, inject := 0, busOff := 0, stopReject := 0,
    faultSelect := 0, can := none, frames := [], stages := [], fusionRecord := [], commit := none, aggs := [], tests := [], passes := [],
    pins := 0 }

def moduleReset : Module :=
  { state := 0, width := 0, lanes := 0, localMask := 0, remoteMask := 0, retrains := 0, replays := 0,
    errorRetrains := 0, resetRetrains := 0, retry := [], failed := [], recent := [], seq := 0, stuck := false,
    testing := false, retrainAt := 0 }

def linksReset : Links :=
  { modules := [], pergola := moduleReset, modSelect := 0, leader := false, roleErr := false, losses := 0,
    delayNs := 0, offsetNs := 0, pairedEver := false, claim := none, pairUp := false, lostAt := none, outbound := [],
    lend := [], partnerCtx := [] }

def resetsReset : Resets :=
  { busy := false, die := 0, result := 0, partBusy := false, partClass := 0, partResult := 0,
    stuckValid := false, stuckCtx := 0, stuckUnit := 0, purged := 0, durationUs := 0, partStep2 := none, partStep3 := none, partQueue := [],
    flrWaits := [], partLength := 0,
    hubWaits := none,
    dumpBase := 0, dumpSize := 0, dumpRegions := 0x3F, dumpAuto := false, dumpGo := false, dumpStart := 0,
    dumpTrigger := 0, dumpFault := 0, dumpPart := 0, dumpResult := 0, unreadable := 0, refValid := false,
    reduced := false, refLost := false, fwdLost := 0, clockOut := 0, held := false, tripped := false, heldByRail := false, heldHot := none,
    railsOut := [] }

/-- A Kiln die after package cold reset: P5, no ceiling (R434). -/
def kilnReset : KilnPower :=
  { level := 5, ceiling := 0, parked := false, avsPending := false, shareW := 0, drawW := 0, drawMw := 0, changes := 0,
    request := none, queued := none, noRaise := false, retryAt := none, lowered := none, parkDraw := 0,
    roomSince := none, grants := [] }

def powerReset : Power :=
  { userW := 0x12C, effectiveW := 0x12C, source := false, inletMax := 0x46, marginW := 0x0A,
    rInit := 0x0266, rEst := 0x0266, inletC := 0x46, tjC := 0, hotDie := 0, sensorFail := false,
    flowStop := false, hot := false, flowStops := 0, hotSteps := 0, sensorFails := 0, kilns := [],
    failRail := 0, fail := false, retries := 0, packageW := 0, sleepTarget := 0, sleepGo := false,
    sleepResult := 0, sleepState := 0, retain := 0xFFFFFFFF, wake := 0x4B, matcher := 0x4B, wakeFrom := 0,
    byPort := false, lost := 0, returnUs := 0, lostAtEntry := 0, guards := [], returnedAt := none, history := [], coolant := none, coolantAt := 0,
    coolantGood := none, calmSince := none, rExact := ⟨0x266, 0x1000⟩, capExact := ⟨300, 1⟩,
    power := ⟨0, 1⟩, capAt := 0, sampledAt := none }

def slotReset : Slot :=
  { activeB := false, trial := false, tried := false, stateA := 0, stateB := 0, svA := 0, svB := 0,
    lenA := 0, lenB := 0 }

/-- The Lodge before its boot sequence: registers at their reset values. The manual gives no contents
for the fuses and the flash of a part; here the lifecycle is Blank, no key is blown and the flash is
erased (DESIGN CHOICE, log 6). -/
def lodgeReset : Lodge :=
  { lifecycle := 0, keyHash := [], revoke := 0, counters := [0, 0, 0, 0, 0], serial := List.replicate 16 0,
    flash := [], slots := [], dirSeq := 0, dirCopy := false, recovery := false, onTrial := 0, onB := 0,
    booted := 0, haltUsed := false, hubHeld := false, mboxCmd := 0, mboxGo := false, arg0 := 0, arg1 := 0,
    buf := 0, len := 0, result := 0, refused := false, outLen := 0, nextSeq := 0, logLost := 0,
    mirrored := 0, lostBefore := false, pageAt := 0, pagesAt := [],
    measures := [], versions := [], sensorSelect := 0, sensors := [], monitors := [], secretLocked := false, trims := [],
    patches := [], patchCode := [], fences := [], subsystem := 0 }

def debugReset : Debug :=
  { ghBp := [], ghWatch := [], ghState := 0, ghCause := 0, ghRefused := false, ghPc := 0, ghPatch := none, traceCtrl := 0,
    linkUp := false, lost := 0, sources := [], ltbBase := 0, ltbSlots := 0, ltbPtr := 0, halves := 0,
    ltbLost := 0, buffers := [], due := [], drain := none }

/-- A function in D0. The manual gives Bus Master Enable no reset value: 0 (PRESUMED of PCI Express, log 5). -/
def fnReset : FnPower := { d3hot := false, busMaster := false }

def hostIfReset : HostIf :=
  { linkSpeed := 0, linkWidth := 0, linkUp := false, bar4Base := 0, bar4Log := 37, errKind := 0, errFn := 0,
    errSource := 0, errQueue := 0, errCount := 0, errValid := false, errAddr := 0, badAccess := 0,
    poisoned := 0, vfEnable := false, numVfs := 0, aer := [], fns := [] }

/-- The block right after package cold reset: every register at the value of the Reset columns (R13),
no command waiting, memory with nothing listed. What has no Reset column is zero or empty (DESIGN CHOICE, log 4). -/
def State.reset : State :=
  { pending := [], free := 0, lastRead := 0, lastBytes := [], lastPoison := false, mem := [], hostMem := [], partnerMem := [],
    gh := gatehouseReset, sync := syncReset, tl := tilesReset, ms := memSysReset, part := partitionReset,
    sun := sundialReset, fe := fusionReset, mz := mazeReset, bv := belvedereReset, ln := linksReset,
    rs := resetsReset, pw := powerReset, lg := lodgeReset, db := debugReset, hi := hostIfReset }

end Sys2Proof.Machine
end

