-- ==== Sys2Proof/Machine/Ops.lean ====
section
/-! DEFINITION. The named operations over tables, memory and bytes: sparse tables, the canonical byte
memory, little-endian fields (R5), saturating counters (R16), CRC-32C (R183) and CRC-64 (R375). -/

namespace Sys2Proof.Machine

/-! ## Tables -/

/-- The value at key `k`, `d` when the key is absent. -/
def tabGet {α : Type} (d : α) : Tab α → Nat → α
  | [], _ => d
  | (k, v) :: r, i => if k = i then v else tabGet d r i

/-- Inserts an entry before the first key that is not below it. -/
def tabInsert {α : Type} : Tab α → Nat → α → Tab α
  | [], i, x => [(i, x)]
  | (k, v) :: r, i, x => if i < k then (i, x) :: (k, v) :: r else (k, v) :: tabInsert r i x

/-- Removes every entry of key `i`. -/
def tabDel {α : Type} : Tab α → Nat → Tab α
  | [], _ => []
  | (k, v) :: r, i => if k = i then tabDel r i else (k, v) :: tabDel r i

/-- Sets the value at key `i`. -/
def tabPut {α : Type} (t : Tab α) (i : Nat) (x : α) : Tab α := tabInsert (tabDel t i) i x

/-- Sets the value at key `i`, listing nothing when it is the default `d`. -/
def tabSet {α : Type} [DecidableEq α] (d : α) (t : Tab α) (i : Nat) (x : α) : Tab α :=
  if x = d then tabDel t i else tabPut t i x

/-- Whether the key is listed. -/
def tabHas {α : Type} : Tab α → Nat → Bool
  | [], _ => false
  | (k, _) :: r, i => if k = i then true else tabHas r i

/-! ## Memory -/

/-- What an address with no entry reads as (DESIGN CHOICE, log 7). -/
def Memory.unlisted : Byte := 0

/-- Keys strictly rising. -/
def risingKeys : Memory → Bool
  | [] => true
  | [_] => true
  | (a, _) :: (b, y) :: r => decide (a < b) && risingKeys ((b, y) :: r)

/-- The canonical form: addresses strictly rising, no entry that an unlisted address reads as. -/
def Memory.wf (m : Memory) : Bool := risingKeys m && m.all (fun c => c.2 != Memory.unlisted)

/-- The byte at an address. -/
def memRead (m : Memory) (a : Nat) : Byte := tabGet Memory.unlisted m a

/-- `n` bytes from an address up. -/
def memReads (m : Memory) (a : Nat) : Nat → List Byte
  | 0 => []
  | n + 1 => memRead m a :: memReads m (a + 1) n

/-- Inserts a byte in its sorted place, replacing one at the same address. -/
def memInsert : Memory → Nat → Byte → Memory
  | [], a, b => [(a, b)]
  | (k, v) :: r, a, b =>
    if a < k then (a, b) :: (k, v) :: r
    else if a = k then (a, b) :: r
    else (k, v) :: memInsert r a b

/-- Removes the byte listed at an address. -/
def memErase : Memory → Nat → Memory
  | [], _ => []
  | (k, v) :: r, a => if k = a then memErase r a else (k, v) :: memErase r a

/-- Stores one byte, keeping the canonical form. -/
def memWrite (m : Memory) (a : Nat) (b : Byte) : Memory :=
  if b = Memory.unlisted then memErase m a else memInsert m a b

/-- Stores bytes from an address up. -/
def memWrites (m : Memory) (a : Nat) : List Byte → Memory
  | [] => m
  | b :: r => memWrites (memWrite m a b) (a + 1) r

/-- Stores the cells of a list, in its order. -/
def memCells (m : Memory) : List Host.Cell → Memory
  | [] => m
  | (a, b) :: r => memCells (memWrite m a b) r

/-- Clears the addresses from `lo` up to, and not including, `hi` (R90, R237). -/
def memClear (m : Memory) (lo hi : Nat) : Memory :=
  m.filter (fun c => decide (c.1 < lo) || decide (hi ≤ c.1))

/-! ## Bytes and fields (R5) -/

/-- The unsigned value of little-endian bytes. -/
def leNat : List Byte → Nat
  | [] => 0
  | b :: r => b.toNat + 256 * leNat r

/-- The low `n` bytes of a number, little-endian. -/
def leBytes : Nat → Nat → List Byte
  | 0, _ => []
  | n + 1, v => BitVec.ofNat 8 v :: leBytes n (v / 256)

/-- `n` bytes at offset `off` of a record; bytes past its end read as zero. -/
def slice (l : List Byte) (off n : Nat) : List Byte :=
  let t := (l.drop off).take n
  t ++ List.replicate (n - t.length) 0

/-- The unsigned `n`-byte field at offset `off` of a record. -/
def field (l : List Byte) (off n : Nat) : Nat := leNat (slice l off n)

/-- The two's complement value of the low `w` bits of a number (R7). -/
def signedOf (w v : Nat) : Int :=
  let u := v % 2 ^ w
  if u < 2 ^ (w - 1) then (u : Int) else (u : Int) - (2 ^ w : Nat)

/-- The low `w` bits of an integer, as a number. -/
def wrapInt (w : Nat) (x : Int) : Nat := (x % (2 ^ w : Nat)).toNat

/-- Replaces the bytes of a record from offset `off` on. -/
def patch (l : List Byte) (off : Nat) (b : List Byte) : List Byte :=
  l.take off ++ b ++ l.drop (off + b.length)

/-- The bits [hi:lo] of a number. -/
def bits (v hi lo : Nat) : Nat := (v / 2 ^ lo) % 2 ^ (hi + 1 - lo)

/-- Bit `i` of a number. -/
def bit (v i : Nat) : Bool := v.testBit i

/-- 1 for true. -/
def b2n (b : Bool) : Nat := if b then 1 else 0

/-- `n` zero bytes. -/
def zeros (n : Nat) : List Byte := List.replicate n 0

/-- All bytes zero. -/
def allZero (l : List Byte) : Bool := l.all (fun b => b == 0)

/-! ## Counters (R16) -/

/-- A counter after `k` more events: it saturates at all-ones. -/
def satAdd {w : Nat} (x : BitVec w) (k : Nat) : BitVec w :=
  BitVec.ofNat w (min (2 ^ w - 1) (x.toNat + k))

/-- A counter after one more event. -/
def satInc {w : Nat} (x : BitVec w) : BitVec w := satAdd x 1

/-! ## CRC -/

/-- One bit of CRC-32C in reflected form (R183: polynomial 0x1EDC_6F41, reflected 0x82F6_3B78). -/
def crc32cBit (c : Word32) : Word32 :=
  if c.getLsbD 0 then (c >>> 1) ^^^ 0x82F63B78#32 else c >>> 1

/-- CRC-32C after one byte. -/
def crc32cByte (c : Word32) (b : Byte) : Word32 :=
  let x := c ^^^ (b.setWidth 32)
  crc32cBit (crc32cBit (crc32cBit (crc32cBit (crc32cBit (crc32cBit (crc32cBit (crc32cBit x)))))))

/-- CRC-32C of a byte string (R183). -/
def crc32c (l : List Byte) : Word32 := (l.foldl crc32cByte 0xFFFFFFFF#32) ^^^ 0xFFFFFFFF#32

/-- CRC-32C of an image: bytes 12 to 15 read as zero (R183). -/
def imageCrc (l : List Byte) : Word32 := crc32c ((l.take 12 ++ zeros 4 ++ l.drop 16).take l.length)

/-- One bit of CRC-64, not reflected, polynomial 0x42F0_E1EB_A9EA_3693 (R375). -/
def crc64Bit (c : Word64) : Word64 :=
  if c.getLsbD 63 then (c <<< 1) ^^^ 0x42F0E1EBA9EA3693#64 else c <<< 1

/-- CRC-64 after one byte. -/
def crc64Byte (c : Word64) (b : Byte) : Word64 :=
  let x := c ^^^ ((b.setWidth 64) <<< 56)
  crc64Bit (crc64Bit (crc64Bit (crc64Bit (crc64Bit (crc64Bit (crc64Bit (crc64Bit x)))))))

/-- Folds bytes, then their 8 B destination tag, into a bus signature (R375). -/
def sigFold (c : Word64) (data : List Byte) (tag : Nat) : Word64 :=
  (data ++ leBytes 8 tag).foldl crc64Byte c

/-- A 64-bit word rotated left. -/
def rotl64 (x : Word64) (n : Nat) : Word64 := x.rotateLeft n

/-! ## Classes -/

/-- The code of a class (GH_SQ_CFG.CLASS). -/
def classCode : Class → Nat
  | .qm => 0
  | .b => 1
  | .d => 2

/-- The class of a code; `none` for the reserved 0b11. -/
def classOf (n : Nat) : Option Class :=
  if n = 0 then some .qm else if n = 1 then some .b else if n = 2 then some .d else none

/-- The class of a code that has been checked; the reserved code reads as QM. -/
def classOfD (n : Nat) : Class := (classOf n).getD .qm

/-- A number as a context ID (its low ten bits). -/
def ctxId (n : Nat) : CtxId := Fin.ofNat 1024 n

/-- A number as a Kiln die (its low two bits). -/
def kilnId (n : Nat) : KilnId := Fin.ofNat 4 n

/-- A number as a tile number (its low eight bits). -/
def tileId (n : Nat) : TileId := Fin.ofNat 256 n

/-- A number as a queue (its low six bits). -/
def queueId (n : Nat) : QueueId := Fin.ofNat 64 n

/-- A number as a die ID below 6. -/
def dieId (n : Nat) : DieId := Fin.ofNat 6 n

/-- The Kiln die of a tile (R22). -/
def tileDie (tl : TileId) : KilnId := kilnId (tl.val / 64)

/-- The local index of a tile on its die (R22). -/
def tileLocal (tl : TileId) : Nat := tl.val % 64

/-- The tile of a die and local index (R22). -/
def tileOn (k : KilnId) (i : Nat) : TileId := tileId (k.val * 64 + i % 64)

end Sys2Proof.Machine
end

