-- ==== Sys2Proof/Machine/Access.lean ====
section
/-! DEFINITION. Reading and writing the parts of the state: queues, items, instances, contexts, tiles,
dies and channels; the address decode of R214, R218 to R220; the scan orders of R67 and R87; the shelf
partition of R338; an engine's clock cycles (R488 to R491); Sundial time, free values and the Lodge log of R475. -/

namespace Sys2Proof.Machine

/-! ## Time and free values -/

/-- Sundial time in whole ns. -/
def now (s : State) : Nat := s.sun.ns

/-- The state at Sundial time `t` of an event; Sundial time never decreases (R267). Commands give whole ns: the fraction
is free (DESIGN CHOICE, log 142). The islands count the same time (R393; DESIGN CHOICE, log 173). -/
def atTime (t : Nat) (s : State) : State :=
  { s with sun := { s.sun with
    ns := max s.sun.ns t, elapsed := s.sun.elapsed + (t - s.sun.ns),
    frac := if s.sun.ns < t then Config.subNs t else s.sun.frac } }

/-- The next free value. -/
def freeValue (s : State) : Nat := Config.freeNat s.free

/-- The state after a free value has been drawn. -/
def drawFree (s : State) : State := { s with free := s.free + 1 }

/-- What the host stored in its memory before this step. -/
def hostWrites (h : List Host.Cell) (s : State) : State := { s with hostMem := memCells s.hostMem h }

/-! ## Queues, items, instances, contexts -/

def queueOf (s : State) (q : QueueId) : Queue := tabGet queueReset s.gh.queues q.val

def setQueue (s : State) (q : QueueId) (x : Queue) : State :=
  { s with gh := { s.gh with queues := tabPut s.gh.queues q.val x } }

/-- Ring entries (R31). -/
def ringSize (x : Queue) : Nat := 2 ^ x.sizeLog2.toNat

def findItem (s : State) (i : ItemId) : Option Item := s.gh.items.find? (fun x => x.id == i)

/-- Applies a change to the item named, where it is listed. -/
def modItem (s : State) (i : ItemId) (f : Item → Item) : State :=
  { s with gh := { s.gh with items := s.gh.items.map (fun x => if x.id = i then f x else x) } }

def findInst (s : State) (w : InstanceId) : Option Inst := s.gh.insts.find? (fun x => x.id == w)

def modInst (s : State) (w : InstanceId) (f : Inst → Inst) : State :=
  { s with gh := { s.gh with insts := s.gh.insts.map (fun x => if x.id = w then f x else x) } }

def delInst (s : State) (w : InstanceId) : State :=
  { s with gh := { s.gh with insts := s.gh.insts.filter (fun x => x.id != w) } }

def ctxOf (s : State) (c : CtxId) : Context := tabGet contextReset s.gh.contexts c.val

def setCtx (s : State) (c : CtxId) (x : Context) : State :=
  { s with gh := { s.gh with contexts := tabPut s.gh.contexts c.val x } }

def modCtx (s : State) (c : CtxId) (f : Context → Context) : State := setCtx s c (f (ctxOf s c))

/-! ### Descriptor fields (R36, R38) -/

def dType (d : List Byte) : Nat := field d 0 1
def dFlags (d : List Byte) : Nat := field d 1 1
def dCtx (d : List Byte) : CtxId := ctxId (field d 2 2)
def dClass (d : List Byte) : Class := classOfD (bits (field d 4 1) 1 0)
def dHintDie (d : List Byte) : Nat := bits (field d 4 1) 6 4
def dHintValid (d : List Byte) : Bool := bit (field d 4 1) 7
def dNWait (d : List Byte) : Nat := bits (field d 5 1) 2 0
def dNSignal (d : List Byte) : Nat := bits (field d 5 1) 6 4
def dDeadline (d : List Byte) : Nat := field d 8 4
def dTag (d : List Byte) : Nat := field d 12 4
def dWaitId (d : List Byte) (k : Nat) : Nat := field d (32 + 6 * k) 2
def dWaitValue (d : List Byte) (k : Nat) : Nat := field d (34 + 6 * k) 4
def dSignal (d : List Byte) (k : Nat) : Nat := field d (56 + 2 * k) 2
def dPaired (d : List Byte) : Bool := bit (dFlags d) 0
def dGolden (d : List Byte) : Bool := bit (dFlags d) 1
def dNoReplay (d : List Byte) : Bool := bit (dFlags d) 2

/-- The type names a context (R36: CTX_ID is ignored for FUSE-CONFIG, PLAN-CONFIG, FENCE and SYNC). -/
def dNamesCtx (d : List Byte) : Bool :=
  dType d == 1 || dType d == 2 || dType d == 6 || dType d == 7

/-- Whether the item names context `c`. -/
def itemNames (x : Item) (c : CtxId) : Bool := !x.plan && dNamesCtx x.desc && dCtx x.desc == c

/-- The item runs instances or a transfer of the context: a RUN or COPY. -/
def itemWorks (x : Item) (c : CtxId) : Bool :=
  !x.plan && (dType x.desc == 1 || dType x.desc == 2) && dCtx x.desc == c

/-- Accepted and not published (a rejected descriptor is no item). -/
def itemLive (x : Item) : Bool := x.stage != .rejected

/-- Acceptance order across queues: acceptance time, ties to the lower queue (R51). -/
def itemBefore (x y : Item) : Bool :=
  decide (x.accepted < y.accepted) ||
    (x.accepted == y.accepted &&
      (decide (x.id.queue.val < y.id.queue.val) ||
        (x.id.queue == y.id.queue && decide (x.id.seq.toNat < y.id.seq.toNat))))

/-! ## Tiles, chains, shelves -/

def tileOf (s : State) (tl : TileId) : Tile := tabGet tileReset s.tl.tiles tl.val

def setTile (s : State) (tl : TileId) (x : Tile) : State :=
  { s with tl := { s.tl with tiles := tabPut s.tl.tiles tl.val x } }

def modTile (s : State) (tl : TileId) (f : Tile → Tile) : State := setTile s tl (f (tileOf s tl))

def setChains (s : State) (l : List Chain) : State := { s with tl := { s.tl with chains := l } }

/-- Chains in flight on a tile's engine (R171). -/
def chainsOn (s : State) (tl : TileId) : Nat := (s.tl.chains.filter (fun x => x.tile == tl)).length

/-- COPY transfers on a tile's engine. -/
def copiesOn (s : State) (tl : TileId) : Nat := (s.gh.items.filter (fun x => x.engine == some tl)).length

/-- Chains of an instance in flight. -/
def chainsOf (s : State) (w : InstanceId) : List Chain := s.tl.chains.filter (fun x => x.inst == w)

/-- Chains of an item in flight. -/
def itemChains (s : State) (i : ItemId) : List Chain := s.tl.chains.filter (fun x => x.inst.item == i)

def shelfUse (s : State) (phys : Nat) : ShelfUse := tabGet .free s.tl.shelves phys

def setShelf (s : State) (phys : Nat) (u : ShelfUse) : State :=
  { s with tl := { s.tl with shelves := tabSet .free s.tl.shelves phys u } }

/-- Class of a local shelf number under the split of R338. -/
def shelfClass (p : Partition) (l : Nat) : Class :=
  if l < p.dShelves.toNat then .d
  else if l < p.dShelves.toNat + p.bShelves.toNat then .b
  else .qm

/-! ## Dies, channels and the address map -/

def dieState (s : State) (d : Nat) : DieState := tabGet .service s.ms.dies d

def setDie (s : State) (d : Nat) (x : DieState) : State :=
  { s with ms := { s.ms with dies := tabSet .service s.ms.dies d x } }

/-- A Kiln die that can hold work: in service. -/
def kilnIn (s : State) (k : KilnId) : Bool := dieState s k.val == .service

/-- A tile in service: its die is, and it is neither fenced nor in reset. -/
def tileIn (s : State) (tl : TileId) : Bool :=
  kilnIn s (tileDie tl) && (tileOf s tl).state != .fenced && (tileOf s tl).state != .inReset

def kilns : List KilnId := [0, 1, 2, 3]

/-- Kiln dies in service. -/
def kilnsIn (s : State) : List KilnId := kilns.filter (kilnIn s)

def channelOf (s : State) (k c : Nat) : Channel := tabGet channelReset s.ms.channels (8 * k + c)

def setChannel (s : State) (k c : Nat) (x : Channel) : State :=
  { s with ms := { s.ms with channels := tabPut s.ms.channels (8 * k + c) x } }

/-- Channels of a die in service: not fenced (R218). -/
def channelsIn (s : State) (k : Nat) : List Nat :=
  (List.range 8).filter (fun c => (channelOf s k c).state != 1)

/-- Bytes of a die's present range: n × 4 GiB (R218). -/
def presentBytes (s : State) (k : Nat) : Nat := (channelsIn s k).length * 0x1_0000_0000

/-- The 32 GiB of a die start at k × 2³⁵ (R214). -/
def dieBase (k : Nat) : Nat := k * 0x8_0000_0000

/-- Base of the device-reserved area: the top 256 MiB of the present range (R220). -/
def reservedBase (s : State) (k : Nat) : Nat := dieBase k + presentBytes s k - 0x1000_0000

/-- Where a device physical address lies (R214). -/
inductive Place where
  | lpddr (k : KilnId) (off : Nat)
  | shelf
  | registers
  | keep
  | road
  | banks
  | partner (x : Nat)
  | host (h : Nat)
  | nowhere
  deriving DecidableEq, Repr

/-- The address decode of R214. -/
def placeOf (pa : Nat) : Place :=
  if pa < 0x20_0000_0000 then .lpddr (kilnId (pa / 0x8_0000_0000)) (pa % 0x8_0000_0000)
  else if 0x4000_0000_0000 ≤ pa ∧ pa < 0x4001_0000_0000 then .shelf
  else if 0x6000_0000_0000 ≤ pa ∧ pa < 0x6000_0400_0000 then .registers
  else if 0x6000_1000_0000 ≤ pa ∧ pa < 0x6000_1080_0000 then .keep
  else if 0x6000_2000_0000 ≤ pa ∧ pa < 0x6000_2200_0000 then .road
  else if 0x6000_2200_0000 ≤ pa ∧ pa < 0x6000_2208_0000 then .banks
  else if 0x8000_0000_0000 ≤ pa ∧ pa < 0x8020_0000_0000 then .partner (pa - 0x8000_0000_0000)
  else if 0xC000_0000_0000 ≤ pa ∧ pa < 0x1_0000_0000_0000 then .host (pa - 0xC000_0000_0000)
  else .nowhere

/-- An LPDDR6 address that is not absent under R219. -/
def lpddrPresent (s : State) (pa : Nat) : Bool :=
  match placeOf pa with
  | .lpddr k off => kilnIn s k && decide (off < presentBytes s k.val)
  | _ => false

/-- The channel that an LPDDR6 address lies on (R218): the (g mod n)-th channel in service. -/
def channelAt (s : State) (pa : Nat) : Nat :=
  let k := pa / 0x8_0000_0000
  let l := channelsIn s k
  (l[(pa % 0x8_0000_0000 / 256) % (max 1 l.length)]?).getD 0

/-- Class memory of a die, as offsets [lo, hi) from its base (R339). -/
def classRange (s : State) (k : Nat) (c : Class) : Nat × Nat :=
  let u := presentBytes s k / 0x1000_0000 - 1
  let d := min s.part.dMem.toNat u
  let b := min s.part.bMem.toNat (u - d)
  match c with
  | .d => (0, d * 0x1000_0000)
  | .b => (d * 0x1000_0000, (d + b) * 0x1000_0000)
  | .qm => ((d + b) * 0x1000_0000, u * 0x1000_0000)

/-- Whether `n` bytes from an LPDDR6 address lie in a class's partition memory (R339). -/
def inClassMemory (s : State) (c : Class) (pa n : Nat) : Bool :=
  match placeOf pa with
  | .lpddr k off =>
    let r := classRange s k.val c
    kilnIn s k && decide (r.1 ≤ off) && decide (off + n ≤ r.2)
  | _ => false

/-- Reads bytes at a device physical address on behalf of the Gatehouse or a context: the partner's and
the host's windows reach their own memories. -/
def paReads (s : State) (pa n : Nat) : List Byte :=
  match placeOf pa with
  | .partner x => memReads s.partnerMem x n
  | .host h => memReads s.hostMem h n
  | _ => memReads s.mem pa n

/-- Granules of 32 B that a write of `n` bytes at `pa` replaces whole (R226). -/
def wholeGranules (pa n : Nat) (g : Nat) : Bool := decide (pa ≤ g) && decide (g + 32 ≤ pa + n)

/-- Counts one corrected LPDDR6 read in MC_ECC of its channel (R225). -/
def noteCorrected (s : State) (g : Nat) : State :=
  let k := g / 0x8_0000_0000
  let c := channelAt s g
  setChannel s k c { channelOf s k c with corrected := satInc (channelOf s k c).corrected }

/-- A granule lies in part in a range. -/
def inGranule (pa n g : Nat) : Bool := decide (g < pa + n) && decide (pa < g + 32)

/-- What a read of `n` bytes leaves: each granule that it touches with an error in one symbol is corrected, counted and
written back (R225). -/
def correctGranules (s : State) (pa n : Nat) : State :=
  let l := s.ms.softGranules
  let s1 := (l.filter (inGranule pa n)).foldl noteCorrected s
  { s1 with ms := { s1.ms with softGranules := l.filter (fun g => !inGranule pa n g) } }

/-- Writes bytes at a device physical address. A granule written whole is good again (R226); one written in part is read,
merged and written back (R225). -/
def paWrites (s : State) (pa : Nat) (l : List Byte) : State :=
  match placeOf pa with
  | .partner x => { s with partnerMem := memWrites s.partnerMem x l }
  | .host h => { s with hostMem := memWrites s.hostMem h l }
  | _ =>
    let old (g : Nat) : Bool := !wholeGranules pa l.length g
    let s1 := correctGranules { s with ms := { s.ms with softGranules := s.ms.softGranules.filter old } } pa l.length
    { s1 with mem := memWrites s1.mem pa l, ms := { s1.ms with badGranules := s1.ms.badGranules.filter old } }

/-- The first bad granule that a read of `n` bytes at an LPDDR6 address touches (R226). -/
def badGranule (s : State) (pa n : Nat) : Option Nat := s.ms.badGranules.find? (inGranule pa n)

/-- A bad granule that a write touches only in part (R225). -/
def partialGranule (s : State) (pa n : Nat) : Option Nat :=
  s.ms.badGranules.find? (fun g => inGranule pa n g && !wholeGranules pa n g)

/-- A physical upset of `n` symbols of a granule (R224): an error in one is correctable, in two detected. The manual does
not say what the code makes of more: by a free value it is detected, or goes unnoticed with free contents (DESIGN CHOICE,
log 139). -/
def upsetGranule (s : State) (g n : Nat) : State :=
  let bad (s : State) : State :=
    if s.ms.badGranules.contains g then s else { s with ms := { s.ms with badGranules := g :: s.ms.badGranules } }
  if n = 0 then s
  else if n = 1 then
    if s.ms.softGranules.contains g then s else { s with ms := { s.ms with softGranules := g :: s.ms.softGranules } }
  else if n = 2 then bad s
  else if freeValue s % 2 = 0 then bad (drawFree s)
  else { drawFree (drawFree s) with mem := memWrites s.mem g (leBytes 32 (freeValue (drawFree s))) }

/-- Counts and latches an uncorrectable read (R226): MC_ECC and MC_UE_ADDR of its channel. -/
def noteUncorrectable (s : State) (g : Nat) (patrol : Bool) : State :=
  let k := g / 0x8_0000_0000
  let c := channelAt s g
  let x := channelOf s k c
  setChannel s k c
    { x with uncorrectable := satInc x.uncorrectable, ueAddr := BitVec.ofNat 48 (g / 32 * 32),
             patrol := patrol, ueValid := true }

/-- DETAIL of ST_MEMORY_UNCORRECTABLE for LPDDR6 (R226): channel, die and bit 15. -/
def uncorrectableDetail (s : State) (g : Nat) : Word32 :=
  BitVec.ofNat 32 (channelAt s g + (g / 0x8_0000_0000) * 256 + 0x8000)

/-- Device physical address of the first byte of a physical shelf (R214). -/
def shelfBase (phys : Nat) : Nat := 0x4000_0000_0000 + phys * 0x1_0000

/-! ## Engine counters (R488 to R491) -/

/-- The reason code of a stalled clock cycle: the lowest among the causes present in it, a mask by code (R489). -/
def stallReason (causes : Nat) : Nat := (((List.range 16).drop 1).find? (bit causes)).getD 0

/-- Counts stalled clock cycles that share their causes: how many, and the mask. `cmd` says that they belong to the command,
`sel` is DB_ENG_SELECT.REASON (R490). -/
def stallEngine (cmd : Bool) (sel : Nat) (e : Engine) (g : Nat × Nat) : Engine :=
  let r := stallReason g.2
  if g.1 = 0 then e
  else { e with
    stall := e.stall + BitVec.ofNat 48 g.1, cmdStall := if cmd then satAdd e.cmdStall g.1 else e.cmdStall,
    last := BitVec.ofNat 4 r,
    other := if r = 2 ∨ r = 4 then e.other + BitVec.ofNat 48 g.1 else e.other,
    selected := if r = sel then e.selected + BitVec.ofNat 48 g.1 else e.selected }

/-- `n` stalled clock cycles, each with the cause `known` unless that is 0, and with open ones but the switch, which has no
command (R490): how many have which (DESIGN CHOICE, log 30). -/
def openStalls (f : Nat → Nat) (known : Nat) : Nat → Nat → List (Nat × Nat)
  | 0, n => [(n, Nat.lor (if known = 0 then 0 else 2 ^ known) ((f 0 % 0x3FFF + 1) * 4))]
  | k + 1, n =>
    (f (2 * k + 1) % (n + 1), Nat.lor (if known = 0 then 0 else 2 ^ known) ((f (2 * k + 2) % 0x3FFF + 1) * 4)) ::
      openStalls f known k (n - f (2 * k + 1) % (n + 1))

/-- Counts `n` stalled clock cycles with open causes beside a known one. -/
def stallOpen (f : Nat → Nat) (cmd : Bool) (known sel n : Nat) (e : Engine) : Engine :=
  (openStalls f known 14 n).foldl (stallEngine cmd sel) e

/-- Counts busy clock cycles of the command. -/
def busyEngine (cmd : Bool) (n : Nat) (e : Engine) : Engine :=
  { e with busy := e.busy + BitVec.ofNat 48 n, cmdBusy := if cmd then satAdd e.cmdBusy n else e.cmdBusy }

/-- Counts idle clock cycles. -/
def idleEngine (cmd : Bool) (n : Nat) (e : Engine) : Engine :=
  { e with idle := e.idle + BitVec.ofNat 48 n, cmdIdle := if cmd then satAdd e.cmdIdle n else e.cmdIdle }

/-- An engine over `n` clock cycles, each in exactly one state (R488), which one being open (DESIGN CHOICE, log 30). -/
def runEngine (f : Nat → Nat) (cmd : Bool) (sel n : Nat) (e : Engine) : Engine :=
  let b := f 40 % (n + 1)
  let st := f 41 % (n - b + 1)
  stallOpen f cmd 0 sel st (idleEngine cmd (n - b - st) (busyEngine cmd b e))

/-- The tile's DMA engine has a chain or a transfer in flight. -/
def dmaFlies (s : State) (tl : TileId) : Bool := decide (0 < chainsOn s tl + copiesOn s tl)

/-- Tensor Array, V0, V1 or tile DMA over `n` clock cycles (R488): one with an empty queue, or with no chain in flight, is
idle, and the DMA engine is not while one is in flight; `dma` says whether one is now. -/
def restEngine (x : Tile) (dma cmd : Bool) (n i : Nat) (f : Nat → Nat) (e : Engine) : Engine :=
  let sel := x.dbg.reason.toNat
  let b := f 40 % (n + 1)
  if !x.dbg.used.getLsbD i && !(i == 4 && dma) then idleEngine cmd n e
  else if i = 4 ∧ x.dbg.used.getLsbD 4 ∧ dma then stallOpen f cmd 0 sel (n - b) (busyEngine cmd b e)
  else runEngine f cmd sel n e

/-- Changes a tile's five engines with the numbers of one draw. -/
def modEngines (x : Tile) (dma : Bool) (f : Nat → (Nat → Nat) → Engine → Engine) : Tile :=
  let d := x.dbg
  let g (i k : Nat) : Nat := Config.engineCycle d.seed d.cycles (64 * i + k)
  { x with dbg := { d with
      cycles := d.cycles + 1, used := (d.used &&& 15) ||| (if dma then 16 else 0),
      engines := (List.range 5).map (fun i => (i, f i (g i) (tabGet engineReset d.engines i))) } }

/-- The open length of what happens next on a tile: a halt, a wait for an instance, the clock cycles up to a stop or a
sample. -/
def openCycles (x : Tile) : Nat := Config.engineCycle x.dbg.seed x.dbg.cycles 63

/-- `n` clock cycles of a command without an issue: the Sequencer holds an instruction that it cannot issue. -/
def waitCycles (x : Tile) (dma : Bool) (n : Nat) : Tile :=
  modEngines x dma (fun i f e =>
    if i = 0 then stallOpen f true x.dbg.waits.toNat x.dbg.reason.toNat n e else restEngine x dma true n i f e)

/-- Clock cycles in which no command runs: while an instance comes, leaves or waits for its switch all engines stall with
reason SWITCH, the lowest code; on a tile without one only DMA chains go on (R489, R490). -/
def betweenCycles (x : Tile) (dma : Bool) (n : Nat) : Tile :=
  modEngines x dma (fun i f e =>
    if x.inst.isSome then stallEngine false x.dbg.reason.toNat e (n, 2)
    else if i = 4 then restEngine x dma false n i f e
    else idleEngine false n e)

/-- A tile's engines up to the first issue of an entry whose switch takes `clk` clock cycles: an open number since the command
before, then the switch. -/
def switchCycles (x : Tile) (dma : Bool) (clk : Nat) : Tile :=
  modEngines (betweenCycles x dma (openCycles x)) dma (fun _ _ e => stallEngine false x.dbg.reason.toNat e (clk - 1, 2))

/-- A tile's engines over the open length of a debug halt: the Sequencer's counters stand still (R484). -/
def haltCycles (x : Tile) (dma : Bool) : Tile :=
  modEngines x dma (fun i f e => if i = 0 then e else restEngine x dma x.dbg.current (openCycles x) i f e)

/-! ## Trace records of events (R480, R494) -/

/-- DB_TRACE_CTRL and the lifecycle state let a source form records of a KIND. -/
def kindTraced (s : State) (k : Nat) : Bool :=
  let c := s.db.traceCtrl.toNat
  (bit c 0 || bit c 1) && bit c (1 + k) && s.lg.lifecycle != 4

/-- The same of a tile's records about a context: DIES and the context filter let it, and Production ENTRY and BRANCH for QM
contexts only. -/
def tileTraced (s : State) (tl : TileId) (k : Nat) (c : CtxId) : Bool :=
  let v := s.db.traceCtrl.toNat
  kindTraced s k && bit v (8 + tl.val / 64) && (!bit v 22 || bits v 21 12 == c.val) &&
    (!(s.lg.lifecycle == 2 && (k == 1 || k == 2)) || (ctxOf s c).cls == .qm)

/-- An event of the Gatehouse or an aggregator forms a record. -/
def noteDue (s : State) (m : Nat) (d : TraceDue) : State :=
  if kindTraced s d.kind.toNat then { s with db := { s.db with due := s.db.due ++ [(BitVec.ofNat 16 m, d)] } } else s

/-- An ITEM record: 0 accepted, 1 first instance started, 2 published. -/
def noteEvent (s : State) (x : Item) (event : Nat) (st : BitVec 16) : State :=
  noteDue s 0x100 ⟨4, if dNamesCtx x.desc && !x.plan then BitVec.ofNat 16 (dCtx x.desc).val else 0xFFFF,
    leBytes 1 x.id.queue.val ++ leBytes 1 event ++ leBytes 4 x.id.seq.toNat ++ leBytes 2 st.toNat⟩

/-- The ENTRY record of a tile's latest entry. -/
def entryDue (x : Tile) : TraceDue :=
  ⟨1, BitVec.ofNat 16 x.ctx.val, leBytes 4 x.dbg.entryPc.toNat ++ [x.slot] ++ leBytes 2 (min 0xFFFF x.dbg.entryClocks)⟩

/-- The COUNTER records of a command that ends, one per engine. -/
def counterDue (d : TileDebug) : List TraceDue :=
  (List.range 5).map (fun i =>
    let e := tabGet engineReset d.engines i
    ⟨3, d.cmdCtx.setWidth 16, leBytes 1 i ++ leBytes 2 e.cmdBusy.toNat ++ leBytes 2 e.cmdStall.toNat ++
      leBytes 2 e.cmdIdle.toNat ++ leBytes 1 e.last.toNat⟩)

/-! ## Scan orders (R67, R87) -/

/-- Kiln dies in the scan order from `h`. -/
def dieScan (h : KilnId) : List KilnId := [h, h + 1, h + 3, h + 2]

/-- Tiles in the scan order of R67, dies not in service skipped. -/
def tileScan (s : State) (h : KilnId) : List TileId :=
  ((dieScan h).filter (kilnIn s)).flatMap (fun k => (List.range 64).map (tileOn k))

/-- Mesh distance of two local indexes (R87). -/
def meshDist (i j : Nat) : Nat :=
  let d (a b : Nat) : Nat := (a - b) + (b - a)
  d (i / 8) (j / 8) + d (i % 8) (j % 8)

/-- The nearest order of R87 from a tile: the tile, its die by mesh distance, the other dies. -/
def nearest (s : State) (t : TileId) : List TileId :=
  let own := tileDie t
  let same := (List.range 15).flatMap (fun d =>
    (List.range 64).filter (fun j => meshDist (tileLocal t) j == d))
  let others := (dieScan own).drop 1
  ((same.map (tileOn own)) ++ (others.flatMap (fun k => (List.range 64).map (tileOn k)))).filter (tileIn s)

/-- A shelf's march runs: its unit of R395 is under test (R392). -/
def marching (s : State) (phys : Nat) : Bool :=
  s.bv.tests.any (fun x => x.unit == BitVec.ofNat 16 (phys / 0x4000 * 8192 + 0x100 + phys / 256 % 64) && x.shelf.toNat == phys % 256)

/-- Free shelves of a class on a tile, in increasing local number (R87). One whose march runs is given out after it (R392). -/
def freeShelves (s : State) (c : Class) (t : TileId) : List Nat :=
  ((List.range 160).filter (fun l => shelfClass s.part l == c)).map (fun l => t.val * 256 + l)
    |>.filter (fun p => shelfUse s p == .free && !marching s p)

/-- Shelves of a class that are in service and not fenced. -/
def classShelves (s : State) (c : Class) : Nat :=
  ((List.range 160).filter (fun l => shelfClass s.part l == c)).length *
      ((List.range 256).filter (fun t => tileIn s (tileId t))).length -
    (s.tl.shelves.filter (fun e => e.2 == .fenced && shelfClass s.part (e.1 % 256) == c &&
      tileIn s (tileId (e.1 / 256)))).length

/-- Shelves of a class promised to contexts: the quota of each context of the class that is not FREE,
twice for one with a shadow set (R44, R373). -/
def promised (s : State) (c : Class) : Nat :=
  (s.gh.contexts.map (fun e =>
    if e.2.state != .free && e.2.cls == c then (if e.2.shadowed then 2 * e.2.shelves else e.2.shelves)
    else 0)).sum

/-- Free shelves that a new quota of the class can take (R44). -/
def quotaRoom (s : State) (c : Class) : Nat := classShelves s c - promised s c

/-! ## Windows (R346) -/

/-- Whether some open window lets a context run. -/
def windowOpenFor (s : State) (c : Context) : Bool :=
  (List.finRange 8).any (fun i =>
    s.part.openMask.getLsbD i.val && c.windowMask.getLsbD i.val && s.part.schedule[i].cls == c.cls &&
      s.part.schedule[i].kind != 0)

/-! ## The Lodge log (R475 to R477) -/

/-- Base of the log ring in Keep SRAM (R458). -/
def logRing : Nat := 0x6000_1010_0000

/-- The 32 bytes of a log entry (R475). -/
def logBytes (seq : Word32) (code die flags time : Nat) (data : List Byte) : List Byte :=
  leBytes 4 seq.toNat ++ leBytes 2 code ++ leBytes 1 die ++ leBytes 1 flags ++ leBytes 8 time ++ slice data 0 16

/-- Time of the first entry of the page that holds a SEQ, where that page has begun after the oldest one (R477). -/
def pageFirst (s : State) (seq : Word32) : Nat :=
  ((s.lg.pagesAt.find? (fun e => e.1 == seq.toNat / 128)).map (fun e => e.2)).getD (now s)

/-- Writes one 32 B record into the ring at its SEQ, counting an entry lost before mirroring (R477). -/
def logPut (s : State) (rcd : List Byte) : State :=
  let full := decide (16384 ≤ (s.lg.nextSeq - s.lg.mirrored).toNat)
  { s with
    mem := memWrites s.mem (logRing + (s.lg.nextSeq.toNat % 16384) * 32) rcd,
    lg := { s.lg with
      nextSeq := s.lg.nextSeq + 1,
      mirrored := if full then s.lg.mirrored + 1 else s.lg.mirrored,
      pageAt := if s.lg.mirrored = s.lg.nextSeq then now s
        else if full ∧ (s.lg.mirrored + 1).toNat % 128 = 0 then pageFirst s (s.lg.mirrored + 1) else s.lg.pageAt,
      pagesAt := if s.lg.mirrored ≠ s.lg.nextSeq ∧ s.lg.nextSeq.toNat % 128 = 0
        then s.lg.pagesAt ++ [(s.lg.nextSeq.toNat / 128, now s)] else s.lg.pagesAt,
      logLost := if full then satInc s.lg.logLost else s.lg.logLost,
      lostBefore := full } }

/-- Writes a log entry of the hub's or a die's source: DIE, DATA, and its extension where it has one. -/
def logAt (s : State) (time code die : Nat) (invalid : Bool) (data : List Byte) (ext : Option (List Byte)) : State :=
  let flags := b2n invalid + (if ext.isSome then 2 else 0) + (if s.lg.lostBefore then 4 else 0)
  let s1 := logPut s (logBytes s.lg.nextSeq code die flags time data)
  match ext with
  | none => s1
  | some e =>
    let s2 := logPut s1 (leBytes 4 s1.lg.nextSeq.toNat ++ leBytes 2 0xFFFF ++ slice e 0 26)
    { s2 with lg := { s2.lg with lostBefore := s1.lg.lostBefore || s2.lg.lostBefore } }

/-- A log entry from the hub at the present Sundial time. -/
def logEntry (s : State) (code : Nat) (data : List Byte) : State :=
  logAt s (now s) code 4 false data none

/-! ## Sync objects (R72) -/

def syncGet (s : State) (i : Nat) : Word32 := tabGet 0 s.sync.counters i

/-- ADD(id, n) on the counters, setting SY_SATURATED when clamped (R72). -/
def syncAdd (f : SyncFabric) (i : Nat) (n : Nat) : SyncFabric :=
  let v := (tabGet 0 f.counters i).toNat + n
  { f with
    counters := tabSet 0 f.counters i (BitVec.ofNat 32 (min 0xFFFFFFFF v)),
    saturated := if 0xFFFFFFFF < v then tabSet false f.saturated i true else f.saturated }

/-- RESET(id, v). -/
def syncSet (f : SyncFabric) (i : Nat) (v : Word32) : SyncFabric :=
  { f with counters := tabSet 0 f.counters i v }

/-- GH_PART_MAP of a class. -/
def partMap (p : Partition) : Class → PartMap
  | .qm => p.mapQm
  | .b => p.mapB
  | .d => p.mapD

/-- Whether an object lies in the class's range (R340). -/
def inSyncRange (p : Partition) (c : Class) (i : Nat) : Bool :=
  decide ((partMap p c).syncBase.toNat ≤ i) && decide (i ≤ (partMap p c).syncLast.toNat)

/-- The wait of an object and value holds (R72). -/
def waitHolds (s : State) (i v : Nat) : Bool := decide (v ≤ (syncGet s i).toNat)

/-- Latches the waits of one item that hold now (R73). -/
def latchWaits (s : State) (x : Item) : Item :=
  { x with waits := BitVec.ofNat 4 ((List.range 4).map (fun k =>
      if x.waits.getLsbD k || (decide (k < dNWait x.desc) && waitHolds s (dWaitId x.desc k) (dWaitValue x.desc k))
      then 2 ^ k else 0)).sum }

/-- Latches every item's waits after the counters have changed (R73). -/
def latchAll (s : State) : State :=
  { s with gh := { s.gh with items := s.gh.items.map (latchWaits s) } }

/-- Every wait of the item is satisfied (R51). A value of 0 is satisfied at once (R72). -/
def waitsMet (s : State) (x : Item) : Bool :=
  (List.range 4).all (fun k => decide (dNWait x.desc ≤ k) || x.waits.getLsbD k ||
    waitHolds s (dWaitId x.desc k) (dWaitValue x.desc k))

/-! ## Topology (R241) -/

/-- A topology update: GENERATION advances by 2. -/
def bumpTopology (s : State) : State :=
  { s with ms := { s.ms with generation := s.ms.generation + 2 } }

/-! ## Causes and outputs of the islands (R363) -/

def islandOf (s : State) : Island → IslandState
  | .a => s.bv.a
  | .b => s.bv.b

/-- An island's outputs: both low while it holds a cause; core reset drives SAFE0_N low (R358, R363). While its reset
input alone holds it, SAFE1_N stays high (DEDUCED, log 147). -/
def islandPins (x : IslandState) : Nat := if x.causes ≠ 0 then 0 else if x.inReset then 2 else 3

/-- The outputs' levels after a change. -/
def pinsOf (a b : IslandState) : BitVec 4 := BitVec.ofNat 4 (islandPins a + 4 * islandPins b)

def setIsland (s : State) (i : Island) (x : IslandState) : State :=
  match i with
  | .a => { s with bv := { s.bv with a := x, pins := pinsOf x s.bv.b } }
  | .b => { s with bv := { s.bv with b := x, pins := pinsOf s.bv.a x } }

/-- Raises a cause bit in an island, asserting its outputs. -/
def raiseCause (s : State) (i : Island) (bitNo : Nat) : State :=
  let x := islandOf s i
  setIsland s i { x with causes := x.causes ||| BitVec.ofNat 16 (2 ^ bitNo) }

/-- Clears a cause bit in an island. -/
def clearCause (s : State) (i : Island) (bitNo : Nat) : State :=
  let x := islandOf s i
  setIsland s i { x with causes := x.causes &&& ~~~ (BitVec.ofNat 16 (2 ^ bitNo)) }

/-- A completion event of a stage, stamped by its unit on die `d`, goes to the watchdogs of the windows of its KIND whose
entries are on; a tile stage's is an ADD to the entry's SYNC_ID (R369, R370). -/
def raiseStage (s : State) (kind d : Nat) (sync : Option (BitVec 16)) (stamp : Nat) : State :=
  let hit := (List.finRange 8).filter (fun w =>
    s.part.schedule[w].kind == kind && s.bv.wd[w].on && sync.all (fun i => i == s.bv.wd[w].sync))
  { s with bv := { s.bv with stages := s.bv.stages ++ hit.map (fun w => (w, stamp, d)) } }

/-- Numbers of the cause bits in BV_STATUS. -/
def causeStartUp : Nat := 0
def causeWindow : Nat := 1
def causeLockstep : Nat := 2
def causeBoundary : Nat := 3
def causeExternal : Nat := 4
def causeThermal : Nat := 5
def causePeerLost : Nat := 6
def causeSupply : Nat := 7
def causeOscillator : Nat := 8
def causeMazeIdle : Nat := 9
def causeHubLost : Nat := 10
def causeDevice : Nat := 11

/-! ## Modules and replicas -/

def moduleOf (s : State) (d i : Nat) : Module := tabGet moduleReset s.ln.modules (16 * d + i)

def setModule (s : State) (d i : Nat) (m : Module) : State :=
  { s with ln := { s.ln with modules := tabPut s.ln.modules (16 * d + i) m } }

/-- The other end of a module (R395). -/
def otherEnd (d i : Nat) : Nat × Nat :=
  if d < 4 then
    if i ≤ 1 then (4, 2 * d + i)
    else if i = 2 then ((d + 1) % 4, 3)
    else ((d + 3) % 4, 2)
  else if d = 4 then (if i < 8 then (i / 2, i % 2) else (5, 0))
  else (4, 8)

/-- Changes both ends of a module. -/
def bothEnds (s : State) (d i : Nat) (f : Module → Module) : State :=
  let o := otherEnd d i
  let s1 := setModule s d i (f (moduleOf s d i))
  setModule s1 o.1 o.2 (f (moduleOf s1 o.1 o.2))

/-- Module ends of a die (R395). -/
def modulesOf (d : Nat) : List Nat := if d < 4 then List.range 4 else if d = 4 then List.range 9 else if d = 5 then [0] else []

/-- State of a die's replica; an unlisted die's has not reached SYNC (SD_REPLICA reset). -/
def replicaOf (s : State) (d : Nat) : ReplicaState := tabGet .stopped s.sun.replicas d

/-- The time that a die's replica shows: Sundial time with the replica's deviation (R270). -/
def replicaTime (s : State) (d : Nat) : Nat := ((now s : Int) + tabGet 0 s.sun.deviation d).toNat

def kilnPower (s : State) (k : KilnId) : KilnPower := tabGet kilnReset s.pw.kilns k.val

def setKilnPower (s : State) (k : KilnId) (x : KilnPower) : State :=
  { s with pw := { s.pw with kilns := tabPut s.pw.kilns k.val x } }

def fnPower (s : State) (f : Nat) : FnPower := tabGet fnReset s.hi.fns f

def setFnPower (s : State) (f : Nat) (x : FnPower) : State :=
  { s with hi := { s.hi with fns := tabPut s.hi.fns f x } }

/-- A virtual function that exists (R503); function 0 always does. -/
def fnExists (s : State) (f : Nat) : Bool :=
  f == 0 || (s.hi.vfEnable && decide (f ≤ s.hi.numVfs.toNat))

/-- The function whose requester ID a class's traffic carries (R217, R503). -/
def classFunction (s : State) (c : Class) : Nat :=
  let f := (partMap s.part c).function.toNat
  if fnExists s f then f else 0

/-- A function can issue requests (R505): D0 with Bus Master Enable 1. -/
def fnCanIssue (s : State) (f : Nat) : Bool := !(fnPower s f).d3hot && (fnPower s f).busMaster


/-! ## Who acts -/

/-- An instance of a class passed a yield point or an item of it published (R77). -/
def noteMoved (s : State) (c : Class) : State :=
  { s with gh := { s.gh with moved := s.gh.moved.set (classCode c) true } }

/-- The device is up: neither held in cold reset nor asleep. -/
def packageUp (s : State) : Bool := !s.rs.held && s.pw.sleepState == 0

/-- The Gatehouse runs: it is not halted (R487), asleep, or held in reset. -/
def ghRuns (s : State) : Bool :=
  s.db.ghState == 0 && s.pw.sleepState == 0 && !s.rs.held && !s.lg.hubHeld

/-- A function's BARs answer: it exists, no function-level reset of it is in progress (R503, R504), and the PCI Express
endpoint has power (R445, R456). -/
def hostReaches (s : State) (f : FnId) : Bool :=
  fnExists s f.val && !s.rs.flrWaits.contains f.val && !s.rs.flrWaits.contains 0 && !s.rs.held && decide (s.pw.sleepState.toNat < 3)

/-- The physical function's registers answer a function: only itself (R511). -/
def pfReaches (s : State) (f : FnId) : Bool := f.val == 0 && hostReaches s f

end Sys2Proof.Machine
end

