-- ==== Sys2Proof/Machine/Frames.lean ====
section
/-! DEFINITION. The CAN FD frames that the islands send (R365, R366). -/

namespace Sys2Proof.Machine

/-- Number of an island: A 0, B 1. -/
def islandNo : Island → Nat
  | .a => 0
  | .b => 1

/-- The CAN configuration under which an island's controllers take part on the bus; in reset it does nothing (R357,
R365). -/
def canOn (s : State) (i : Island) : Option CanConfig :=
  match s.bv.can with
  | some c => if c.enable.getLsbD (islandNo i) && !(islandOf s i).inReset then some c else none
  | none => none

/-- A controller of the island is on the bus. -/
def canSends (s : State) (i : Island) : Bool :=
  !(s.bv.busOff.getLsbD (2 * islandNo i) && s.bv.busOff.getLsbD (2 * islandNo i + 1))

/-- Sends a frame: its ALIVE byte, then the CRC-32C of its preceding bytes (R366). Both controllers of an
island send it. -/
def sendFrame (s : State) (i : Island) (ident : BitVec 32) (body : List Byte) (aliveAt : Nat) : State :=
  if !canSends s i then s
  else
    let x := islandOf s i
    let n := tabGet 0 x.alive ident.toNat
    let b := patch body aliveAt [n]
    let f : CanFrame := ⟨i, ident, b ++ leBytes 4 (crc32c b).toNat⟩
    let s1 := setIsland s i { x with alive := tabPut x.alive ident.toNat (n + 1) }
    { s1 with bv := { s1.bv with frames := f :: s1.bv.frames } }

/-- Both outputs of an island are low. -/
def asserted (s : State) (i : Island) : Bool :=
  match i with
  | .a => !(s.bv.pins.getLsbD 0 && s.bv.pins.getLsbD 1)
  | .b => !(s.bv.pins.getLsbD 2 && s.bv.pins.getLsbD 3)

/-- SAFE of a result frame. -/
def safeBits (s : State) : Nat := b2n (asserted s .a) + 2 * b2n (asserted s .b)

/-- An island's status frame for a cycle (R366). -/
def statusFrame (s : State) (i : Island) (cyc : Nat) : State :=
  match canOn s i with
  | none => s
  | some c =>
    let x := islandOf s i
    let cause := match x.records with
      | r :: _ => field r 13 1
      | [] => 0
    let ident := match i with
      | .a => c.statusA
      | .b => c.statusB
    sendFrame s i ident (leBytes 4 cyc ++ leBytes 2 x.causes.toNat ++ leBytes 1 (b2n (asserted s i)) ++ [0] ++
      leBytes 1 cause ++ zeros 3) 7

/-- Belvedere B sends a result frame with the given fields: 28 B up to the CRC, SAFE and ALIVE filled in. -/
def resultFrame (s : State) (body : List Byte) : State :=
  match canOn s .b with
  | none => s
  | some c => sendFrame s .b c.result (patch body 7 (leBytes 1 (safeBits s))) 19

/-- The fields of the result frame of a commit (R366) from the result slot of R332. -/
def commitFrame (slot : List Byte) : List Byte :=
  slice slot 0 4 ++ slice slot 16 2 ++ slice slot 19 1 ++ [0] ++ slice slot 576 10 ++ slice slot 20 1 ++ [0] ++
    slice slot 8 4 ++ zeros 4

end Sys2Proof.Machine
end

