-- ==== Sys2Proof/Machine/Faults.lean ====
section
/-! DEFINITION. What ends items, instances and contexts: completion and the journal (R48, R53, R78),
leaving a tile (R100, R106), program faults (R59, R532), hardware errors and replay (R58), targeted
tests (R392), fault reports, epochs and records (R396 to R399). -/

namespace Sys2Proof.Machine

/-! ## Status codes (R78) -/

def stOk : BitVec 16 := 0x0000
def stHeldStop : BitVec 16 := 0x0001
def stMaxDecelStop : BitVec 16 := 0x0002
def stFieldReserved : BitVec 16 := 0x0101
def stFieldRange : BitVec 16 := 0x0102
def stSizeOverrun : BitVec 16 := 0x0103
def stContextInvalid : BitVec 16 := 0x0104
def stContextBusy : BitVec 16 := 0x0105
def stClassMismatch : BitVec 16 := 0x0106
def stSyncRange : BitVec 16 := 0x0107
def stNoShelves : BitVec 16 := 0x0108
def stTranslationFault : BitVec 16 := 0x0201
def stMemoryUncorrectable : BitVec 16 := 0x0202
def stYieldOverrun : BitVec 16 := 0x0203
def stIllegalInstruction : BitVec 16 := 0x0204
def stProgramTrap : BitVec 16 := 0x0205
def stChecksumMismatch : BitVec 16 := 0x0206
def stResidueMismatch : BitVec 16 := 0x0207
def stPairMismatch : BitVec 16 := 0x0208
def stGoldenMismatch : BitVec 16 := 0x0209
def stDeadlineExpired : BitVec 16 := 0x020A
def stContextFaulted : BitVec 16 := 0x020B
def stImageFormat : BitVec 16 := 0x0210
def stImageCrc : BitVec 16 := 0x0211
def stImageFootprint : BitVec 16 := 0x0212
def stInputLost : BitVec 16 := 0x0301
def stReplayRefused : BitVec 16 := 0x0302
def stNoTiles : BitVec 16 := 0x0303
def stPartitionReset : BitVec 16 := 0x0304
def stResetAborted : BitVec 16 := 0x0305
def stContextClosed : BitVec 16 := 0x0306
def stTeardownStalled : BitVec 16 := 0x0307
def stTimingFault : BitVec 16 := 0x0401

/-! ## Completion record and journal -/

/-- SLOWDOWN of R71 in Q8.8 from B and O. -/
def slowdown (b o : Nat) : Nat :=
  if b = 0 then 0x0100
  else if b ≤ o then 0xFFFF
  else min 0xFFFF (b * 256 / (b - o))

/-- PHASE of a record: 1 on the first pass through the ring, inverted on each later one (R55). -/
def phaseOf (x : Queue) (seq : Word32) : Bool := (seq.toNat / ringSize x) % 2 == 0

/-- The 32 B completion record of R55 with a status and DETAIL, stamped at a time. R54 gives DEADLINE_MISSED to an item that
began before its deadline and is silent on one that never began and ended otherwise: here it has the flag, too, unless it
was rejected or expired (DESIGN CHOICE, log 155). -/
def recordBytes (q : Queue) (x : Item) (st : BitVec 16) (det : Word32) (time : Nat) : List Byte :=
  let missed := dDeadline x.desc != 0 && decide (x.accepted + dDeadline x.desc * 1000 < time) && !x.plan &&
    x.stage != .rejected && st != stDeadlineExpired
  let flags := b2n (phaseOf q x.id.seq) + (if x.spilled then 2 else 0) + (if missed then 4 else 0) +
    (if x.dropped then 8 else 0) + (if x.paired && st.toNat < 0x100 then 16 else 0) +
    (if x.golden = .passed then 32 else 0)
  let ctx := if dNamesCtx x.desc && !x.plan then (dCtx x.desc).val else 0xFFFF
  leBytes 4 x.id.seq.toNat ++ leBytes 2 st.toNat ++ leBytes 1 flags ++ leBytes 1 x.replays ++
    leBytes 4 (if x.plan then x.frame.toNat else dTag x.desc) ++ leBytes 2 (slowdown x.busy x.other) ++ leBytes 2 ctx ++ leBytes 8 time ++
    leBytes 4 (min 0xFFFFFFFF (x.busyNs / 108)) ++ leBytes 4 det.toNat

/-- Address of an item's journal entry within a mirror die (R220). -/
def journalAddr (s : State) (k : KilnId) (i : ItemId) : Nat :=
  reservedBase s k.val + i.queue.val * 0x8_0000 + (i.seq.toNat % 4096) * 128

/-- The Gatehouse reads an item's entry in mirror `a`, where `bad` finds an uncorrectable granule by the entry's address:
the entry is then read from the other mirror and rewritten in this one (R226). False when both fail. -/
def mirrorRead (s : State) (i : ItemId) (bad : State → Nat → Option Nat) (a b : Option KilnId) : State × Bool :=
  match a with
  | none => (s, true)
  | some k =>
    match bad s (journalAddr s k i) with
    | none => (s, true)
    | some g =>
      let s1 := noteUncorrectable s g false
      match b with
      | none => (s1, false)
      | some m =>
        match badGranule s1 (journalAddr s1 m i) 128 with
        | some h => (noteUncorrectable s1 h false, false)
        | none => (paWrites s1 (journalAddr s1 k i) (paReads s1 (journalAddr s1 m i) 128), true)

/-- Neither mirror gives an item's entry: the item completes with ST_INPUT_LOST (R226). Which die its DETAIL names the
manual does not say: a free value (DESIGN CHOICE, log 138). -/
def journalLost (s : State) (i : ItemId) : State :=
  modItem (drawFree s) i (fun x =>
    if x.stage = .rejected then x
    else { x with stage := .done, verdict := some (stInputLost, BitVec.ofNat 32 (freeValue s)), error := none,
                  engine := none, todo := [] })

/-- The Gatehouse reads an item's entry from its first mirror. -/
def journalRead (s : State) (i : ItemId) : State :=
  match mirrorRead s i (fun s a => badGranule s a 128) s.gh.mirrorA s.gh.mirrorB with
  | (s1, true) => match s1.gh.mirrorA with
    | some k => correctGranules s1 (journalAddr s1 k i) 128
    | none => s1
  | (s1, false) => journalLost s1 i

/-- Writes bytes at an offset of an item's journal entry, in every mirror that exists (R46, R48). A granule written in
part is read first (R225). -/
def journalWrite (s : State) (i : ItemId) (off : Nat) (l : List Byte) : State :=
  let bad (s : State) (a : Nat) : Option Nat := partialGranule s (a + off) l.length
  let put (s : State) : Option KilnId → State
    | none => s
    | some k => paWrites s (journalAddr s k i + off) l
  match mirrorRead s i bad s.gh.mirrorA s.gh.mirrorB with
  | (s1, false) => journalLost s1 i
  | (s1, true) =>
    match mirrorRead s1 i bad s.gh.mirrorB s.gh.mirrorA with
    | (s2, false) => journalLost s2 i
    | (s2, true) => put (put s2 s.gh.mirrorA) s.gh.mirrorB

/-- Writes an item's journal STATE and REPLAYS (R48). -/
def journalState (s : State) (x : Item) (st : Nat) : State :=
  journalWrite s x.id 69 (leBytes 1 st ++ leBytes 1 x.replays)

/-- Takes an item to STATE 3 with a status and DETAIL (R48, R52). An item already done keeps its
stored record. -/
def completeItem (s : State) (i : ItemId) (st : BitVec 16) (det : Word32) : State :=
  match findItem s i with
  | none => s
  | some x =>
    if x.stage = .done ∨ x.stage = .rejected then s
    else
      -- O of R71 is not derived from timing here: a free value between 0 and B (DEDUCED, log 42)
      let o := if x.busy = 0 then 0 else freeValue s % (x.busy + 1)
      let y := { x with stage := .done, verdict := some (st, det), error := none, engine := none, other := o }
      let s1 := modItem { s with free := if x.busy = 0 then s.free else s.free + 1 } i (fun _ => y)
      let s2 := journalState s1 y 3
      journalWrite s2 i 72 (recordBytes (queueOf s i.queue) y st det (now s))

/-- Instances of an item that are started and not ended. -/
def itemInsts (s : State) (i : ItemId) : List Inst := s.gh.insts.filter (fun w => w.id.item == i)

/-- Completes an item all of whose instances and chains have ended: with its verdict, or with ST_OK when
every instance has run to its end (R162, R532), for a batch RUN those of its latest table step (R260). A golden run still due
holds its publication only. -/
def settle (s : State) (i : ItemId) : State :=
  match findItem s i with
  | none => s
  | some x =>
    if ((itemInsts s i).filter (fun w => !w.golden)).isEmpty && (itemChains s i).isEmpty && x.engine.isNone
        && x.error.isNone then
      match x.verdict with
      | some (st, det) => completeItem s i st det
      | none => if x.began && x.todo.isEmpty && dType x.desc == 1 && (!x.batch || x.tabled) then completeItem s i stOk 0 else s
    else s

/-- Gives an item its verdict, unless it has one, and completes it when nothing of it still runs. -/
def endItem (s : State) (i : ItemId) (st : BitVec 16) (det : Word32) : State :=
  settle (modItem s i (fun x =>
    if x.verdict.isSome then x else { x with verdict := some (st, det), error := none, todo := [] })) i

/-! ## Shelves of an instance -/

/-- The physical shelf bound at a context shelf index, in the primary or the shadow set. -/
def boundShelf (s : State) (c : CtxId) (second : Bool) (idx : Nat) : Option Nat :=
  let m := if second then (ctxOf s c).shadow else (ctxOf s c).map
  (m.find? (fun e => e.1 == idx)).map (fun e => e.2)

/-- Context of an item. -/
def itemCtx (s : State) (i : ItemId) : CtxId :=
  match findItem s i with
  | some x => dCtx x.desc
  | none => 0

/-- Device physical address of a byte of an instance's seed slot. -/
def slotAddr (s : State) (c : CtxId) (second : Bool) (slot : Byte) (off : Nat) : Option Nat :=
  (boundShelf s c second (ctxOf s c).seedShelf).map (fun p => shelfBase p + slot.toNat * 256 + off)

/-- A hardware-detected error is recorded for an item (R58, R41): with NO_REPLAY it is to complete with
ST_REPLAY_REFUSED, a third error with its own status, else the item waits for its replay. An item that has its verdict
keeps it. -/
def markError (s : State) (i : ItemId) (st : BitVec 16) (det : Word32) : State :=
  modItem s i (fun x =>
    if x.stage = .done ∨ x.stage = .rejected ∨ x.error.isSome ∨ x.verdict.isSome then x
    else if dNoReplay x.desc then { x with verdict := some (stReplayRefused, st.setWidth 32), todo := [] }
    else if 2 ≤ x.replays then { x with verdict := some (st, det), todo := [] }
    else { x with error := some (st, det), engine := none })

/-- The tile on which an item's error came up: its replay runs on another (R42, R58). -/
def avoidTile (s : State) (i : ItemId) (tl : TileId) : State := modItem s i (fun x => { x with avoid := some tl })

/-! ## Targeted tests, reports, epochs and records -/

/-- A unit ID (R395). -/
def unitId (die kind idx : Nat) : BitVec 16 := BitVec.ofNat 16 (die * 8192 + kind * 256 + idx)

def unitDie (u : BitVec 16) : Nat := u.toNat / 8192
def unitKind (u : BitVec 16) : Nat := u.toNat / 256 % 32
def unitIdx (u : BitVec 16) : Nat := u.toNat % 256

/-- Unit ID of a tile. -/
def tileUnit (tl : TileId) : BitVec 16 := unitId (tileDie tl).val 0 (tileLocal tl)

/-- Takes a unit out of work while its targeted test runs (R392): a tile takes no instance, a module is
not ACTIVE at either end (R404). Channels and Maze banks go on serving. -/
def holdUnit (s : State) (u : BitVec 16) : State :=
  if unitKind u = 0 ∧ unitDie u < 4 then
    modTile s (tileOn (kilnId (unitDie u)) (unitIdx u)) (fun x => { x with testing := true })
  else if unitKind u = 3 then
    let hold (m : Module) : Module := { m with testing := true, state := if m.state = 5 then 4 else m.state }
    let s1 := bothEnds s (unitDie u) (unitIdx u) hold
    if (moduleOf s (unitDie u) (unitIdx u)).state = 5 then bumpTopology s1 else s1
  else if unitKind u = 11 then
    let m := s.ln.pergola
    if m.state = 5 then
      bumpTopology { s with ln := { s.ln with pergola := { m with testing := true, state := 4, retrainAt := now s } } }
    else { s with ln := { s.ln with pergola := { m with testing := true } } }
  else s

/-- Starts the targeted self-test of a unit (R392). One that runs already serves the new record, too. -/
def startTest (s : State) (u : BitVec 16) (shelf : Byte) (rcds : List (List Byte)) : State :=
  if s.bv.tests.any (fun x => x.unit == u && x.shelf == shelf) then
    { s with bv := { s.bv with tests := s.bv.tests.map (fun x =>
        if x.unit = u ∧ x.shelf = shelf then { x with records := x.records ++ rcds } else x) } }
  else
    let s1 := holdUnit s u
    { s1 with bv := { s1.bv with tests := s1.bv.tests ++ [⟨u, shelf, rcds⟩] } }

/-- Targeted tests that a unit has passed within 24 h of its island's own time (R393). -/
def recentPasses (s : State) (u : BitVec 16) (shelf : Byte) : Nat :=
  (s.bv.passes.filter (fun e => e.1 == u && e.2.1 == shelf && decide (s.sun.elapsed < e.2.2 + 86400000000000))).length

/-- Shelf of a tile's shelf unit that an error names: the local number in DETAIL (R395); 0 for any other unit. -/
def unitShelf (u : BitVec 16) (det : Word32) : Byte := BitVec.ofNat 8 (if unitKind u = 1 then det.toNat else 0)

def aggOf (s : State) (d : Nat) : Aggregator := tabGet aggregatorReset s.bv.aggs d

def setAgg (s : State) (d : Nat) (a : Aggregator) : State :=
  { s with bv := { s.bv with aggs := tabPut s.bv.aggs d a } }

/-- The island that an aggregator feeds: A for the hub and Kiln dies, B for the Maze die. -/
def aggIsland (d : Nat) : Island := if d = 5 then .b else .a

/-- Partner bit of a unit (R395). -/
def partnerBit (u : BitVec 16) : Nat :=
  if unitKind u = 0 ∨ unitKind u = 1 then unitIdx u
  else if unitKind u = 2 then 64 + unitIdx u
  else if unitKind u = 3 then 72 + unitIdx u
  else 77 + unitKind u

/-- The unit with the most votes, ties to the lower unit ID (R397). -/
def mostVoted : Tab Nat → Option (Nat × Nat)
  | [] => none
  | (u, n) :: r =>
    match mostVoted r with
    | none => some (u, n)
    | some (v, m) => if m ≤ n then some (u, n) else some (v, m)

/-- The unit to which a closing epoch's fault is attributed (R397). -/
def attribution (a : Aggregator) (first : FaultReport) : BitVec 16 :=
  match a.self with
  | some u => u
  | none =>
    match mostVoted a.votes with
    | some (u, _) => BitVec.ofNat 16 u
    | none => first.reporter

/-- The unit has a targeted test: those that R392's table names (a tile, a tile's shelves, a channel, a module, a Maze
checker bank, the Pergola link) and the Maze search unit, which R331 lets be fenced. The manual names no test for the
other kinds: they run none (DESIGN CHOICE, log 172); nor does an index that R395 gives to no unit. -/
def hasTest (u : BitVec 16) : Bool :=
  match unitKind u with
  | 0 => decide (unitDie u < 4) && decide (unitIdx u < 64)
  | 1 => decide (unitDie u < 4) && decide (unitIdx u < 64)
  | 2 => decide (unitDie u < 4) && decide (unitIdx u < 8)
  | 3 => (modulesOf (unitDie u)).contains (unitIdx u)
  | 5 => unitDie u == 5 && decide (unitIdx u < 2)
  | 6 => unitDie u == 5 && unitIdx u == 0
  | 11 => unitDie u == 4 && unitIdx u == 0
  | _ => false

/-- The 64 B fault record of R398 as written when the epoch closes; `passes` are those counted for its unit so far. -/
def faultRecord (d : Nat) (a : Aggregator) (first : FaultReport) (injected : Bool) (passes : Nat) : List Byte :=
  let u := attribution a first
  let votes := tabGet 0 a.votes u.toNat
  let flags := b2n a.timeInvalid + (if a.self.isSome then 2 else 0) +
    (if a.self.isNone && !a.votes.isEmpty then 4 else 0) + (if injected then 64 else 0)
  let ctx := match first.ctx with
    | some c => c.val
    | none => 0xFFFF
  leBytes 8 a.opened ++ leBytes 4 a.epoch.toNat ++ leBytes 1 d ++ [first.cause] ++ leBytes 1 flags ++ [0] ++
    leBytes 2 first.reporter.toNat ++ leBytes 2 u.toNat ++ leBytes 2 a.reports.toNat ++
    leBytes 2 (min 0xFFFF votes) ++ leBytes 2 ctx ++ leBytes 2 first.status.toNat ++
    leBytes 4 first.detail.toNat ++ leBytes 16 a.partners.toNat ++ leBytes 1 (if injected || !hasTest u then 3 else 0) ++
    leBytes 1 (min 255 passes) ++ zeros 14

/-- Keeps a record in an island's memory, its 64 newest (R399). -/
def keepRecord (s : State) (i : Island) (rcd : List Byte) : State :=
  let x := islandOf s i
  setIsland s i { x with records := (rcd :: x.records).take 64 }

/-- Writes a fault record to the Lodge log: CODE 0x0010 with the record's own time (R399, R476). -/
def logRecord (s : State) (rcd : List Byte) : State :=
  logAt s (field rcd 0 8) 0x0010 (field rcd 12 1) (bit (field rcd 14 1) 0) (slice rcd 8 16)
    (some (slice rcd 24 26))

/-- A fault of the Gatehouse, Sync Fabric, Sundial or clock generation is a device fault (R361). R395 gives the clock
generation no unit ID: its reports are those of cause 0x13 from 0xFFFF. -/
def deviceFault (d : Nat) (u : BitVec 16) (cause : Byte) : Bool :=
  d == 4 && ((unitDie u == 4 && (unitKind u == 8 || unitKind u == 9 || unitKind u == 12)) ||
    (u == 0xFFFF && cause == 0x13))

/-- Closes an aggregator's epoch: attribution, record, device fault, targeted test (R397 to R399). -/
def closeEpoch (s : State) (d : Nat) : State :=
  let a := aggOf s d
  match a.first with
  | none => s
  | some first =>
    let u := attribution a first
    let shelf := unitShelf u (tabGet first.detail a.details u.toNat)
    let rcd := faultRecord d a first first.injected (recentPasses s u shelf)
    let s1 := setAgg s d { aggregatorReset with epoch := a.epoch + 1 }
    let s2 := noteDue (logRecord (keepRecord s1 (aggIsland d) rcd) rcd) (0x110 + d) ⟨5,
      (first.ctx.map (fun c => BitVec.ofNat 16 c.val)).getD 0xFFFF, slice rcd 13 1 ++ slice rcd 16 4 ++ slice rcd 8 4⟩
    if first.injected then s2
    else
      let s3 := if deviceFault d u first.cause then raiseCause s2 .a causeDevice else s2
      if !hasTest u then s3
      else startTest s3 u shelf [rcd]

/-- A report reaches an aggregator at the present Sundial time (R396). -/
def reportFault (s : State) (d : Nat) (r : FaultReport) : State :=
  let a0 := aggOf s d
  let s := if a0.isOpen && decide (a0.opened + 10000 < now s) then closeEpoch s d else s
  let a := aggOf s d
  let pBit := if r.reporter = 0xFFFF then 0 else BitVec.ofNat 128 (2 ^ partnerBit r.reporter)
  let selfU := match r.names with
    | none => if r.reporter.toNat ≠ 0xFFFF then some r.reporter else none
    | some _ => none
  let votes := match r.names with
    | some u => tabPut a.votes u.toNat (tabGet 0 a.votes u.toNat + 1)
    | none => a.votes
  let at_ := (r.names.getD r.reporter).toNat
  let details := if tabHas a.details at_ then a.details else tabPut a.details at_ r.detail
  if a.isOpen then
    setAgg s d { a with reports := satInc a.reports, votes := votes, details := details, partners := a.partners ||| pBit,
                        self := if a.self.isSome then a.self else selfU }
  else
    setAgg s d { a with isOpen := true, first := some r, opened := now s, reports := 1, votes := votes, details := details,
                        partners := pBit, self := selfU,
                        timeInvalid := d != 4 && replicaOf s d != .sync }

/-- A self-report of a unit to an aggregator. -/
def selfReport (s : State) (d : Nat) (u : BitVec 16) (cause : Nat) (c : Option CtxId) (st : BitVec 16)
    (det : Word32) : State :=
  reportFault s d ⟨u, none, BitVec.ofNat 8 cause, c, st, det, false⟩

/-- A self-report with no item: STATUS 0. The manual does not say what its DETAIL holds: a free value (DESIGN CHOICE, log 111). -/
def openReport (s : State) (d : Nat) (u : BitVec 16) (cause : Nat) (c : Option CtxId) : State :=
  selfReport (drawFree s) d u cause c 0 (BitVec.ofNat 32 (freeValue s))

/-! ## Writes into seed slots -/

/-- Clock period of a tile in units of 1/108 ns at its die's level (Performance levels). -/
def periodUnits (level : Nat) : Nat :=
  if level = 0 then 72 else if level = 1 then 80 else if level = 2 then 90
  else if level = 3 then 108 else if level = 4 then 135 else 180

/-- Clock cycles that the instance held its tile, into its item's B and BUSY_NS (R71). -/
def holdClocks (s : State) (tl : TileId) (w : InstanceId) (clk : Nat) : State :=
  let u := periodUnits (kilnPower s (tileDie tl)).level.toNat
  modItem s w.item (fun x => { x with busy := x.busy + clk, busyNs := x.busyNs + clk * u })

/-- The open number of clock cycles that an instance holds its tile beyond its latest issue: a staging, a wait for one, a
drain, a re-entry (R71, R98, R104, R108). -/
def holdOpen (s : State) (tl : TileId) (w : InstanceId) : State := holdClocks (drawFree s) tl w (freeValue s)

/-- Records an uncorrectable shelf word in its owner's TI_SHELF_ECC, reports it and starts the shelf's
march (R91, R392). -/
def shelfReport (s : State) (pa : Nat) (c : Option CtxId) : State :=
  let phys := (pa - 0x4000_0000_0000) / 0x1_0000
  let tl := tileId (phys / 256)
  let s1 := modTile s tl (fun x => { x with lastUe := BitVec.ofNat 8 (phys % 256), ue := true })
  let u := unitId (tileDie tl).val 1 (tileLocal tl)
  let s2 := startTest s1 u (BitVec.ofNat 8 (phys % 256)) []
  selfReport s2 (tileDie tl).val u 0x07 c stMemoryUncorrectable (BitVec.ofNat 32 (phys % 256))

/-- The same for an access of a context. -/
def shelfBad (s : State) (pa : Nat) (c : CtxId) : State := shelfReport s pa (some c)

/-- DETAIL of ST_MEMORY_UNCORRECTABLE for a shelf (R91). -/
def shelfDetail (pa : Nat) : Word32 :=
  BitVec.ofNat 32 (7 + ((pa - 0x4000_0000_0000) / 0x100_0000 / 64) % 8 * 256)

/-- An uncorrectable shelf word that a write of `n` bytes covers only in part (R91). -/
def partialWord (s : State) (a n : Nat) : Option Nat :=
  s.tl.badWords.find? (fun w =>
    decide (w < a + n) && decide (a < w + 8) && !(decide (a ≤ w) && decide (w + 8 ≤ a + n)))

/-- Counts words with a single wrong bit that a read corrects, in their tiles' TI_SHELF_ECC (R91). -/
def countSoft (s : State) (l : List Nat) : State :=
  l.foldl (fun a w =>
    modTile a (tileId ((w - 0x4000_0000_0000) / 0x100_0000)) (fun x => { x with corrected := satInc x.corrected })) s

/-- Words with a single wrong bit that a write of `n` bytes at `a` covers only in part. -/
def softMerged (s : State) (a n : Nat) : List Nat :=
  s.tl.softWords.filter (fun w =>
    decide (w < a + n) && decide (a < w + 8) && !(decide (a ≤ w) && decide (w + 8 ≤ a + n)))

/-- Marks of the shelf words that a write of `n` bytes at `a` leaves (R91): a word replaced whole is good again, and so
is one with a single wrong bit, whose other bytes the write reads, counted, and merges corrected. -/
def wordsWritten (s : State) (a n : Nat) : State :=
  let t := countSoft s (softMerged s a n)
  { t with tl := { t.tl with
      badWords := s.tl.badWords.filter (fun w => decide (w < a) || decide (a + n < w + 8)),
      softWords := s.tl.softWords.filter (fun w => decide (w + 8 ≤ a) || decide (a + n ≤ w)) } }

/-- The uncorrectable word that a write of SLOT_STATE would cover in part (R91). -/
def slotStateBad (s : State) (c : CtxId) (second : Bool) (slot : Byte) : Option Nat :=
  (slotAddr s c second slot 12).bind (fun a => partialWord s a 1)

/-- The item has an error, a verdict or its end. -/
def itemEnding (s : State) (i : ItemId) : Bool :=
  ((findItem s i).map (fun x => x.stage == .done || x.stage == .rejected || x.error.isSome || x.verdict.isSome)).getD true

/-- The device's write into the seed slot of an instance, whose context is `c` (R93): discarded while the shelf is not
bound. One that covers an uncorrectable word only in part is discarded, too, and is an error of the instance's item
(R91) unless that has one. -/
def slotWrite (s : State) (w : InstanceId) (c : CtxId) (second : Bool) (slot : Byte) (off : Nat) (l : List Byte) : State :=
  match slotAddr s c second slot off with
  | none => s
  | some a =>
    match partialWord s a l.length with
    | some pa =>
      if itemEnding s w.item then s else markError (shelfBad s pa c) w.item stMemoryUncorrectable (shelfDetail pa)
    | none =>
      let s1 := wordsWritten s a l.length
      { s1 with mem := memWrites s1.mem a l }

/-! ## Leaving a tile (R100, R104, R106) -/

/-- Registers as R106 step 2 leaves them: zero. The counters stay. -/
def killRegs (x : Tile) : Tile :=
  { x with s := Vector.replicate 32 0, a := Vector.replicate 16 0,
           v := Vector.replicate 16 (Vector.replicate 32 0), p := Vector.replicate 8 0,
           vbad := [], tensor := tensorReset, dirty := [] }

/-- The tile's current command ends (R490), with its COUNTER records where `traced` (R494). -/
def endCommand (x : Tile) (traced : Bool) : Tile :=
  { x with dbg := { x.dbg with
      current := false, sampled := 0, waits := 0,
      due := if traced && x.dbg.current then x.dbg.due ++ counterDue x.dbg else x.dbg.due } }

/-- The open number of clock cycles of its yield interval between a tile's latest issue, or the latest sample since, and a
stop. -/
def stopClocks (x : Tile) : Nat :=
  if x.dbg.current then openCycles x % (30001 - min 30000 (x.count + x.dbg.sampled)) else 0

/-- A command ends with a stop, an open number of clock cycles of its yield interval after its latest issue. -/
def stopCommand (x : Tile) (dma traced : Bool) : Tile :=
  if x.dbg.current then endCommand (waitCycles x dma (stopClocks x)) traced else x

/-- COUNTER records of the command on a tile are due at its end. -/
def countersTraced (s : State) (tl : TileId) : Bool := tileTraced s tl 3 (tileOf s tl).ctx

/-- A yield point or an overrun ends the interval: TI_YIELD_MAX records it (R109), and the command ends. -/
def endInterval (x : Tile) (n : Nat) (traced : Bool) : Tile :=
  let x := endCommand x traced
  if x.yieldMax.toNat < n then
    { x with yieldMax := BitVec.ofNat 16 n, yieldMaxCtx := BitVec.ofNat 10 x.ctx.val }
  else x

/-- The outgoing slot write of R106 step 2, RESUME_PC and SLOT_STATE 3 or SLOT_STATE 0 alone; up to it the instance holds
its tile (R108). -/
def outgoingWrite (s : State) (tl : TileId) (x : Tile) (l : Leaving) : State :=
  match x.inst with
  | none => s
  | some w =>
    let s := holdOpen s tl w
    match l with
    | .suspend pc => slotWrite (slotWrite s w x.ctx w.second x.slot 0 (leBytes 8 pc.toNat)) w x.ctx w.second x.slot 12 [3]
    | .ended => slotWrite s w x.ctx w.second x.slot 12 [0]

/-- A tile that holds no context: its post, if any, stays. -/
def freeTile (x : Tile) : Tile :=
  { endCommand (killRegs x) false with
    state := .free, ctx := 0, slot := 0, inst := none, leaving := none, count := 0, fresh := false }

/-- The state a tile goes to when its instance leaves: waiting for or switching to its post, or free
when there is none or the post vacates (R104). The outgoing write and the register kill are made at once
when no instance comes in, else by the switch. -/
def leaveTile (s : State) (tl : TileId) (l : Leaving) : State :=
  let x := tileOf s tl
  let s := setTile s tl { x with dbg := { x.dbg with state := 0, stepping := false, passing := false } }
  match x.next with
  | some p =>
    match p.inst with
    | some _ => modTile s tl (fun y => { y with leaving := some l,
                                                state := if p.staged.isSome then .switching else .waiting })
    | none => modTile (outgoingWrite s tl x l) tl (fun y => { freeTile y with next := none })
  | none => modTile (outgoingWrite s tl x l) tl freeTile

/-- An instance leaves its tile at a stop (R100): every engine instruction not yet complete is discarded, with the
shelf writes that it holds, and the instance ends with no RESUME_PC. -/
def stopOnTile (s : State) (tl : TileId) : State :=
  match (tileOf s tl).inst with
  | none => s
  | some w =>
    if (tileOf s tl).leaving.isSome then
      modTile s tl (fun x => { x with leaving := some .ended })
    else
      let s1 := modTile (holdClocks s tl w (stopClocks (tileOf s tl))) tl (fun x => { stopCommand x (dmaFlies s tl) (countersTraced s tl) with
        tensor := { x.tensor with drain := none, shadow := none, fetches := [] } })
      let s2 := leaveTile s1 tl .ended
      modInst s2 w (fun y => { y with tile := none })

/-- A tile whose post is of an instance that no longer exists: the post goes, and a tile that waits to switch to
it finishes the outgoing side and becomes free. -/
def cancelPost (s : State) (tl : TileId) : State :=
  let x := tileOf s tl
  match x.leaving with
  | some l =>
    let s1 := modTile (outgoingWrite s tl x l) tl (fun y => { freeTile y with next := none })
    match x.inst with
    | some w => modInst s1 w (fun i => if i.tile = some tl then { i with tile := none } else i)
    | none => s1
  | none =>
    if x.inst.isSome then setTile s tl { x with next := none }
    else setTile s tl { x with next := none, state := if x.state = .waiting ∨ x.state = .switching then .free else x.state }

/-- Takes an instance out of every tile's post. -/
def dropPost (s : State) (w : InstanceId) : State :=
  ((s.tl.tiles.filter (fun e => (e.2.next.map (fun p => p.inst == some w)).getD false)).map (fun e => tileId e.1)).foldl
    cancelPost s

/-- Ends one instance for good: it leaves its tile, its slot returns to free, it is unlisted. -/
def stopInst (s : State) (w : Inst) : State :=
  let s1 := match w.tile with
    | some tl => stopOnTile s tl
    | none => dropPost (slotWrite s w.id (itemCtx s w.id.item) w.id.second w.slot 12 [0]) w.id
  delInst s1 w.id

/-- Ends every instance in a list. -/
def stopInsts (s : State) (l : List Inst) : State := l.foldl stopInst s

/-! ## Program faults and hardware errors -/

/-- GH_FAULT_CTX latches the fault when it holds none (R59). -/
def latchFaultCtx (s : State) (c : CtxId) (st : BitVec 16) (tile : Option TileId) : State :=
  if s.gh.faultCtx.valid then s
  else
    { s with gh := { s.gh with faultCtx :=
        { ctx := BitVec.ofNat 10 c.val, status := st,
          tile := match tile with
            | some t => BitVec.ofNat 8 t.val
            | none => 0,
          tileValid := tile.isSome, valid := true } } }

/-- The golden run of an item ends in a fault: ST_GOLDEN_MISMATCH, its context stays READY, its tile is
tested (R384). -/
def goldenFail (s : State) (w : Inst) : State :=
  let x := findItem s w.id.item
  let frame := match x with
    | some x => x.frame
    | none => 0
  let c := itemCtx s w.id.item
  let s1 := modCtx (stopInst s w) c (fun x => { x with lastDeferred := false })
  let s2 := match w.tile.or w.ranOn with
    | some tl => startTest s1 (tileUnit tl) 0 []
    | none => s1
  let s3 := { s2 with bv := { s2.bv with goldMismatch := satInc s2.bv.goldMismatch, goldValid := true,
                                         goldCtx := BitVec.ofNat 10 c.val } }
  let s4 := modItem s3 w.id.item (fun x =>
    { x with golden := .deferred, stage := .done, verdict := some (stGoldenMismatch, frame) })
  let s5 := match x with
    | some x => journalWrite s4 x.id 72 (recordBytes (queueOf s4 x.id.queue) x stGoldenMismatch frame (now s4))
    | none => s4
  selfReport s5 4 (unitId 4 13 0) 0x05 (some c) stGoldenMismatch frame

/-- The verdict of R532 for an item of a context that becomes FAULTED. R532 does not say whether an accepted
CONTEXT-DESTROY counts among the items that it ends: here it ends the RUN and COPY items only, and the CONTEXT-DESTROY
goes on to tear the context down (DESIGN CHOICE, log 125). -/
def faultVerdict (s : State) (c : CtxId) (offender : Option ItemId) (st : BitVec 16) (det : Word32)
    (first : BitVec 16) (x : Item) : State :=
  if !itemWorks x c || x.stage == .done || x.stage == .rejected then s
  else if offender = some x.id then endItem s x.id st det
  else endItem s x.id stContextFaulted (first.setWidth 32)

/-- A context becomes FAULTED with the status of its first fault; its items follow R532. An instance of
it that holds a tile stops at its next yield point; one that holds none stops at once. -/
def faultContext (s : State) (c : CtxId) (st : BitVec 16) (det : Word32) (tile : Option TileId)
    (offender : Option ItemId) : State :=
  let x := ctxOf s c
  let s1 := latchFaultCtx s c st tile
  let first := if x.state = .faulted then x.firstFault else st
  let s2 := if x.state = .ready then setCtx s1 c { x with state := .faulted, firstFault := st } else s1
  let idle := s2.gh.insts.filter (fun w => itemCtx s2 w.id.item == c && w.tile.isNone)
  let s3 := stopInsts s2 idle
  s3.gh.items.foldl (fun a y => faultVerdict a c offender st det first y) s3

/-- A fault caused by the program of the instance on a tile (R59): the instance stops as R100 says, its
item completes with the status, the context becomes FAULTED. A golden instance ends under R384. -/
def programFault (s : State) (tl : TileId) (st : BitVec 16) (det : Word32) : State :=
  match (tileOf s tl).inst with
  | none => s
  | some w =>
    match findInst s w with
    | none => stopOnTile s tl
    | some i =>
      if i.golden then goldenFail s i
      else
        let c := (tileOf s tl).ctx
        faultContext (stopInst s i) c st det (some tl) (some w.item)

/-- An item's instances stop and its held effects go. -/
def stopItem (s : State) (i : ItemId) : State :=
  let s1 := stopInsts s ((itemInsts s i).filter (fun w => !w.golden))
  { s1 with bv := { s1.bv with
    held := s1.bv.held.filter (fun h => h.inst.item != i),
    points := s1.bv.points.filter (fun p => p.inst.item != i) } }

/-- A hardware-detected error of an item (R58, R41): its instances stop, its held effects go, and it completes or waits
for its replay. -/
def hardwareError (s : State) (i : ItemId) (st : BitVec 16) (det : Word32) : State :=
  match findItem s i with
  | none => s
  | some x =>
    if x.stage = .done ∨ x.stage = .rejected then s else settle (stopItem (markError s i st det) i) i

/-- A hardware error of the instance on a tile. -/
def tileError (s : State) (tl : TileId) (st : BitVec 16) (det : Word32) : State :=
  match (tileOf s tl).inst with
  | none => s
  | some w =>
    match findInst s w with
    | none => stopOnTile s tl
    | some i => if i.golden then goldenFail s i else hardwareError (avoidTile s w.item tl) w.item st det

/-- A slot write of the instance on a tile would cover an uncorrectable word in part: an error of the instance (R91). -/
def slotError (s : State) (tl : TileId) (w : InstanceId) (c : CtxId) (pa : Nat) : State :=
  let s1 := shelfBad s pa c
  match findInst s1 w with
  | some i =>
    if i.golden then goldenFail s1 i
    else hardwareError (avoidTile s1 w.item tl) w.item stMemoryUncorrectable (shelfDetail pa)
  | none => hardwareError (avoidTile s1 w.item tl) w.item stMemoryUncorrectable (shelfDetail pa)

/-- The yield watchdog expires at the end of the 30,000th clock cycle (R99, R100): the instance held its tile up to
then (R71), the count stops at the limit, TI_YIELD_MAX records the overrun and the instance stops. -/
def watchdogExpire (s : State) (tl : TileId) : State :=
  match (tileOf s tl).inst with
  | none => s
  | some w =>
    let n := 30000 - (tileOf s tl).count - (tileOf s tl).dbg.sampled
    let s1 := holdClocks s tl w n
    let s2 := modTile s1 tl (fun x =>
      endInterval { waitCycles x (dmaFlies s tl) n with count := 30000 } 30000 (countersTraced s tl))
    programFault s2 tl stYieldOverrun (BitVec.ofNat 32 tl.val)

/-- A tile's check fails (R144): TI_CHECK_FAIL and TI_CHECK_WHERE are given, the item ends for replay,
the tile reports and is held for its targeted test. -/
def checkFail (s : State) (tl : TileId) (checks : Checks) (st : BitVec 16) : State :=
  let c := (tileOf s tl).ctx
  let s1 := modTile s tl (fun x =>
    { x with checks := { checks with lastCtx := BitVec.ofNat 10 c.val }, tensor := { x.tensor with drain := none } })
  let s2 := tileError s1 tl st (BitVec.ofNat 32 tl.val)
  let s3 := startTest s2 (tileUnit tl) 0 []
  selfReport s3 (tileDie tl).val (tileUnit tl) (if st = stChecksumMismatch then 1 else 2) (some c) st
    (BitVec.ofNat 32 tl.val)

end Sys2Proof.Machine
end

