-- ==== Sys2Proof/Machine/Float.lean ====
section
/-! DEFINITION. Number formats and conversions (R110 to R128): exact values, rounding (R123), the scalar
floating operations of R166, narrowing under R125, MX blocks (R118 to R121, R127). -/

namespace Sys2Proof.Machine

/-! ## Formats -/

/-- How a format uses its all-ones exponent (R114): as IEEE does, for one NaN code only (E4M3), or for
numbers alone. -/
inductive Specials where
  | ieee | nanOnly | none
  deriving DecidableEq, Repr

/-- A floating-point format of R114. -/
structure FloatFmt where
  exp  : Nat
  man  : Nat
  bias : Nat
  kind : Specials
  deriving DecidableEq, Repr

def fmtE4M3 : FloatFmt := ⟨4, 3, 7, .nanOnly⟩
def fmtE5M2 : FloatFmt := ⟨5, 2, 15, .ieee⟩
def fmtE3M2 : FloatFmt := ⟨3, 2, 3, .none⟩
def fmtE2M3 : FloatFmt := ⟨2, 3, 1, .none⟩
def fmtE2M1 : FloatFmt := ⟨2, 1, 1, .none⟩
def fmtBF16 : FloatFmt := ⟨8, 7, 127, .ieee⟩
def fmtFP16 : FloatFmt := ⟨5, 10, 15, .ieee⟩
def fmtFP32 : FloatFmt := ⟨8, 23, 127, .ieee⟩
def fmtFP64 : FloatFmt := ⟨11, 52, 1023, .ieee⟩

/-- Bits of a format's code. -/
def FloatFmt.width (f : FloatFmt) : Nat := 1 + f.exp + f.man

/-- The largest code of a finite magnitude (R114). -/
def FloatFmt.maxCode (f : FloatFmt) : Nat :=
  match f.kind with
  | .ieee => (2 ^ f.exp - 1) * 2 ^ f.man - 1
  | .nanOnly => 2 ^ (f.exp + f.man) - 2
  | .none => 2 ^ (f.exp + f.man) - 1

/-- The canonical NaN (R116); zero where the format has none. -/
def FloatFmt.nan (f : FloatFmt) : Nat :=
  match f.kind with
  | .ieee => (2 ^ f.exp - 1) * 2 ^ f.man + 2 ^ (f.man - 1)
  | .nanOnly => 2 ^ (f.exp + f.man) - 1
  | .none => 0

/-- The code of +infinity of an IEEE format. -/
def FloatFmt.inf (f : FloatFmt) : Nat := (2 ^ f.exp - 1) * 2 ^ f.man

/-- An exact value: NaN, an infinity, or (−1)^neg × m × 2^e. -/
inductive Real where
  | nan
  | inf (neg : Bool)
  | fin (neg : Bool) (m : Nat) (e : Int)
  deriving DecidableEq, Repr

/-- The value of a code (R114, R115). -/
def fdecode (f : FloatFmt) (code : Nat) : Real :=
  let neg := bit code (f.exp + f.man)
  let mag := code % 2 ^ (f.exp + f.man)
  let ex := mag / 2 ^ f.man
  let m := mag % 2 ^ f.man
  if f.maxCode < mag then
    if f.kind = .ieee ∧ m = 0 then .inf neg else .nan
  else if ex = 0 then .fin neg m (1 - (f.bias : Int) - f.man)
  else .fin neg (2 ^ f.man + m) ((ex : Int) - f.bias - f.man)

/-- A sign bit in its place. -/
def FloatFmt.sign (f : FloatFmt) (neg : Bool) : Nat := if neg then 2 ^ (f.exp + f.man) else 0

/-- m × 2^e rounded to a whole number of units of 2^q: to nearest even, or toward zero (R123). -/
def roundTo (rtz : Bool) (m : Nat) (e q : Int) : Nat :=
  if q ≤ e then m * 2 ^ (e - q).toNat
  else
    let d := (q - e).toNat
    let n := m / 2 ^ d
    let r := m % 2 ^ d
    let half := 2 ^ (d - 1)
    if rtz then n
    else if half < r ∨ (r = half ∧ n % 2 = 1) then n + 1
    else n

/-- The magnitude code of a finite value rounded as if the exponent range had no upper end; a code above
`maxCode` is beyond range. -/
def roundMag (f : FloatFmt) (rtz : Bool) (m : Nat) (e : Int) : Nat :=
  if m = 0 then 0
  else
    let top : Int := (m.log2 : Int) + e
    let q := max top (1 - (f.bias : Int)) - f.man
    let n := roundTo rtz m e q
    if n < 2 ^ f.man then n
    else if n < 2 ^ (f.man + 1) then ((q + f.man + f.bias) * 2 ^ f.man).toNat + (n - 2 ^ f.man)
    else ((q + 1 + f.man + f.bias) * 2 ^ f.man).toNat

/-- The result of an operation of a floating-point unit: IEEE 754-2019 rounding and overflow (R123,
R203), the canonical NaN (R116). -/
def fround (f : FloatFmt) (rtz : Bool) : Real → Nat
  | .nan => f.nan
  | .inf neg => f.sign neg + f.inf
  | .fin neg m e =>
    let c := roundMag f rtz m e
    if c ≤ f.maxCode then f.sign neg + c
    else if rtz then f.sign neg + f.maxCode
    else f.sign neg + f.inf

/-- A conversion into a floating format under R125, with whether R128 counts it. -/
def fconvert (f : FloatFmt) (rtz nonSat : Bool) : Real → Nat × Bool
  | .nan => (f.nan, false)
  | .inf neg =>
    if nonSat then
      match f.kind with
      | .ieee => (f.sign neg + f.inf, false)
      | .nanOnly => (f.nan, false)
      | .none => (f.sign neg + f.maxCode, true)
    else (f.sign neg + f.maxCode, true)
  | .fin neg m e =>
    let c := roundMag f rtz m e
    if c ≤ f.maxCode then (f.sign neg + c, false)
    else if nonSat then
      match f.kind with
      | .ieee => (f.sign neg + f.inf, false)
      | .nanOnly => (f.nan, false)
      | .none => (f.sign neg + f.maxCode, true)
    else (f.sign neg + f.maxCode, true)

/-- A value rounded to a whole number (R123). -/
def roundInt (rtz neg : Bool) (m : Nat) (e : Int) : Int :=
  let n : Int := roundTo rtz m e 0
  if neg then -n else n

/-- A conversion into an integer range under R125, with whether R128 counts it. -/
def iconvert (lo hi : Int) (rtz : Bool) : Real → Int × Bool
  | .nan => (0, true)
  | .inf neg => (if neg then lo else hi, true)
  | .fin neg m e =>
    let v := roundInt rtz neg m e
    if v < lo then (lo, true) else if hi < v then (hi, true) else (v, false)

/-! ## Exact operations -/

def Real.negate : Real → Real
  | .nan => .nan
  | .inf n => .inf (!n)
  | .fin n m e => .fin (!n) m e

/-- The signed significand in units of 2^q, for q at most its exponent. -/
def scaled (neg : Bool) (m : Nat) (e q : Int) : Int :=
  let v : Int := (m * 2 ^ (e - q).toNat : Nat)
  if neg then -v else v

/-- Exact sum; an exact zero of unlike signs is +0 (IEEE 754-2019, both modes of R123). -/
def Real.add : Real → Real → Real
  | .nan, _ => .nan
  | _, .nan => .nan
  | .inf a, .inf b => if a = b then .inf a else .nan
  | .inf a, .fin _ _ _ => .inf a
  | .fin _ _ _, .inf b => .inf b
  | .fin a m e, .fin b n g =>
    if m = 0 ∧ n = 0 then .fin (a && b) 0 0
    else
      let q := min e g
      let v := scaled a m e q + scaled b n g q
      .fin (decide (v < 0)) v.natAbs q

/-- Exact product. -/
def Real.mul : Real → Real → Real
  | .nan, _ => .nan
  | _, .nan => .nan
  | .inf a, .inf b => .inf (a != b)
  | .inf a, .fin b n _ => if n = 0 then .nan else .inf (a != b)
  | .fin a m _, .inf b => if m = 0 then .nan else .inf (a != b)
  | .fin a m e, .fin b n g => .fin (a != b) (m * n) (e + g)

/-- Quotient to 130 bits with a sticky bit below them: rounding it rounds the exact quotient. -/
def Real.div : Real → Real → Real
  | .nan, _ => .nan
  | _, .nan => .nan
  | .inf _, .inf _ => .nan
  | .inf a, .fin b _ _ => .inf (a != b)
  | .fin a _ _, .inf b => .fin (a != b) 0 0
  | .fin a m e, .fin b n g =>
    if n = 0 then (if m = 0 then .nan else .inf (a != b))
    else
      let x := m * 2 ^ 130
      .fin (a != b) (2 * (x / n) + (if x % n = 0 then 0 else 1)) (e - g - 131)

/-- Integer square root by setting the bits of the root from bit k − 1 down. -/
def sqrtBits (n : Nat) : Nat → Nat → Nat
  | 0, r => r
  | k + 1, r => if (r + 2 ^ k) * (r + 2 ^ k) ≤ n then sqrtBits n k (r + 2 ^ k) else sqrtBits n k r

/-- Square root to at least 60 bits with a sticky bit below them. -/
def Real.sqrt : Real → Real
  | .nan => .nan
  | .inf neg => if neg then .nan else .inf false
  | .fin neg m e =>
    if m = 0 then .fin neg 0 0
    else if neg then .nan
    else
      let (m1, e1) := if e % 2 = 0 then (m, e) else (2 * m, e - 1)
      let x := m1 * 2 ^ 140
      let r := sqrtBits x 100 0
      .fin false (2 * r + (if r * r = x then 0 else 1)) (e1 / 2 - 71)

/-- Sign of a − b for numbers that are not NaN, −0 equal to +0. -/
def Real.cmp : Real → Real → Int
  | .inf a, .inf b => (if a then -1 else 1) - (if b then -1 else 1)
  | .inf a, .fin _ _ _ => if a then -1 else 1
  | .fin _ _ _, .inf b => if b then 1 else -1
  | .fin a m e, .fin b n g =>
    let q := min e g
    (scaled a m e q - scaled b n g q).sign
  | .nan, _ => 0
  | _, .nan => 0

def Real.isNan : Real → Bool
  | .nan => true
  | _ => false

/-- The value is negative or −0. -/
def Real.isNeg : Real → Bool
  | .nan => false
  | .inf n => n
  | .fin n _ _ => n

def Real.isZero : Real → Bool
  | .fin _ m _ => m == 0
  | _ => false

/-- NaN or an infinity. -/
def Real.special : Real → Bool
  | .fin _ _ _ => false
  | _ => true

/-- `fmin` and `fmax` of R166 on codes: a NaN operand yields the other, −0 is below +0. -/
def fminmax (f : FloatFmt) (isMax : Bool) (x y : Nat) : Nat :=
  let a := fdecode f x
  let b := fdecode f y
  if a.isNan then (if b.isNan then f.nan else y)
  else if b.isNan then x
  else
    let c := Real.cmp a b
    let less := decide (c < 0) || (c == 0 && a.isNeg && !b.isNeg)
    if less then (if isMax then y else x) else (if isMax then x else y)

/-- Negation and absolute value of a code: a NaN gives the canonical NaN (R203). -/
def fneg (f : FloatFmt) (absolute : Bool) (x : Nat) : Nat :=
  let a := fdecode f x
  if a.isNan then f.nan
  else
    let mag := x % 2 ^ (f.exp + f.man)
    f.sign (!absolute && !a.isNeg) + mag

/-! ## Format codes (R110) -/

/-- Bits of an element of a format code. -/
def fmtBits (c : Nat) : Nat :=
  if c = 1 ∨ c = 8 ∨ c = 10 then 4
  else if c = 6 ∨ c = 7 then 6
  else if c = 11 ∨ c = 12 then 16
  else if c = 13 ∨ c = 14 then 32
  else 8

/-- The code is one of the Microscaling formats 0x4 to 0xA. -/
def isMx (c : Nat) : Bool := decide (4 ≤ c) && decide (c ≤ 10)

/-- The code is INT8 or INT4. -/
def isInt (c : Nat) : Bool := c == 0 || c == 1

/-- The floating element format of a code; MXINT8 and MXINT4 have integer elements. -/
def elemFmt (c : Nat) : Option FloatFmt :=
  if c = 2 ∨ c = 4 then some fmtE4M3
  else if c = 3 ∨ c = 5 then some fmtE5M2
  else if c = 6 then some fmtE3M2
  else if c = 7 then some fmtE2M3
  else if c = 8 then some fmtE2M1
  else if c = 11 then some fmtBF16
  else if c = 12 then some fmtFP16
  else if c = 13 then some fmtFP32
  else none

/-- The value of an element code of a format, its block scale apart (R112, R114, R119). -/
def elemValue (c code : Nat) : Real :=
  match elemFmt c with
  | some f => fdecode f code
  | none =>
    let w := fmtBits c
    let v := signedOf w code
    .fin (decide (v < 0)) v.natAbs (if c = 9 then -6 else if c = 10 then -2 else 0)

/-- Element `i` of a packed plane (R113, R120). -/
def elemAt (c : Nat) (plane : List Byte) (i : Nat) : Nat :=
  let w := fmtBits c
  if w = 4 then
    let b := (plane.getD (i / 2) 0).toNat
    if i % 2 = 0 then b % 16 else b / 16
  else if w = 6 then
    let blk := i / 32
    bits (leNat (slice plane (blk * 24) 24)) (6 * (i % 32) + 5) (6 * (i % 32))
  else field plane (i * (w / 8)) (w / 8)

/-- The value of an element under a scale byte (R118, R119); 0xFF makes it NaN. -/
def scaleValue (scale : Byte) (v : Real) : Real :=
  if scale = 0xFF then .nan
  else
    match v with
    | .fin n m e => .fin n m (e + (scale.toNat : Int) - 127)
    | x => x

/-- Exponent of the largest element of an MX format (R119). -/
def mxEmax (c : Nat) : Int :=
  if c = 4 then 8 else if c = 5 then 15 else if c = 6 then 4 else if c = 7 then 2 else if c = 8 then 2 else 0

/-- Largest code of a symmetric integer element. -/
def intMax (c : Nat) : Int := if c = 0 ∨ c = 9 then 127 else 7

/-- A value as an element code of a format that is no MX block, with its count (R125). -/
def elemConvert (c : Nat) (rtz nonSat : Bool) (v : Real) : Nat × Bool :=
  match elemFmt c with
  | some f => fconvert f rtz nonSat v
  | none =>
    let (x, n) := iconvert (-intMax c) (intMax c) rtz v
    (wrapInt (fmtBits c) x, n)

/-- floor(log₂) of a nonzero finite magnitude. -/
def floorLog2 (m : Nat) (e : Int) : Int := (m.log2 : Int) + e

/-- Packs element codes (R113, R120). -/
def packElems (c : Nat) (codes : List Nat) : List Byte :=
  let w := fmtBits c
  let v := codes.foldr (fun x a => x + a * 2 ^ w) 0
  leBytes (codes.length * w / 8) v

/-- One MX block from 32 values (R127): its scale byte, element codes, and how many R128 counts. Step 4 converts under
R125 with the instruction's rounding and saturation bits. The elements of an all-zero block, whose X step 2 does not give, are
code 0 here, that of a −0, too (DESIGN CHOICE, log 160). -/
def mxBlock (c : Nat) (rtz nonSat : Bool) (vs : List Real) : Byte × List Nat × Nat :=
  if vs.any Real.isNan then (0xFF, vs.map (fun _ => 0), 0)
  else if vs.all Real.isZero then (0x00, vs.map (fun _ => 0), 0)
  else
    let anyInf := vs.any Real.special
    let top : Option Int := vs.foldl (fun a v =>
      match v with
      | .fin _ m e => if m = 0 then a else
          match a with
          | none => some (floorLog2 m e)
          | some x => some (max x (floorLog2 m e))
      | _ => a) none
    let x : Int := if anyInf then 127 else max (-127) (min 127 ((top.getD 0) - mxEmax c))
    let conv (v : Real) : Nat × Bool :=
      let u := match v with
        | .fin n m e => Real.fin n m (e - x)
        | y => y
      match elemFmt c with
      | some f => fconvert f rtz nonSat u
      | none =>
        -- the element code of MXINT8 counts 2⁻⁶, of MXINT4 2⁻²
        let u2 := match u with
          | .fin n m e => Real.fin n m (e + (if c = 9 then 6 else 2))
          | y => y
        let (r, k) := iconvert (-intMax c) (intMax c) rtz u2
        (wrapInt (fmtBits c) r, k)
    let rs := vs.map conv
    (BitVec.ofNat 8 (x + 127).toNat, rs.map (fun r => r.1), (rs.filter (fun r => r.2)).length)

/-- An INT32 accumulator narrowed to INT8 or INT4 (R126): × M, shifted right by SHIFT with rounding,
saturated. -/
def requantise (c : Nat) (rtz : Bool) (acc mul : Int) (shift : Nat) : Nat × Bool :=
  let p := acc * mul
  let n : Int := roundTo rtz p.natAbs 0 shift
  let v := if p < 0 then -n else n
  let hi := intMax c
  if v < -hi then (wrapInt (fmtBits c) (-hi), true)
  else if hi < v then (wrapInt (fmtBits c) hi, true)
  else (wrapInt (fmtBits c) v, false)

/-! ## Sequencer floating point (R166) -/

/-- A signed integer as a value. -/
def realOfInt (v : Int) : Real := .fin (decide (v < 0)) v.natAbs 0

/-- `fop` FUNC[3:0] `k` in a format, on raw operands; RTZ and non-saturating as RND and SATN say. -/
def fopResult (k : Nat) (fp32 rtz nonSat : Bool) (x y z : Word64) : Word64 :=
  let f := if fp32 then fmtFP32 else fmtFP64
  let cut (w : Word64) : Nat := if fp32 then w.toNat % 2 ^ 32 else w.toNat
  let a := fdecode f (cut x)
  let b := fdecode f (cut y)
  let c := fdecode f (cut z)
  let out (n : Nat) : Word64 := BitVec.ofNat 64 n
  let flag (t : Bool) : Word64 := if t then 1 else 0
  if k = 0 then out (fround f rtz (a.add b))
  else if k = 1 then out (fround f rtz (a.add b.negate))
  else if k = 2 then out (fround f rtz (a.mul b))
  else if k = 3 then out (fround f rtz (a.div b))
  else if k = 4 then out (fround f rtz a.sqrt)
  else if k = 5 then out (fround f rtz ((a.mul b).add c))
  else if k = 6 then out (fminmax f false (cut x) (cut y))
  else if k = 7 then out (fminmax f true (cut x) (cut y))
  else if k = 8 then out (wrapInt 64 (iconvert (-(2 ^ 63)) (2 ^ 63 - 1) rtz a).1)
  else if k = 9 then out (fround f rtz (realOfInt x.toInt))
  else if k = 10 then out (fconvert fmtFP32 rtz nonSat (fdecode fmtFP64 x.toNat)).1
  else if k = 11 then out (fround fmtFP64 rtz (fdecode fmtFP32 (x.toNat % 2 ^ 32)))
  else if k = 12 then flag (!a.isNan && !b.isNan && a.cmp b == 0)
  else if k = 13 then flag (!a.isNan && !b.isNan && decide (a.cmp b < 0))
  else flag (!a.isNan && !b.isNan && decide (a.cmp b ≤ 0))

/-- Whether `fop` FUNC[3:0] `k` counts a saturation under R128. -/
def fopCounts (k : Nat) (fp32 rtz nonSat : Bool) (x : Word64) : Bool :=
  let a := if fp32 then fdecode fmtFP32 (x.toNat % 2 ^ 32) else fdecode fmtFP64 x.toNat
  if k = 8 then (iconvert (-(2 ^ 63)) (2 ^ 63 - 1) rtz a).2
  else if k = 10 then (fconvert fmtFP32 rtz nonSat (fdecode fmtFP64 x.toNat)).2
  else false

end Sys2Proof.Machine
end

