-- ==== Sys2Proof/Machine/Operands.lean ====
section
/-! DEFINITION. Tile instruction words: fields and legality (R148 to R153), the site at which an
instruction issues, shelf accesses of an instance (R84, R91, R95), bus signatures (R375), registers,
and the issue of one instruction (R99, R154, R155, R482). -/

namespace Sys2Proof.Machine

/-! ## Fields of the formats (R152) -/

def fOp (w : Nat) : Nat := bits w 7 0
def fPR (w : Nat) : Nat := bits w 10 8
def fPE (w : Nat) : Bool := bit w 11
def fPN (w : Nat) : Bool := bit w 12
def fRD (w : Nat) : Nat := bits w 17 13
def fRS1 (w : Nat) : Nat := bits w 22 18
def fRS2 (w : Nat) : Nat := bits w 27 23
def fRS3 (w : Nat) : Nat := bits w 32 28
def fFMT (w : Nat) : Nat := bits w 36 33
def fRND (w : Nat) : Bool := bit w 37
def fSATN (w : Nat) : Bool := bit w 38
def fFUNC (w : Nat) : Nat := bits w 47 39
def fIMM (w : Nat) : Nat := bits w 63 32
def fCOND (w : Nat) : Nat := bits w 30 28
def fIMM44 (w : Nat) : Nat := bits w 63 20
def fAB (w : Nat) : Nat := bits w 21 18
def fRI (w : Nat) : Nat := bits w 26 22
def fIX (w : Nat) : Bool := bit w 27
def fSCALE (w : Nat) : Nat := bits w 29 28
def fSIZE (w : Nat) : Nat := bits w 31 30

/-! ## Legality (R149, R153) -/

/-- The register file that a 5-bit register field names, or `no` when the field is unused. -/
inductive RegKind where
  | no | s | a | v | p | t
  deriving DecidableEq, Repr

/-- A register field holds no reserved bit (R149). -/
def regOk (k : RegKind) (f : Nat) : Bool :=
  match k with
  | .no => f == 0
  | .s => true
  | .a => decide (f < 16)
  | .v => decide (f < 16)
  | .p => decide (f < 8)
  | .t => decide (f < 4)

/-- What a format A instruction uses: its register fields, format codes, RND, SATN and the bits of FUNC. -/
structure ShapeA where
  rd : RegKind := .no
  rs1 : RegKind := .no
  rs2 : RegKind := .no
  rs3 : RegKind := .no
  fmts : List Nat := []
  rnd : Bool := false
  satn : Bool := false
  func : Nat := 0

/-- A format A word that uses no more than the shape. -/
def okA (w : Nat) (h : ShapeA) : Bool :=
  regOk h.rd (fRD w) && regOk h.rs1 (fRS1 w) && regOk h.rs2 (fRS2 w) && regOk h.rs3 (fRS3 w) &&
    (if h.fmts.isEmpty then fFMT w == 0 else h.fmts.contains (fFMT w)) &&
    (h.rnd || !fRND w) && (h.satn || !fSATN w) && (fFUNC w &&& h.func == fFUNC w) && bits w 63 48 == 0

/-- A format B word that uses no more than these fields; `imm` has a 1 for each used bit of IMM32. -/
def okB (w : Nat) (rd rs1 : RegKind) (imm : Nat) : Bool :=
  regOk rd (fRD w) && regOk rs1 (fRS1 w) && bits w 31 23 == 0 && (fIMM w &&& imm == fIMM w)

/-- A format M word: RT of a kind, SIZE among those allowed, RI and SCALE zero without IX. -/
def okM (w : Nat) (rt : RegKind) (sizes : List Nat) : Bool :=
  regOk rt (fRD w) && sizes.contains (fSIZE w) && (fIX w || (fRI w == 0 && fSCALE w == 0))

/-- A format C word. -/
def okC (w : Nat) : Bool := !bit w 31 && bits w 34 32 == 0

/-- Codes of the floating lanes. -/
def floatLane (c : Nat) : Bool := c == 11 || c == 12 || c == 13

/-- Legality of `plog` (R165). -/
def okPlog (w : Nat) : Bool :=
  let k := fFUNC w
  if k ≤ 2 then okA w { rd := .p, rs1 := .p, rs2 := .p, func := 7 }
  else if k = 3 then okA w { rd := .p, rs1 := .p, func := 7 }
  else if k = 4 then okA w { rd := .p, rs1 := .s, func := 7 }
  else if k = 5 then okA w { rd := .s, rs1 := .p, func := 7 }
  else false

/-- Legality of `fop` (R166). -/
def okFop (w : Nat) : Bool :=
  let k := fFUNC w % 16
  let two := k ≤ 3 ∨ k = 6 ∨ k = 7 ∨ k = 12 ∨ k = 13 ∨ k = 14
  decide (k ≠ 15) && (!(k == 10 || k == 11) || !bit (fFUNC w) 4) &&
    okA w { rd := .s, rs1 := .s, rs2 := if two ∨ k = 5 then .s else .no, rs3 := if k = 5 then .s else .no,
            rnd := decide (k ≤ 11) && k != 6 && k != 7, satn := k == 8 || k == 10, func := 31 }

/-- The allowed source and target pairs of `vcvt` (R207). -/
def okVcvt (w : Nat) : Bool :=
  let t := fFMT w
  let src := fFUNC w % 16
  let pack := src == 13 && (t == 11 || t == 12)
  let widen := (src == 11 || src == 12) && t == 13
  let same := (src == 13 && t == 14) || (src == 14 && t == 13)
  (pack || widen || same) &&
    okA w { rd := .v, rs1 := .v, rs2 := if pack then .v else .no, fmts := [11, 12, 13, 14], rnd := true,
            satn := true, func := 256 + (if widen then 31 else 15) }

/-- Legality of a vector class word by opcode (R200 to R209). -/
def okVector (w : Nat) : Bool :=
  let op := fOp w
  let fl := floatLane (fFMT w)
  let all := [11, 12, 13, 14]
  let mx := isMx (fFMT w)
  let to12 := List.range 13
  if op = 0xC0 ∨ op = 0xC1 ∨ op = 0xC2 then
    okA w { rd := .v, rs1 := .v, rs2 := .v, fmts := all, rnd := fl, func := 256 }
  else if op = 0xC3 then okA w { rd := .v, rs1 := .v, rs2 := .v, rs3 := .v, fmts := all, rnd := fl, func := 256 }
  else if op = 0xC4 ∨ op = 0xC5 then okA w { rd := .v, rs1 := .v, rs2 := .v, fmts := all, func := 256 }
  else if op = 0xC6 then okA w { rd := .v, rs1 := .v, fmts := all, func := 257 }
  else if op = 0xC7 then okVcvt w
  else if op = 0xC8 then
    decide (fFUNC w % 8 ≤ 5) && okA w { rd := .p, rs1 := .v, rs2 := .v, fmts := [13, 14], func := 263 }
  else if op = 0xC9 then okA w { rd := .v, rs1 := .v, rs2 := .v, rs3 := .p, func := 256 }
  else if op = 0xCA then
    okA w { rd := .v, rs1 := .v, rs2 := if fFUNC w % 4 = 3 then .no else .v, func := 259 }
  else if op = 0xCB then
    decide (fFUNC w % 4 ≤ 2) && okA w { rd := .v, rs1 := .v, rs2 := .v, fmts := [14], func := 259 }
  else if op = 0xCC then okA w { rd := .v, rs1 := .s, fmts := all, func := 256 }
  else if op = 0xCD then
    decide (fFUNC w % 4 ≤ 2) &&
      okA w { rd := .s, rs1 := .v, fmts := [13, 14], rnd := fl && fFUNC w % 4 == 0, func := 259 }
  else if op = 0xCE then decide (fFUNC w % 8 ≤ 5) && okA w { rd := .v, rs1 := .v, fmts := [13], func := 263 }
  else if op = 0xCF then okA w { rd := .v, rs1 := .v, rs2 := .v, func := 256 }
  else if op = 0xD0 then okA w { rd := .v, rs1 := .a, rs2 := .v, func := 256 }
  else if op = 0xD1 then okA w { rs1 := .a, rs2 := .v, rs3 := .v, func := 256 }
  else if op = 0xD2 then okA w { rd := .v, rs1 := .a, rs2 := if mx then .a else .no, fmts := to12, func := 256 }
  else if op = 0xD3 then
    okA w { rs1 := .a, rs2 := .v, rs3 := if mx then .a else .no, fmts := to12, rnd := true, satn := true, func := 256 }
  else if op = 0xD4 then okA w { rd := .s, rs1 := .v, rs2 := .s, func := 256 }
  else if op = 0xD5 then okA w { rd := .v, rs1 := .s, rs2 := .s, func := 256 }
  else if op = 0xD6 then okA w { rd := .v, func := 256 }
  else false

/-- Legality of a tensor or sequence class word (R188 to R213). -/
def okTensor (w : Nat) : Bool :=
  let op := fOp w
  let mx := isMx (fFMT w)
  let to12 := List.range 13
  if op = 0x80 then okA w { rs1 := .a, rs2 := if mx then .a else .no, fmts := to12 }
  else if op = 0x81 then okA w { rs2 := if mx then .a else .no, fmts := to12 }
  else if op = 0x82 then okA w { rd := .t, rs1 := .a, rs2 := .s, rs3 := if mx then .a else .no, fmts := to12 }
  else if op = 0x83 then okA w { rs1 := .t }
  else if op = 0x84 then
    okA w { rd := .a, rs1 := .t, rs2 := .s, rs3 := if mx then .a else .no, fmts := List.range 15, rnd := true,
            satn := true, func := 3 }
  else if op = 0x85 then okA w { rs1 := .t }
  else if op = 0x86 then okA w { rd := .v, rs1 := .t, rs2 := .s, func := 1 }
  else if op = 0xF0 then okA w { rd := .a, rs1 := .a, rs2 := .s, rs3 := .a, func := 1 }
  else if op = 0xF1 then okA w { rd := .a, rs1 := .a, rs2 := .s }
  else false

/-- Legality of a Sequencer word: control, scalar, memory, DMA and sync classes. -/
def okSequencer (w : Nat) : Bool :=
  let op := fOp w
  let rrr : ShapeA := { rd := .s, rs1 := .s, rs2 := .s }
  if op = 0x01 ∨ op = 0x02 ∨ op = 0x03 ∨ op = 0x52 then okA w {}
  else if op = 0x04 then okB w .no .no 0xFFFF
  else if op = 0x05 then
    fRD w == 0 && okC w && decide (fCOND w ≤ 6) && (fCOND w != 6 || (fRS1 w == 0 && fRS2 w == 0))
  else if op = 0x06 then okC w && fCOND w == 0 && fRS1 w == 0 && fRS2 w == 0
  else if op = 0x07 then okA w { rs1 := .s }
  else if op = 0x08 then okB w .s .no 0xFFFF && decide (fIMM w ≤ 6)
  else if 0x20 ≤ op ∧ op ≤ 0x30 then okA w rrr
  else if 0x31 ≤ op ∧ op ≤ 0x34 then okB w .s .s 0xFFFFFFFF
  else if 0x35 ≤ op ∧ op ≤ 0x37 then okB w .s .s 0x3F
  else if op = 0x38 then bits w 19 18 == 0
  else if op = 0x39 then bits w 19 18 == 0 && bits w 63 40 == 0
  else if op = 0x3A then okA w { rd := .a, rs1 := .s }
  else if op = 0x3B then okA w { rd := .s, rs1 := .a }
  else if op = 0x3C then okB w .a .a 0xFFFFFFFF
  else if op = 0x3D then decide (fFUNC w ≤ 5) && okA w { rd := .p, rs1 := .s, rs2 := .s, func := 7 }
  else if op = 0x3E then okPlog w
  else if op = 0x3F then okFop w
  else if op = 0x40 then okM w .s [0, 1, 2, 3]
  else if op = 0x41 then okM w .s [0, 1, 2]
  else if op = 0x42 then okM w .s [0, 1, 2, 3]
  else if op = 0x43 ∨ op = 0x44 then okM w .a [3]
  else if op = 0x45 ∨ op = 0x46 then okM w .v [0, 1]
  else if op = 0x48 then okB w .no .no 0x1F
  else if op = 0x49 ∨ op = 0x4B then okA w { rd := .s }
  else if op = 0x4A then okA w { rs1 := .s }
  else if op = 0x50 then okM w .no [0]
  else if op = 0x51 then okA w { rd := .p }
  else if op = 0x60 ∨ op = 0x61 ∨ op = 0x63 then okA w { rs1 := .s, rs2 := .s }
  else if op = 0x62 then okA w { rd := .p, rs1 := .s, rs2 := .s }
  else false

/-- The word is a legal instruction: opcode and encodings not reserved, reserved bits zero (R153). Without PE it uses
neither PN nor PR, which are then reserved (R152). -/
def legalWord (w : Nat) : Bool :=
  (fPE w || (!fPN w && fPR w == 0)) &&
    (if fOp w < 0x80 then okSequencer w
     else if 0xC0 ≤ fOp w ∧ fOp w < 0xF0 then okVector w
     else okTensor w)

/-! ## The site of an instruction -/

/-- Where an instruction issues: its tile, instance, copy and program address, and its word. -/
structure Site where
  tl     : TileId
  ctx    : CtxId
  inst   : InstanceId
  golden : Bool
  paired : Bool
  /-- GOLDEN_SHELF of a golden instance (R383). -/
  goldShelf : Nat
  pc     : Nat
  w      : Nat
  /-- A physical upset of the instruction's result. -/
  upset  : Option LaneFault
  /-- The tile's debug window and the interval's count before the issue. -/
  before : TileDebug
  count  : Nat

/-- GOLDEN_SHELF of the context's entry in the golden table. -/
def goldenShelf (s : State) (c : CtxId) : Nat :=
  ((s.bv.golden.find? (fun e => e.ctx == c)).map (fun e => e.shelf)).getD 0

/-- The site of the instance on a tile. -/
def siteOf (s : State) (tl : TileId) (w : InstanceId) (pc word : Nat) : Site :=
  let c := (tileOf s tl).ctx
  { tl := tl, ctx := c, inst := w,
    golden := ((findInst s w).map (fun i => i.golden)).getD false,
    paired := ((findItem s w.item).map (fun x => x.paired)).getD false &&
      !((findInst s w).map (fun i => i.golden)).getD false,
    goldShelf := goldenShelf s c, pc := pc, w := word, upset := none,
    before := (tileOf s tl).dbg, count := (tileOf s tl).count }

/-! ## Bus signatures (R375) -/

/-- Folds output bytes and their destination tag into one of the instance's bus signatures: 0 Sequencer,
1 drain, 2 V0, 3 V1. -/
def foldBus (s : State) (z : Site) (bus : Nat) (data : List Byte) (tag : Nat) : State :=
  modInst s z.inst (fun i => { i with sigs := i.sigs.setIfInBounds bus (sigFold (i.sigs.getD bus 0) data tag) })

/-! ## Registers (R147, R148) -/

def sReg (x : Tile) (i : Nat) : Word64 := x.s.getD i 0
def aReg (x : Tile) (i : Nat) : Addr48 := x.a.getD i 0
def vReg (x : Tile) (i : Nat) : Vector Word32 32 := x.v.getD i (Vector.replicate 32 0)
def pReg (x : Tile) (i : Nat) : Word32 := x.p.getD i 0

/-- A lane of a v register. -/
def lane (x : Vector Word32 32) (i : Nat) : Word32 := x.getD i 0

/-- A tile with one register written. -/
def Tile.setS (x : Tile) (i : Nat) (v : Word64) : Tile := { x with s := x.s.setIfInBounds i v }
def Tile.setA (x : Tile) (i : Nat) (v : Addr48) : Tile := { x with a := x.a.setIfInBounds i v }
def Tile.setP (x : Tile) (i : Nat) (v : Word32) : Tile := { x with p := x.p.setIfInBounds i v }
/-- A v register with new contents: the lanes of `m` are written, with their parity (R142); the others are those that
it held. -/
def Tile.setV (x : Tile) (i : Nat) (m : Word32) (v : Vector Word32 32) : Tile :=
  { x with v := x.v.setIfInBounds i v, vbad := x.vbad.filter (fun k => !(k / 32 == i && m.getLsbD (k % 32))) }

/-- Writes an s register from a bus. -/
def putS (s : State) (z : Site) (bus i : Nat) (v : Word64) : State :=
  foldBus (modTile s z.tl (fun x => x.setS i v)) z bus (leBytes 8 v.toNat)
    (Config.busTag 0 i)

/-- Writes an a register: bits [47:0] are kept (R148). -/
def putA (s : State) (z : Site) (i : Nat) (v : Addr48) : State :=
  foldBus (modTile s z.tl (fun x => x.setA i v)) z 0 (leBytes 8 v.toNat)
    (Config.busTag 1 i)

/-- Writes a p register from a bus. -/
def putP (s : State) (z : Site) (bus i : Nat) (v : Word32) : State :=
  foldBus (modTile s z.tl (fun x => x.setP i v)) z bus (leBytes 4 v.toNat)
    (Config.busTag 2 i)

/-- Writes the lanes `m` of a v register from a bus; `v` is what the register then holds. -/
def putLanes (s : State) (z : Site) (bus i : Nat) (m : Word32) (v : Vector Word32 32) : State :=
  foldBus (modTile s z.tl (fun x => x.setV i m v)) z bus
    (v.toList.flatMap (fun y => leBytes 4 y.toNat)) (Config.busTag 3 i)

/-- Writes a whole v register from a bus. -/
def putV (s : State) (z : Site) (bus i : Nat) (v : Vector Word32 32) : State := putLanes s z bus i 0xFFFFFFFF v

/-! ## Shelf accesses -/

/-- Why a shelf access fails: an unbound index at a context shelf address (R84), or an uncorrectable
word at a device physical address (R91). -/
inductive ShelfErr where
  | unbound (addr : Nat)
  | bad (pa : Nat)
  deriving DecidableEq, Repr

/-- The pieces of a context shelf range by shelf: (index, offset, length), for a fuel of shelves. -/
def shelfPieces : Nat → Nat → Nat → List (Nat × Nat × Nat)
  | 0, _, _ => []
  | fuel + 1, a, n =>
    if n = 0 then []
    else
      let k := min n (65536 - a % 65536)
      (a / 65536, a % 65536, k) :: shelfPieces fuel (a + k) (n - k)

/-- The pieces of a range of any length. -/
def piecesOf (a n : Nat) : List (Nat × Nat × Nat) := shelfPieces (n / 65536 + 2) a n

/-- The first context shelf address of a range whose index is not bound. -/
def firstUnbound (s : State) (c : CtxId) (second : Bool) (a n : Nat) : Option Nat :=
  ((piecesOf a n).find? (fun p => (boundShelf s c second p.1).isNone)).map (fun p => p.1 * 65536 + p.2.1)

/-- Device physical ranges (address, length) of a bound range. -/
def physPieces (s : State) (c : CtxId) (second : Bool) (a n : Nat) : List (Nat × Nat) :=
  (piecesOf a n).filterMap (fun p => (boundShelf s c second p.1).map (fun f => (shelfBase f + p.2.1, p.2.2)))

/-- The first uncorrectable word that a range touches. -/
def badIn (s : State) (r : List (Nat × Nat)) : Option Nat :=
  s.tl.badWords.find? (fun w => r.any (fun p => decide (w < p.1 + p.2) && decide (p.1 < w + 8)))

/-- Reads a context shelf range. -/
def shelfReads (s : State) (c : CtxId) (second : Bool) (a n : Nat) : Except ShelfErr (List Byte) :=
  match firstUnbound s c second a n with
  | some u => .error (.unbound u)
  | none =>
    let r := physPieces s c second a n
    match badIn s r with
    | some w => .error (.bad w)
    | none => .ok (r.flatMap (fun p => memReads s.mem p.1 p.2))

/-- Counts the words with a single wrong bit that a read of physical ranges corrects, in their tiles' TI_SHELF_ECC. R91 does
not say whether a corrected read writes the word back: here it does not, and each later read counts it again (DESIGN CHOICE,
log 156). -/
def noteSoft (s : State) (r : List (Nat × Nat)) : State :=
  countSoft s (s.tl.softWords.filter (fun w => r.any (fun p => decide (w < p.1 + p.2) && decide (p.1 < w + 8))))

/-- What a read of a context shelf range leaves: its corrected errors are counted. -/
def shelfRead (s : State) (c : CtxId) (second : Bool) (a n : Nat) : State := noteSoft s (physPieces s c second a n)

/-- A physical upset of `n` bits of the word at a context shelf address: one wrong bit is correctable, more are not
(R91). -/
def upsetShelf (s : State) (c : CtxId) (second : Bool) (a n : Nat) : State :=
  match physPieces s c second a 1 with
  | [] => s
  | p :: _ =>
    let w := p.1 / 8 * 8
    if n = 0 ∨ s.tl.badWords.contains w ∨ n = 1 ∧ s.tl.softWords.contains w then s
    else if n = 1 then { s with tl := { s.tl with softWords := w :: s.tl.softWords } }
    else { s with tl := { s.tl with badWords := w :: s.tl.badWords } }

/-- Stores bytes over physical ranges in order. -/
def spread (m : Memory) : List (Nat × Nat) → List Byte → Memory
  | [], _ => m
  | (a, n) :: r, l => spread (memWrites m a (l.take n)) r (l.drop n)

/-- The 64 B lines of a range. -/
def linesOf (a n : Nat) : List Nat :=
  if n = 0 then [] else (List.range ((a + n - 1) / 64 - a / 64 + 1)).map (fun k => (a / 64 + k) * 64)

/-- Notes a store in the tiles that run the context's copy, with each line's bytes before it (R155). -/
def noteDirty (s : State) (c : CtxId) (second : Bool) (a n : Nat) : State :=
  let add (x : Tile) : Tile :=
    match x.inst with
    | none => x
    | some w =>
      if x.ctx = c ∧ w.second = second then
        { x with dirty := (linesOf a n).foldl (fun d l =>
            if d.any (fun e => e.1 == l) then d
            else
              match shelfReads { s with tl := { s.tl with badWords := [] } } c second l 64 with
              | .ok b => (l, b) :: d
              | .error _ => d) x.dirty }
      else x
  { s with tl := { s.tl with tiles := s.tl.tiles.map (fun e => (e.1, add e.2)) } }

/-- Stores bytes at a bound context shelf range; words replaced whole become good again (R91). -/
def shelfStore (s : State) (c : CtxId) (second : Bool) (a : Nat) (l : List Byte) : State :=
  let r := physPieces s c second a l.length
  let s1 := r.foldl (fun a p => wordsWritten a p.1 p.2) (noteDirty s c second a l.length)
  { s1 with mem := spread s1.mem r l }

/-- A bad word that a write covers only in part (R91). -/
def partialBad (s : State) (r : List (Nat × Nat)) : Option Nat :=
  s.tl.badWords.find? (fun w => r.any (fun p =>
    decide (w < p.1 + p.2) && decide (p.1 < w + 8) && !(decide (p.1 ≤ w) && decide (w + 8 ≤ p.1 + p.2))))

/-- The range touches bytes 0 to 7 or 12 to 19 of a seed slot (R95). -/
def touchesSlot (s : State) (c : CtxId) (a n : Nat) : Bool :=
  let seed := (ctxOf s c).seedShelf
  (piecesOf a n).any (fun p => p.1 == seed &&
    (List.range (p.2.2 / 256 + 2)).any (fun k =>
      let b := (p.2.1 / 256 + k) * 256
      (decide (p.2.1 < b + 8) && decide (b < p.2.1 + p.2.2)) ||
        (decide (p.2.1 < b + 20) && decide (b + 12 < p.2.1 + p.2.2))))

/-- One write request of an instance or its chain. `golden` names GOLDEN_SHELF of a golden instance: its
writes elsewhere are discarded, its writes there go to both sets (R383). -/
def shelfWrites (s : State) (c : CtxId) (second : Bool) (golden : Option Nat) (a : Nat) (l : List Byte) :
    Except ShelfErr State :=
  if l.isEmpty then .ok s
  else
    match firstUnbound s c second a l.length with
    | some u => .error (.unbound u)
    | none =>
      if touchesSlot s c a l.length then .error (.unbound a)
      else
        match golden with
        | some g =>
          if a / 65536 = g then
            match partialBad s (physPieces s c false a l.length ++
                (if (ctxOf s c).shadowed then physPieces s c true a l.length else [])) with
            | some w => .error (.bad w)
            | none =>
            let s1 := shelfStore s c false a l
            .ok (if (ctxOf s c).shadowed then shelfStore s1 c true a l else s1)
          else .ok s
        | none =>
          match partialBad s (physPieces s c second a l.length) with
          | some w => .error (.bad w)
          | none => .ok (shelfStore s c second a l)

/-- An instance's read at its site. -/
def siteReads (s : State) (z : Site) (a n : Nat) : Except ShelfErr (List Byte) :=
  shelfReads s z.ctx z.inst.second a n

/-- An instance's write request at its site, folded into a bus signature first. -/
def siteWrites (s : State) (z : Site) (bus a : Nat) (l : List Byte) : Except ShelfErr State :=
  shelfWrites (foldBus s z bus l a) z.ctx z.inst.second (if z.golden then some z.goldShelf else none) a l

/-- Write requests of at most `step` bytes each, in address order (a bus carries that many a clock cycle). -/
def siteChunks (z : Site) (bus step : Nat) : Nat → State → Nat → List Byte → Except ShelfErr State
  | 0, s, _, _ => .ok s
  | fuel + 1, s, a, l =>
    if l.isEmpty then .ok s
    else
      match siteWrites s z bus a (l.take step) with
      | .error e => .error e
      | .ok s1 => siteChunks z bus step fuel s1 (a + step) (l.drop step)

/-- A failed shelf access of the instance on a tile ends it: by fault (R84, R59) or by error (R91, R58). -/
def shelfFault (s : State) (z : Site) : ShelfErr → State
  | .unbound a => programFault s z.tl stTranslationFault (BitVec.ofNat 32 a)
  | .bad pa => tileError (shelfBad s pa z.ctx) z.tl stMemoryUncorrectable (shelfDetail pa)

/-- Continues with what a shelf access gave, or ends the instance. -/
def withShelf {α : Type} (s : State) (z : Site) (r : Except ShelfErr α) (k : α → State) : State :=
  match r with
  | .ok x => k x
  | .error e => shelfFault s z e

/-- Continues with what an instance's read of a shelf range gives, or ends the instance. -/
def withRead (s : State) (z : Site) (a n : Nat) (k : State → List Byte → State) : State :=
  withShelf s z (siteReads s z a n) (fun b => k (shelfRead s z.ctx z.inst.second a n) b)

/-- The instance ends with ST_ILLEGAL_INSTRUCTION and its program address (R153, R176, R187). -/
def illegal (s : State) (z : Site) : State :=
  programFault s z.tl stIllegalInstruction (BitVec.ofNat 32 z.pc)

/-- The instance ends with ST_TRANSLATION_FAULT and an address (R148, R167, R187). -/
def addressFault (s : State) (z : Site) (a : Nat) : State :=
  programFault s z.tl stTranslationFault (BitVec.ofNat 32 a)

/-- A 48-bit address checked under R148 and for alignment (R167): its context shelf address. -/
def withAddr (s : State) (z : Site) (ea : Nat) (align : Nat) (k : Nat → State) : State :=
  if 2 ^ 32 ≤ ea then addressFault s z (ea % 2 ^ 32)
  else if ea % align ≠ 0 then addressFault s z ea
  else k ea

/-- The effective address of a format M word. -/
def effAddr (x : Tile) (w : Nat) : Nat :=
  let ix : Nat := if fIX w then (sReg x (fRI w)).toNat * 2 ^ fSCALE w else 0
  wrapInt 48 ((aReg x (fAB w)).toNat + ix + signedOf 32 (fIMM w))

/-! ## Census (R492, R493) -/

/-- Adds to a tile's census counter, on a census tile and through the filter. -/
def census (s : State) (z : Site) (type fmt n : Nat) : State :=
  let f := (tileOf s z.tl).dbg.censusFilter
  if z.tl.val % 16 ≠ 0 ∨ (f.getLsbD 10 ∧ f.toNat % 1024 ≠ z.ctx.val) then s
  else
    modTile s z.tl (fun x => { x with dbg := { x.dbg with
      census := tabSet 0 x.dbg.census (fmt * 16 + type)
        (tabGet 0 x.dbg.census (fmt * 16 + type) + BitVec.ofNat 48 n) } })

/-! ## Debug at issue (R480, R482) -/

/-- Whether the lifecycle state lets debug act on a context (R480, R474). -/
def debugActs (s : State) (c : CtxId) : Bool :=
  if s.lg.lifecycle = 4 then false
  else if s.lg.lifecycle = 2 then (ctxOf s c).cls == .qm
  else true

/-- The breakpoint that hits at a program address for a context, the lowest first (R482, R485). -/
def breakpointAt (s : State) (tl : TileId) : Option Nat :=
  let x := tileOf s tl
  (List.range 4).find? (fun i =>
    let b := (tabGet 0 x.dbg.bp i).toNat
    bit b 43 && bits b 31 3 == x.pc.toNat / 8 && (!bit b 42 || bits b 41 32 == x.ctx.val))

/-- The engine to whose queue an instruction goes (R158), as a bit: 1 the Tensor Array, 2 and 3 the vector engines; a
Sequencer instruction goes to none. -/
def queueBit (word : Nat) : BitVec 5 :=
  if fOp word < 0x80 then 0
  else if 0xC0 ≤ fOp word ∧ fOp word < 0xF0 then (if bit (fFUNC word) 8 then 8 else 4)
  else 2

/-- The counters of the engines at an issue `clk` clock cycles after the one before it or the latest sample since (R488 to
R491): a command's first issue resets every engine's command counters, and its clock cycle counts for the command. The
Sequencer is busy in the clock cycle of an issue and stalled in those between, and a second instruction of the same clock
cycle adds none. -/
def countIssue (x : Tile) (dma : Bool) (word clk : Nat) : Tile :=
  let d := x.dbg
  let sel := d.reason.toNat
  let n := if d.current then clk else 1
  let start (e : Engine) : Engine := if d.current then e else { e with cmdBusy := 0, cmdStall := 0, cmdIdle := 0 }
  let y := modEngines x dma (fun i f e =>
    if i = 0 then stallOpen f true d.waits.toNat sel (n - 1) (busyEngine true (min n 1) (start e))
    else restEngine x dma true n i f (start e))
  { y with dbg := { y.dbg with
      current := true, cmdCtx := BitVec.ofNat 10 x.ctx.val, passing := false, waits := 0, sampled := 0, watchHit := none,
      used := y.dbg.used ||| queueBit word } }

/-- The word at a tile's program counter, and the state after a free choice where R155 leaves one (DESIGN CHOICE, log 56). -/
def fetchWord (s : State) (tl : TileId) (w : InstanceId) : Except ShelfErr (Nat × State) :=
  let x := tileOf s tl
  match shelfReads s x.ctx w.second x.pc.toNat 8 with
  | .error e => .error e
  | .ok b =>
    let s := shelfRead s x.ctx w.second x.pc.toNat 8
    match x.dirty.find? (fun e => e.1 == x.pc.toNat / 64 * 64) with
    | none => .ok (leNat b, s)
    | some (l, old) =>
      .ok (if freeValue s % 2 = 0 then leNat b else leNat (slice old (x.pc.toNat - l) 8), drawFree s)

/-- A tile stops issuing (R484): TI_STATUS reads halted, DB_HALT_STATUS draining, with its cause and the PC. -/
def haltTile (s : State) (tl : TileId) (cause : Nat) : State :=
  let x := tileOf s tl
  let s1 := setTile s tl { x with state := .halted, dbg := { x.dbg with
    state := 1, cause := BitVec.ofNat 4 cause, ctx := BitVec.ofNat 10 x.ctx.val, pc := x.pc, stepping := false,
    wanted := false, watchHit := none } }
  { s1 with lg := { s1.lg with haltUsed := true } }

/-- A request or hit that the lifecycle state forbids is ignored and sets REFUSED (R485); in Retired the register reads
zero (R480). -/
def refuseHalt (s : State) (tl : TileId) : State :=
  modTile s tl (fun x => { x with dbg := { x.dbg with
    wanted := false, refused := x.dbg.refused || s.lg.lifecycle != 4 } })

/-- Halts the instance that runs on a tile, where the lifecycle state lets it and its context is not CLOSING (R480, R485). -/
def askHalt (s : State) (tl : TileId) (cause : Nat) : State :=
  let x := tileOf s tl
  if !debugActs s x.ctx then refuseHalt s tl
  else if (ctxOf s x.ctx).state = .closing then s
  else haltTile s tl cause

/-- The halt after a STEP (R485). None when the instruction did not issue yet, was a yield point or ended the instance, or
its context is CLOSING. A watch hit by the same instruction has the lower code. -/
def afterStep (s : State) (tl : TileId) (w : InstanceId) : State :=
  let x := tileOf s tl
  if !x.dbg.stepping || x.dbg.waits != 0 then s
  else if x.inst = some w ∧ x.state = .running ∧ (ctxOf s x.ctx).state ≠ .closing then
    haltTile s tl (match x.dbg.watchHit with
      | some j => 5 + j.val
      | none => 7)
  else setTile s tl { x with dbg := { x.dbg with stepping := false } }

/-- A HALT that waited for an instance acts at its first issue. -/
def takeWanted (s : State) (tl : TileId) : State :=
  let x := tileOf s tl
  if x.dbg.wanted && x.inst.isSome && x.state == .running then askHalt s tl 0 else s

/-- The clock cycles of an issue that count: those since the issue before it, debug halts left out (log 11), and more than a
sample has counted since; at the first issue after an entry none, since the watchdog counts from it (R99). -/
def issueClocks (x : Tile) (clk : Nat) : Nat :=
  if x.fresh then 0 else if x.dbg.sampled = 0 then clk else max clk (x.dbg.sampled + 1)

/-- A tile after an instruction has issued `clk` clock cycles after the one before it: its counts, the program counter past
the word, and at a command's first issue its ENTRY record where `traced` (R494). -/
def issuedTile (x : Tile) (dma traced : Bool) (word clk : Nat) : Tile :=
  let n := issueClocks x clk
  let y := countIssue { x with count := x.count + n, fresh := false, pc := x.pc + 8 } dma word (n - x.dbg.sampled)
  if traced && !x.dbg.current then { y with dbg := { y.dbg with due := y.dbg.due ++ [entryDue x] } } else y

/-- The tile on which an instruction has issued. -/
def issuedOn (s : State) (tl : TileId) (word clk : Nat) : Tile :=
  issuedTile (tileOf s tl) (dmaFlies s tl) (tileTraced s tl 1 (tileOf s tl).ctx) word clk

/-- The state in which an issued instruction's own effect begins. -/
def issued (s : State) (tl : TileId) (w : InstanceId) (word clk : Nat) : State :=
  holdClocks (setTile s tl (issuedOn s tl word clk)) tl w (issueClocks (tileOf s tl) clk - (tileOf s tl).dbg.sampled)

/-- Issue waits for a reason of R489: the instruction did not issue and does so again later. Its clock cycles stall the
Sequencer, or go on stalling the switch where no instruction of the entry has issued, and count toward the yield watchdog. -/
def stall (s : State) (z : Site) (reason : Nat) : State :=
  modTile s z.tl (fun x =>
    let n := x.count - z.count - z.before.sampled
    let y := { x with pc := BitVec.ofNat 32 z.pc, dbg := { x.dbg with
      engines := z.before.engines, current := z.before.current, cmdCtx := z.before.cmdCtx, passing := z.before.passing,
      used := z.before.used, due := z.before.due, waits := BitVec.ofNat 4 reason } }
    if z.before.current then waitCycles y (dmaFlies s z.tl) n else betweenCycles y (dmaFlies s z.tl) n)

/-! ## Samples (R491) and halts (R484) -/

/-- A debug halt has lasted an open time, in which the instance goes on holding its tile (R71). -/
def haltTime (s : State) (tl : TileId) : State :=
  let x := tileOf s tl
  let s1 := setTile s tl (haltCycles x (dmaFlies s tl))
  match x.inst with
  | some w => holdClocks s1 tl w (openCycles x)
  | none => s1

/-- A sample of a tile's counters: they have counted an open number of clock cycles since they last did, at most the rest of
the yield interval while a command runs. -/
def sampleTile (s : State) (tl : TileId) : State :=
  let x := tileOf s tl
  if x.state = .inReset ∨ x.state = .fenced ∨ x.state = .selfTest then s
  else if x.dbg.state ≠ 0 then haltTime s tl
  else if x.dbg.current then
    let n := openCycles x % max 1 (30000 - x.count - x.dbg.sampled)
    let y := waitCycles x (dmaFlies s tl) n
    let s1 := setTile s tl { y with dbg := { y.dbg with sampled := y.dbg.sampled + n } }
    match x.inst with
    | some w => holdClocks s1 tl w n
    | none => s1
  else setTile s tl (betweenCycles x (dmaFlies s tl) (openCycles x))

/-- Whether an issued word has its effect (R154): the predicate of any but a vector class word, bit 0 of pPR, holds. -/
def runsWord (x : Tile) (word : Nat) : Bool :=
  (decide (0xC0 ≤ fOp word) && decide (fOp word < 0xF0)) || !fPE word || ((pReg x (fPR word)).getLsbD 0 != fPN word)

/-- One instruction issues on a tile `clk` clock cycles after the one before it. Nothing issues when the
tile runs no instance, the package is held in reset or asleep, a halt or watch holds the tile, a breakpoint
hits, or the word at the program counter is an instruction with another opcode. -/
def issue (s : State) (tl : TileId) (clk op : Nat) (body : State → Site → State) : State :=
  let s := takeWanted s tl
  let x := tileOf s tl
  match x.inst with
  | none => s
  | some w =>
    if !packageUp s ∨ x.state ≠ .running ∨ ((ctxOf s x.ctx).state ≠ .closing ∧ (x.dbg.watchHit.isSome ∨
        (!x.dbg.passing ∧ debugActs s x.ctx ∧ (breakpointAt s tl).isSome))) then s
    else if 30000 ≤ x.count + issueClocks x clk then watchdogExpire s tl
    else
      match fetchWord s tl w with
      | .error e => shelfFault s (siteOf s tl w x.pc.toNat 0) e
      | .ok (word, s0) =>
        let z := siteOf s0 tl w x.pc.toNat word
        if !legalWord word then illegal s0 z
        else if fOp word ≠ op then s
        else
          let s1 := issued s0 tl w word clk
          afterStep (if runsWord x word then body s1 z else s1) tl w

end Sys2Proof.Machine
end

