-- ==== Sys2Proof/Machine/Entry.lean ====
section
/-! DEFINITION. The yield contract: staging a seed slot (R102, R533), entering an instance (R97, R106),
reaching a yield point (R98, R104), ending an instance (R162, R376, R384). -/

namespace Sys2Proof.Machine

/-! ## Staging (R102, R533) -/

/-- The instance's copy, context and slot as staging reads them; the slot's USER bytes are not read (R93). R533 gives no order among several failures: the one
recorded is the first of the slot's read, WEIGHT_ADDR's alignment, the weights' read and the code's read (DESIGN CHOICE,
log 132). -/
def stageRead (s : State) (w : InstanceId) (c : CtxId) (slot : Byte) : Staged :=
  let x := ctxOf s c
  let slotAt := x.seedShelf * 65536 + slot.toNat * 256
  let fail (pc : Word32) (e : ShelfErr) : Staged :=
    { pc := pc, seed := [], weights := [], failure := some (match e with
        | .unbound a => (stTranslationFault, BitVec.ofNat 32 a)
        | .bad pa => (stMemoryUncorrectable, shelfDetail pa)) }
  match shelfReads s c w.second slotAt 192 with
  | .error e => fail 0 e
  | .ok b =>
    let pc := BitVec.ofNat 32 (field b 0 4)
    let wa := field b 8 4
    let seed := (List.range 16).map (fun i => BitVec.ofNat 64 (field b (64 + 8 * i) 8))
    if wa ≠ 0xFFFFFFFF ∧ wa % 64 ≠ 0 then
      { pc := pc, seed := seed, weights := [], failure := some (stTranslationFault, BitVec.ofNat 32 wa) }
    else
      let wts : Except ShelfErr (List Byte) :=
        if wa = 0xFFFFFFFF then .ok [] else shelfReads s c w.second wa 2048
      match wts with
      | .error e => fail pc e
      | .ok l =>
        match shelfReads s c w.second pc.toNat 256 with
        | .error e => fail pc e
        | .ok _ => { pc := pc, seed := seed, weights := l, failure := none }

/-- The uncorrectable word that a staging met, for TI_SHELF_ECC and its report. -/
def stageBad (s : State) (w : InstanceId) (c : CtxId) (slot : Byte) : Option Nat :=
  let x := ctxOf s c
  let slotAt := x.seedShelf * 65536 + slot.toNat * 256
  match shelfReads s c w.second slotAt 192 with
  | .error (.bad pa) => some pa
  | .error _ => none
  | .ok b =>
    let wa := field b 8 4
    match (if wa = 0xFFFFFFFF ∨ wa % 64 ≠ 0 then .ok [] else shelfReads s c w.second wa 2048) with
    | .error (.bad pa) => some pa
    | .error _ => none
    | .ok _ =>
      match shelfReads s c w.second (field b 0 4) 256 with
      | .error (.bad pa) => some pa
      | _ => none

/-- Staging's reads count the errors that they correct (R91). -/
def stageNote (s : State) (w : InstanceId) (c : CtxId) (slot : Byte) : State :=
  let slotAt := (ctxOf s c).seedShelf * 65536 + slot.toNat * 256
  match shelfReads s c w.second slotAt 192 with
  | .error _ => s
  | .ok b =>
    let s1 := shelfRead s c w.second slotAt 192
    let s2 := if field b 8 4 = 0xFFFFFFFF then s1 else shelfRead s1 c w.second (field b 8 4) 2048
    shelfRead s2 c w.second (field b 0 4) 256

/-- Sparse bytes: only those that differ from a default are listed. -/
def sparseBytes (d : Byte) (l : List Byte) : Tab Byte :=
  (l.zipIdx.filter (fun e => e.1 != d)).map (fun e => (e.2, e.1))

/-- The registers of R97 and R189 at an entry. -/
def entryRegs (x : Tile) (st : Staged) : Tile :=
  { x with
    pc := st.pc,
    s := Vector.ofFn (fun i => if i.val < 16 then st.seed.getD i.val 0 else 0),
    a := Vector.replicate 16 0,
    v := Vector.replicate 16 (Vector.replicate 32 0),
    p := Vector.replicate 8 0, vbad := [],
    tensor := { tensorReset with active := { weightsReset with bytes := sparseBytes 0 st.weights } },
    dirty := [], count := 0, fresh := true }

/-- The instance on a staged post or its own stage comes onto a tile: steps 3 to 7 of R106, which it has held for `clk`
clock cycles when its first instruction issues (R71, R108). TI_SWITCH_COUNT counts switches that change context: R109 does
not say whether an entry onto a free tile is one, and here it counts, in TI_SWITCH_MAX, too (DESIGN CHOICE, log 134). A
recorded staging failure stops it before its first instruction issues (R533); R109 does not say whether a switch so ended
counts: here it does, in both (DESIGN CHOICE, log 134). -/
def enter (s : State) (tl : TileId) (w : InstanceId) (c : CtxId) (slot : Byte) (st : Staged) (clk : Nat) : State :=
  let x := tileOf s tl
  let y := { entryRegs (switchCycles { x with dbg := { x.dbg with
      seed := s.free, cycles := 0, entryPc := st.pc, entryClocks := clk, used := x.dbg.used &&& 16 } } (dmaFlies s tl) clk) st with
    state := .running, ctx := c, slot := slot, inst := some w, next := none, leaving := none, enteredAt := now s,
    switchMax := if x.switchMax.toNat < clk then BitVec.ofNat 16 (min clk 0xFFFF) else x.switchMax,
    switches := if x.ctx = c ∧ x.inst.isSome then x.switches else satInc x.switches }
  let s1 := modInst (setTile (drawFree s) tl y) w (fun i => { i with tile := some tl, wait := .ready, ranOn := some tl })
  let s2 := holdClocks (slotWrite s1 w c w.second slot 12 [2]) tl w clk
  match slotStateBad s1 c w.second slot, st.failure with
  | some pa, _ => slotError (holdClocks s1 tl w clk) tl w c pa
  | none, none => s2
  | none, some (code, det) =>
    if code = stMemoryUncorrectable then tileError s2 tl code det else programFault s2 tl code det

/-! ## Ending -/

/-- The tile signature of an instance (R376). -/
def tileSignature (i : Inst) (dma : Bool) : Word64 :=
  let g (k : Nat) : Word64 := i.sigs.getD k 0
  let base := g 0 ^^^ rotl64 (g 1) 13 ^^^ rotl64 (g 2) 26 ^^^ rotl64 (g 3) 39
  if dma then base ^^^ rotl64 (g 4) 52 else base

/-- The verdict of a golden run that has issued `end` and has no chain in flight (R384). -/
def goldenVerdict (s : State) (i : Inst) : State :=
  if !i.golden || !i.finished || !(chainsOf s i.id).isEmpty then s
  else
    let c := itemCtx s i.id.item
    let want := ((s.bv.golden.find? (fun e => e.ctx == c)).map (fun e => e.sig)).getD 0
    if tileSignature i true = want then
      let s1 := modCtx (delInst s i.id) c (fun x => { x with lastDeferred := false })
      let s2 := modItem s1 i.id.item (fun x => { x with golden := .passed })
      let s3 := { s2 with bv := { s2.bv with goldPassed := satInc s2.bv.goldPassed } }
      -- the record kept in the journal carries GOLDEN_CHECKED once the run has passed
      match findItem s3 i.id.item with
      | some x =>
        match x.stage, x.verdict with
        | .done, some (st, det) => journalWrite s3 x.id 72 (recordBytes (queueOf s3 x.id.queue) x st det (now s3))
        | _, _ => s3
      | none => s3
    else goldenFail s i

/-- An instance has ended for good and is unlisted; its item may be complete. -/
def retire (s : State) (w : InstanceId) : State :=
  settle (modItem (delInst s w) w.item (fun x => { x with ended := x.ended + 1 })) w.item

/-- The instruction of a STEP is a yield point: it has its effect, STEP_LOST is set and no halt follows (R485). -/
def stepYields (s : State) (tl : TileId) : State :=
  modTile s tl (fun x => { x with dbg := { x.dbg with stepping := false, stepLost := x.dbg.stepLost || x.dbg.stepping } })

/-- The uncorrectable word that the outgoing slot write of a tile would meet, where it is made at once (R91, R106). -/
def leavesBad (s : State) (tl : TileId) : Option Nat :=
  let x := tileOf s tl
  if (x.next.bind (fun p => p.inst)).isSome then none
  else x.inst.bind (fun w => slotStateBad s x.ctx w.second x.slot)

/-- `end` issues on a tile (R162): the tile leaves the instance with no RESUME_PC. A paired copy and a
golden run stay listed until their comparison. -/
def endOnTile (s : State) (tl : TileId) (w : InstanceId) : State :=
  let s := stepYields (noteMoved s (ctxOf s (tileOf s tl).ctx).cls) tl
  let s1 := modTile s tl (fun x => endInterval x x.count (countersTraced s tl))
  match leavesBad s1 tl with
  | some pa => slotError s1 tl w (tileOf s tl).ctx pa
  | none =>
  let s2 := leaveTile s1 tl .ended
  match findInst s2 w with
  | none => s2
  | some i =>
    let held := ((findItem s2 w.item).map (fun x => x.paired)).getD false
    if i.golden then
      let j := { i with tile := none, finished := true }
      goldenVerdict (modInst s2 w (fun _ => j)) j
    else if held then
      modInst s2 w (fun i => { i with tile := none, finished := true, paired := true, points := i.points + 1 })
    else retire s2 w

/-- The instance must stop at this yield point: its context is no longer READY or its item has its
verdict (R63, R532, R372). -/
def mustStop (s : State) (c : CtxId) (w : InstanceId) : Bool :=
  (ctxOf s c).state != .ready ||
    (match findItem s w.item with
     | none => true
     | some x => (x.verdict.isSome || x.error.isSome || x.stage == .done) && !((findInst s w).map (fun i => i.golden)).getD false)

/-- Ends an instance that stops at a yield point; a golden run that ends so has not passed (R384). -/
def stopAtYield (s : State) (tl : TileId) (w : InstanceId) : State :=
  let s1 := modTile s tl (fun x => endInterval x x.count (countersTraced s tl))
  match findInst s w with
  | some i =>
    if i.golden then goldenFail s i else settle (delInst (leaveTile s1 tl .ended) w) w.item
  | none => leaveTile s1 tl .ended

/-- A yield point issues on a tile (R98, R104, R161): RESUME_PC is `pc`, the instance waits for `wait`.
With a post, or with a wait not satisfied, it leaves the tile; else it re-enters through its own slot. -/
def yieldPoint (s : State) (tl : TileId) (w : InstanceId) (pc : Word32) (wait : InstWait) : State :=
  let x := tileOf s tl
  let c := x.ctx
  let s := stepYields (noteMoved s (ctxOf s c).cls) tl
  if mustStop s c w then stopAtYield s tl w
  else
    let pairs (i : Inst) : Bool := ((findItem s w.item).map (fun y => y.paired)).getD false && !i.golden
    let s0 := modInst s w (fun i => { i with
      wait := wait, points := i.points + 1, paired := i.paired || pairs i,
      unsent := if pairs i then i.unsent ++ [(i.points + 1, tileSignature i false)] else i.unsent })
    let s1 := modTile s0 tl (fun y => endInterval y y.count (countersTraced s tl))
    match leavesBad s1 tl with
    | some pa => slotError s1 tl w c pa
    | none =>
    if x.next.isSome ∨ wait ≠ .ready then
      let s2 := leaveTile s1 tl (.suspend pc)
      if (tileOf s2 tl).inst = some w then s2 else modInst s2 w (fun i => { i with tile := none })
    else
      let s2 := outgoingWrite s1 tl (tileOf s1 tl) (.suspend pc)
      let s3 := setTile s2 tl (killRegs (tileOf s2 tl))
      let s4 := match stageBad s3 w c x.slot with
        | some pa => shelfBad s3 pa c
        | none => s3
      let s5 := stageNote s4 w c x.slot
      enter s5 tl w c x.slot (stageRead s5 w c x.slot) 0

end Sys2Proof.Machine
end

