-- ==== Sys2Proof/Machine/Topology.lean ====
section
/-! DEFINITION. Links, routes and the topology table (R240 to R242, R395, R410). -/

namespace Sys2Proof.Machine

/-- Width in lanes of an ACTIVE module, 0 otherwise; both ends must be ACTIVE. -/
def moduleLanes (s : State) (d i : Nat) : Nat :=
  let a := moduleOf s d i
  let o := otherEnd d i
  let b := moduleOf s o.1 o.2
  if a.state = 5 ∧ b.state = 5 then
    (if a.width = 3 then 64 else if a.width = 2 then 32 else if a.width = 1 then 16 else 0)
  else 0

/-- Lanes between Kiln die `k` and the hub. -/
def hubLanes (s : State) (k : Nat) : Nat := moduleLanes s k 0 + moduleLanes s k 1

/-- Lanes between Kiln die `a` and its ring neighbour `b`. -/
def ringLanes (s : State) (a b : Nat) : Nat :=
  if b = (a + 1) % 4 then moduleLanes s a 2 else if b = (a + 3) % 4 then moduleLanes s a 3 else 0

/-- A route: link crossings, first intermediate die (7 none), lanes of its narrowest hop. -/
structure Route where
  hops  : Nat
  via   : Nat
  lanes : Nat
  deriving DecidableEq, Repr

def noRoute : Route := ⟨0xFF, 7, 0⟩

/-- Kiln die to the hub: directly, or through the lower-numbered ring neighbour (R410). -/
def toHub (s : State) (k : Nat) : Route :=
  if 0 < hubLanes s k then ⟨1, 7, hubLanes s k⟩
  else
    let ns := [(k + 1) % 4, (k + 3) % 4]
    let ns := if (k + 3) % 4 < (k + 1) % 4 then ns.reverse else ns
    match ns.find? (fun n => decide (0 < ringLanes s k n) && decide (0 < hubLanes s n)) with
    | some n => ⟨2, n, min (ringLanes s k n) (hubLanes s n)⟩
    | none => noRoute

/-- Kiln die to Kiln die (R242). -/
def kilnRoute (s : State) (a b : Nat) : Route :=
  if a = b then ⟨0, 7, 1000⟩
  else
    let hubUp := decide (0 < hubLanes s a) && decide (0 < hubLanes s b)
    let viaHub : Route := ⟨2, 4, min (hubLanes s a) (hubLanes s b)⟩
    if (a + 2) % 4 = b then
      if hubUp then viaHub
      else
        let ns := [(a + 1) % 4, (a + 3) % 4]
        let ns := if (a + 3) % 4 < (a + 1) % 4 then ns.reverse else ns
        match ns.find? (fun n => decide (0 < ringLanes s a n) && decide (0 < ringLanes s n b)) with
        | some n => ⟨2, n, min (ringLanes s a n) (ringLanes s n b)⟩
        | none => noRoute
    else if 0 < ringLanes s a b then ⟨1, 7, ringLanes s a b⟩
    else if hubUp then viaHub
    else noRoute

/-- Any die to the hub. -/
def dieToHub (s : State) (d : Nat) : Route :=
  if d = 4 then ⟨0, 7, 1000⟩
  else if d = 5 then (if 0 < moduleLanes s 5 0 then ⟨1, 7, moduleLanes s 5 0⟩ else noRoute)
  else toHub s d

/-- A route through the hub on to a destination `extra` crossings away with `lanes`. -/
def throughHub (r : Route) (extra lanes : Nat) : Route :=
  if r.hops = 0xFF ∨ lanes = 0 then noRoute
  else ⟨r.hops + extra, if r.hops = 0 then 7 else if r.via = 7 then 4 else r.via, min r.lanes lanes⟩

/-- The route from a source die to a destination of the PATH table: 0 to 3 Kiln LPDDR6, 4 the pair
partner, 5 host memory. The partner counts two crossings from the hub, the host one. -/
def pathRoute (s : State) (src dst : Nat) : Route :=
  if dst < 4 then
    if dieState s dst ≠ .service then noRoute
    else if src < 4 then kilnRoute s src dst
    else if src = 4 then (let r := toHub s dst; if r.hops = 0xFF then noRoute else r)
    else
      let r := toHub s dst
      throughHub (dieToHub s 5) r.hops (if r.hops = 0xFF then 0 else r.lanes)
  else if dst = 4 then (if s.ln.pairUp then throughHub (dieToHub s src) 2 1000 else noRoute)
  else (if s.hi.linkUp then throughHub (dieToHub s src) 1 1000 else noRoute)

/-- The hub reaches a present address of LPDDR6 (R219, R242). -/
def hubSees (s : State) (pa : Nat) : Bool := lpddrPresent s pa && (pathRoute s 4 (pa / 0x8_0000_0000)).hops != 0xFF

/-- A route's BANDWIDTH in units of 100 MB/s (R240, R242): 4 GB/s a lane, 273.1 GB/s a die's eight channels and 136.5 in
reduced mode (R419), 31.5 GB/s the host link of 8 lanes, 64 GB/s Pergola at full width. -/
def routeBandwidth (s : State) (dst : Nat) (r : Route) : Nat :=
  if r.hops = 0xFF then 0
  else
    let links := r.lanes * 40
    let memory := if dst < 4 then (if s.rs.reduced then 1365 else 2731) * (channelsIn s dst).length / 8
      else if dst = 4 then 640 * 2 ^ s.ln.pergola.width.toNat / 8
      else if s.hi.linkSpeed = 5 ∧ s.hi.linkWidth = 8 then 315
      else Config.hostRate s.hi.linkSpeed.toNat s.hi.linkWidth.toNat
    min links memory

/-- Typical latency of a route by the table of R242; the free value where the table has no such route (DESIGN CHOICE, log 17). -/
def routeLatency (src dst : Nat) (r : Route) : Nat :=
  if r.hops = 0xFF then 0
  else if dst < 4 ∧ src < 4 ∧ r.hops = 0 then 120
  else if dst < 4 ∧ src < 4 ∧ r.hops = 1 then 190
  else if dst < 4 ∧ src < 4 ∧ (src + 2) % 4 = dst ∧ r.via = 4 then 270
  else if dst < 4 ∧ src = 4 ∧ r.hops = 1 then 160
  else if dst < 4 ∧ src = 5 ∧ r.hops = 2 then 240
  else if dst = 4 ∧ src < 4 ∧ r.hops = 3 then 900
  else if dst = 4 ∧ src = 4 ∧ r.hops = 2 then 780
  else if dst = 4 ∧ src = 5 ∧ r.hops = 3 then 860
  else if dst = 5 ∧ src ≠ 4 ∧ r.hops = 2 then 1200
  else if dst = 5 ∧ src = 4 ∧ r.hops = 1 then 1050
  else Config.pathLatency src dst r.hops r.via

/-- A PATH entry. -/
def pathEntry (s : State) (src dst : Nat) : List Byte :=
  let r := pathRoute s src dst
  leBytes 1 r.hops ++ leBytes 1 r.via ++ leBytes 2 (routeBandwidth s dst r) ++
    leBytes 2 (routeLatency src dst r) ++ [0, 0]

/-- Code of a die's state. -/
def dieCode : DieState → Nat
  | .service => 0
  | .lost => 1
  | .fenced => 2
  | .reset => 3

/-- Tiles of a die in service. -/
def tilesOn (s : State) (k : KilnId) : Nat :=
  if kilnIn s k then ((List.range 64).filter (fun i => tileIn s (tileOn k i))).length else 0

/-- 2 MiB blocks of a die's memory below the device-reserved area (R220). -/
def blocksOn (s : State) (k : Nat) : Nat := (presentBytes s k - 0x1000_0000) / 0x20_0000

/-- A block's address is in use: owned, lent or being scrubbed. -/
def blockBusy (s : State) (pa : Nat) : Bool := tabHas s.ms.blocks pa

/-- Blocks in use on a die. -/
def busyBlocks (s : State) (k : Nat) : Nat :=
  (s.ms.blocks.filter (fun e => decide (dieBase k ≤ e.1) && decide (e.1 < dieBase k + presentBytes s k))).length

/-- A DIE entry (R240). A fenced die leaves no capacity, and a lost one no channel in service; a lost die's shelves are
not fenced, so SHELVES counts them (DEDUCED, log 140). -/
def dieEntry (s : State) (d : Nat) : List Byte :=
  if d < 4 then
    let k := kilnId d
    let fenced := (s.tl.shelves.filter (fun e => e.2 == .fenced && e.1 / 0x4000 == d)).length
    let gone := dieState s d == .fenced
    let channels := ((channelsIn s d).map (fun c => 2 ^ c)).sum
    let present := kilnIn s k
    leBytes 1 (dieCode (dieState s d)) ++ leBytes 1 (tilesOn s k) ++
      leBytes 1 (if gone || dieState s d == .lost then 0 else channels) ++ [0] ++
      leBytes 4 (if gone then 0 else 10240 - fenced) ++
      leBytes 4 (if present then (presentBytes s d - 0x1000_0000) / 0x10_0000 else 0) ++
      leBytes 4 (if present then (blocksOn s d - busyBlocks s d) * 2 else 0)
  else leBytes 1 (dieCode (dieState s d)) ++ zeros 15

/-- The 1 KiB topology table (R240). -/
def topologyTable (s : State) : List Byte :=
  let dies := ((List.range 6).map (fun d => if dieState s d = .service then 2 ^ d else 0)).sum
  let index := if s.ln.pairedEver && !s.ln.leader then 2 else 0
  leBytes 4 1 ++ leBytes 4 s.ms.generation.toNat ++ leBytes 1 dies ++ leBytes 1 (b2n s.ln.pairUp + index) ++
    zeros 54 ++ (List.range 6).flatMap (dieEntry s) ++ zeros 96 ++
    (List.range 6).flatMap (fun a => (List.range 6).flatMap (pathEntry s a)) ++ zeros 480

end Sys2Proof.Machine
end

