-- ==== Sys2Proof/Machine/Translate.lean ====
section
/-! DEFINITION. Context virtual spaces (R228 to R232), the accesses of DMA engines through them (R174,
R225, R226, R238, R239, R349) and invalidation (R234). -/

namespace Sys2Proof.Machine

/-- A 2 MiB block in use by a context. -/
def ownedBlock (s : State) (pa : Nat) : Bool :=
  match s.ms.blocks.find? (fun e => e.1 == pa / 0x20_0000 * 0x20_0000) with
  | some (_, .owned _ _) => true
  | _ => false

/-- An LPDDR6 range inside allocated blocks of the class's partition memory (R230), present or not. -/
def legalRange (s : State) (cls : Class) (pa n : Nat) : Bool :=
  match placeOf pa with
  | .lpddr k off =>
    let r := classRange s k.val cls
    decide (r.1 ≤ off) && decide (off + n ≤ r.2) && ownedBlock s pa && ownedBlock s (pa + n - 1)
  | _ => false

/-- A leaf page's place (R230): LPDDR6, or for class QM the partner and host windows. -/
def legalLeaf (s : State) (cls : Class) (pa n : Nat) : Bool :=
  legalRange s cls pa n ||
    (cls == .qm &&
      match placeOf pa with
      | .partner _ => true
      | .host _ => true
      | _ => false)

/-- The partner address is absent: the link is down, or the outbound table shows it absent (R415, R416). -/
def partnerAbsent (s : State) (x : Nat) : Bool :=
  let e := tabGet (0, 0) s.ln.outbound (x / 0x8_0000_0000)
  let n := ((List.range 8).filter (fun c => e.2.getLsbD c)).length
  !s.ln.pairUp || e.1 != 0 || decide (n * 0x1_0000_0000 ≤ x % 0x8_0000_0000)

/-- An absent address for a requester on die `d` (R219, R242): 4 is the hub, where the Gatehouse is. -/
def absentFor (s : State) (d : Nat) (pa : Nat) : Bool :=
  match placeOf pa with
  | .lpddr k _ => !lpddrPresent s pa || (pathRoute s d k.val).hops == 0xFF
  | .partner x => partnerAbsent s x || (pathRoute s d 4).hops == 0xFF
  | .host _ => (pathRoute s d 5).hops == 0xFF
  | _ => true

/-- How a walk ends: a leaf (page base in the virtual space, page bits, page address, WRITE), a fault with its REASON, or
an uncorrectable table read; each with the addresses of the table entries read. -/
inductive Walk where
  | leaf (base pageBits pa : Nat) (write : Bool) (seen : List Nat)
  | fault (reason : Nat) (seen : List Nat)
  | bad (granule : Nat) (seen : List Nat)
  deriving DecidableEq, Repr

/-- Mask bit of a die for the sticky mask (R232). -/
def dieBit (pa : Nat) : Nat :=
  match placeOf pa with
  | .lpddr k _ => 2 ^ k.val
  | _ => 0

/-- A valid leaf entry at a level with a page of `2 ^ pb` bytes. -/
def leafStep (s : State) (d : Nat) (cls : Class) (e va pb : Nat) (write : Bool) (seen : List Nat) : Walk :=
  let pa := bits e 47 12 * 4096
  if bits e 7 4 ≠ 0 ∨ bits e 11 8 ≠ 0 ∨ bits e 63 48 ≠ 0 then .fault 1 seen
  else if pa % 2 ^ pb ≠ 0 then .fault 2 seen
  else if !legalLeaf s cls pa (2 ^ pb) then .fault 3 seen
  else if write ∧ !bit e 3 then .fault 4 seen
  else if absentFor s d pa then .fault 5 seen
  else .leaf (va / 2 ^ pb * 2 ^ pb) pb pa (bit e 3) seen

/-- Reads one table entry and goes on with it; the steps of R231 in their order. -/
def readEntry (s : State) (home : Nat) (table idx : Nat) (seen : List Nat) (k : Nat → List Nat → Walk) : Walk :=
  let a := table + 8 * idx
  if absentFor s home a then .fault 5 seen
  else
    match badGranule s a 8 with
    | some g => .bad g seen
    | none =>
      let e := leNat (paReads s a 8)
      if !bit e 0 then .fault 0 (a :: seen) else k e (a :: seen)

/-- A pointer to a next table: its address and size checked (R229, R230). -/
def tableStep (s : State) (home : Nat) (cls : Class) (e pa size : Nat) (seen : List Nat) (low : Bool) (k : Nat → Walk) : Walk :=
  if bit e 3 ∨ bits e 7 4 ≠ 0 ∨ (!low ∧ bits e 11 8 ≠ 0) ∨ bits e 63 48 ≠ 0 then .fault 1 seen
  else if !legalRange s cls pa size then .fault 3 seen
  else if absentFor s home pa then .fault 5 seen
  else k pa

/-- A walk from TT_ROOT (R228 to R231) for a requester on die `d`. The root table, too, must satisfy R230. -/
def walk (s : State) (c : CtxId) (d : Nat) (va : Nat) (write : Bool) : Walk :=
  let x := ctxOf s c
  let h := x.home.val
  let next (e : Nat) : Nat := bits e 47 12 * 4096
  if !legalRange s x.cls x.ttRoot.toNat 4096 then .fault 3 []
  else readEntry s h x.ttRoot.toNat (bits va 47 39) [] (fun e3 m3 =>
    if bits e3 2 1 ≠ 1 then .fault 1 m3
    else tableStep s h x.cls e3 (next e3) 4096 m3 false (fun t2 =>
      readEntry s h t2 (bits va 38 30) m3 (fun e2 m2 =>
        if bits e2 2 1 ≠ 1 then .fault 1 m2
        else tableStep s h x.cls e2 (next e2) 4096 m2 false (fun t1 =>
          readEntry s h t1 (bits va 29 21) m2 (fun e1 m1 =>
            if bits e1 2 1 = 3 then .fault 1 m1
            else if bits e1 2 1 = 0 then leafStep s d x.cls e1 va 21 write m1
            else if bits e1 2 1 = 1 then
              tableStep s h x.cls e1 (next e1) 4096 m1 false (fun t0 =>
                readEntry s h t0 (bits va 20 12) m1 (fun e0 m0 =>
                  if bits e0 2 1 ≠ 0 then .fault 1 m0 else leafStep s d x.cls e0 va 12 write m0))
            else
              tableStep s h x.cls e1 (bits e1 47 8 * 256) 256 m1 true (fun t0 =>
                readEntry s h t0 (bits va 20 16) m1 (fun e0 m0 =>
                  if bits e0 2 1 ≠ 0 then .fault 1 m0 else leafStep s d x.cls e0 va 16 write m0)))))))

/-- Why an access through translation fails. -/
inductive VaErr where
  | fault (va reason : Nat)
  | bad (granule : Nat)
  | shelf (e : ShelfErr)
  deriving DecidableEq, Repr

/-- An address in the partner window. -/
def inPartner (pa : Nat) : Bool :=
  match placeOf pa with
  | .partner _ => true
  | _ => false

/-- What a walk for a context leaves: corrected table reads are counted (R225); the dies of the tables and of the leaf
join the context's sticky mask, and a leaf in the partner window its own bit of it (R232, R416). -/
def noteWalk (s : State) (c : CtxId) (seen : List Nat) (leaf : Option Nat) : State :=
  let dies := (leaf.toList ++ seen).foldl (fun m a => Nat.lor m (dieBit a)) 0
  let s1 := modCtx (seen.foldl (fun a e => correctGranules a e 8) s) c (fun x => { x with mask := x.mask ||| BitVec.ofNat 4 dies })
  if leaf.any inPartner && !s1.ln.partnerCtx.contains c then
    { s1 with ln := { s1.ln with partnerCtx := c :: s1.ln.partnerCtx } }
  else s1

/-- The state and the result of a walk: the leaf's page base, page bits, page address and WRITE. -/
def walked (s : State) (c : CtxId) (va : Nat) : Walk → State × Except VaErr (Nat × Nat × Nat × Bool)
  | .fault r seen => (noteWalk s c seen none, .error (.fault va r))
  | .bad g seen => (noteUncorrectable (noteWalk s c seen none) g false, .error (.bad g))
  | .leaf base pb pa w seen => (noteWalk s c seen (some pa), .ok (base, pb, pa, w))

/-- A cached translation of a tile's TLB that serves an access (R232). -/
def tlbFind (x : Tile) (c : CtxId) (va : Nat) (write : Bool) : Option Nat :=
  (x.tlb.find? (fun e => e.1 == c && e.2.1 == va / 2 ^ e.2.2.1 * 2 ^ e.2.2.1 && (!write || e.2.2.2.2))).map
    (fun e => e.2.2.2.1 + (va - e.2.1))

/-- The access's physical address, walking on a miss and caching the leaf among the tile's 128 newest. -/
def translate (s : State) (tl : TileId) (c : CtxId) (va : Nat) (write : Bool) : State × Except VaErr Nat :=
  let x := tileOf s tl
  match tlbFind x c va write with
  | some pa => (s, if absentFor s (tileDie tl).val pa then .error (.fault va 5) else .ok pa)
  | none =>
    match walked s c va (walk s c (tileDie tl).val va write) with
    | (s1, .error e) => (s1, .error e)
    | (s1, .ok (base, pb, pa, w)) =>
      (modTile s1 tl (fun x => { x with tlb := ((c, base, pb, pa, w) :: x.tlb).take 128 }), .ok (pa + (va - base)))

/-- Level of R235 at which an address lies, for R238 and R239: 2 on the context's own block or home die. -/
def levelOf (s : State) (c : CtxId) (pa : Nat) : Nat :=
  match placeOf pa with
  | .partner _ => 4
  | .host _ => 5
  | .lpddr k _ =>
    match s.ms.blocks.find? (fun e => e.1 == pa / 0x20_0000 * 0x20_0000) with
    | some (_, .owned _ l) => l
    | _ => if k = (ctxOf s c).home then 2 else 3
  | _ => 2

/-- A saturating 64-bit byte count (R16). -/
def addBytes (w : Word64) (n : Nat) : Word64 := satAdd w n

/-- Counts an access's bytes: TU_CTX_TRAFFIC (R239) and the item's SPILLED flag (R238). -/
def countAccess (s : State) (c : CtxId) (i : ItemId) (pa n : Nat) : State :=
  let l := levelOf s c pa
  let s1 := if l = 3 then modCtx s c (fun x => { x with traffic3 := addBytes x.traffic3 n })
    else if l = 4 then modCtx s c (fun x => { x with traffic4 := addBytes x.traffic4 n })
    else if l = 5 then modCtx s c (fun x => { x with traffic5 := addBytes x.traffic5 n })
    else s
  let far := match placeOf pa with
    | .lpddr k _ => k != (ctxOf s c).home
    | .partner _ => true
    | .host _ => true
    | _ => false
  if far then modItem s1 i (fun x => { x with spilled := true }) else s1

/-- Adds the bytes of a request to a regulator count (R348, R349). -/
def countBytes (s : State) (key n : Nat) : State :=
  { s with part := { s.part with counts := tabSet 0 s.part.counts key (tabGet 0 s.part.counts key + n) } }

/-! ## Regulation (R348 to R353) -/

/-- Throttle level of the outbound queue that requests to an address wait in (R352): a die's is the
highest of its eight channels'. -/
def queueLevel (s : State) (pa : Nat) : Nat :=
  match placeOf pa with
  | .lpddr k _ => ((List.range 8).map (fun c => (tabGet 0 s.part.levels (8 * k.val + c)).toNat)).foldl max 0
  | .host _ => (tabGet 0 s.part.levels 32).toNat
  | .partner _ => (tabGet 0 s.part.levels 33).toNat
  | _ => 0

/-- A throttle level pauses a class's counts at their guarantee (R352). -/
def levelPauses (cls : Class) (level : Nat) : Bool :=
  match cls with
  | .qm => decide (1 ≤ level)
  | .b => decide (2 ≤ level)
  | .d => decide (3 ≤ level)

/-- A count pauses: at its limit (R351), or at its guarantee under a level that pauses its class. -/
def countPaused (cls : Class) (count guarantee limit level : Nat) : Bool :=
  (limit != 0xFFFFFFFF && decide (limit ≤ count)) || (decide (guarantee ≤ count) && levelPauses cls level)

/-- A regulated master other than a tile engine waits for its limit or a throttle level (R348 to R352). -/
def masterPaused (s : State) (m : Fin 6) (pa : Nat) : Bool :=
  let x := s.part.masters[m]
  countPaused x.cls (tabGet 0 s.part.counts (2 ^ 18 + m.val)) x.guarantee.toNat x.limit.toNat (queueLevel s pa)

/-- Counts a master's bytes. -/
def countMaster (s : State) (m : Fin 6) (n : Nat) : State := countBytes s (2 ^ 18 + m.val) n

/-- How many of `n` requests of `size` bytes a master issues before its count pauses: each while the count lies below the
limit, and below the guarantee under a level that pauses the class (R351, R352). -/
def requestRoom (s : State) (m : Fin 6) (pa size n : Nat) : Nat :=
  let x := s.part.masters[m]
  let c := tabGet 0 s.part.counts (2 ^ 18 + m.val)
  let below (bound : Nat) : Nat := (bound - c + (size - 1)) / size
  min (if x.limit = 0xFFFFFFFF then n else min n (below x.limit.toNat))
    (if levelPauses x.cls (queueLevel s pa) then below x.guarantee.toNat else n)

/-! ## Accesses -/

/-- Key of a tile engine's count for a context. -/
def tileKey (tl : TileId) (c : CtxId) : Nat := 1024 * tl.val + c.val

/-- A level-4 block that the partner has lent holds the address (R242, R415). -/
def lentToUs (s : State) (pa : Nat) : Bool := ownedBlock s pa

/-- Reads within one page. -/
def pageRead (s : State) (tl : TileId) (c : CtxId) (i : ItemId) (va n : Nat) : State × Except VaErr (List Byte) :=
  match translate s tl c va false with
  | (s1, .error e) => (s1, .error e)
  | (s1, .ok pa) =>
    match placeOf pa, badGranule s1 pa n with
    | .partner _, _ =>
      if !lentToUs s1 pa then (s1, .error (.fault va 6)) else (countAccess s1 c i pa n, .ok (paReads s1 pa n))
    | .lpddr _ _, some g => (noteUncorrectable s1 g false, .error (.bad g))
    | _, _ => (countAccess (correctGranules s1 pa n) c i pa n, .ok (paReads s1 pa n))

/-- Writes within one page. -/
def pageWrite (s : State) (tl : TileId) (c : CtxId) (i : ItemId) (va : Nat) (l : List Byte) : State × Except VaErr Unit :=
  match translate s tl c va true with
  | (s1, .error e) => (s1, .error e)
  | (s1, .ok pa) =>
    match placeOf pa, partialGranule s1 pa l.length with
    | .partner _, _ =>
      if !lentToUs s1 pa then (s1, .error (.fault va 6)) else (countAccess (paWrites s1 pa l) c i pa l.length, .ok ())
    | .lpddr _ _, some g => (noteUncorrectable s1 g false, .error (.bad g))
    | _, _ => (countAccess (paWrites s1 pa l) c i pa l.length, .ok ())

/-- Reads a virtual range, page by page. -/
def vaReads (tl : TileId) (c : CtxId) (i : ItemId) : Nat → State → Nat → Nat → State × Except VaErr (List Byte)
  | 0, s, _, _ => (s, .ok [])
  | fuel + 1, s, va, n =>
    if n = 0 then (s, .ok [])
    else
      let k := min n (4096 - va % 4096)
      match pageRead s tl c i va k with
      | (s1, .error e) => (s1, .error e)
      | (s1, .ok b) =>
        match vaReads tl c i fuel s1 (va + k) (n - k) with
        | (s2, .error e) => (s2, .error e)
        | (s2, .ok r) => (s2, .ok (b ++ r))

/-- Writes a virtual range, page by page; bytes written before a fault stay written. -/
def vaWrites (tl : TileId) (c : CtxId) (i : ItemId) : Nat → State → Nat → List Byte → State × Except VaErr Unit
  | 0, s, _, _ => (s, .ok ())
  | fuel + 1, s, va, l =>
    if l.isEmpty then (s, .ok ())
    else
      let k := min l.length (4096 - va % 4096)
      match pageWrite s tl c i va (l.take k) with
      | (s1, .error e) => (s1, .error e)
      | (s1, .ok _) => vaWrites tl c i fuel s1 (va + k) (l.drop k)

/-- A host request of a context is held: the function whose requester ID it carries (R217) cannot issue (R505). -/
def hostHeld (s : State) (c : CtxId) (pa : Nat) : Bool :=
  match placeOf pa with
  | .host _ => !fnCanIssue s (classFunction s (ctxOf s c).cls)
  | _ => false

/-- TU_FAULT latches a fault when it holds none (R231). -/
def latchTuFault (s : State) (c : CtxId) (va reason : Nat) : State :=
  if s.ms.fault.valid then s
  else { s with ms := { s.ms with fault := ⟨BitVec.ofNat 48 va, BitVec.ofNat 10 c.val, BitVec.ofNat 3 reason, true⟩ } }

/-- A golden run ends in a fault of its chain (R384). -/
def goldenChainFail (s : State) (w : InstanceId) : State :=
  match findInst s w with
  | some i => goldenFail s i
  | none => s

/-- Reports an LPDDR6 uncorrectable error found on demand and starts the channel's test (R392). -/
def demandReport (s : State) (g : Nat) (c : Option CtxId) : State :=
  let k := g / 0x8_0000_0000
  let u := unitId k 2 (channelAt s g)
  selfReport (startTest s u 0 []) k u 0x08 c stMemoryUncorrectable (uncorrectableDetail s g)

/-- Counts and reports an uncorrectable granule that a requester other than an item has read (R226, R392). -/
def portUncorrectable (s : State) (g : Nat) : State := demandReport (noteUncorrectable s g false) g none

/-- What a failed access of an item's transfer on the engine of tile `tl` does to the item (R42, R174): a chain's of an
instance `inst`, or a COPY's. A translation fault abandons every later access of the instance (R231). -/
def transferFault (s : State) (tl : TileId) (c : CtxId) (i : ItemId) (inst golden : Option InstanceId) (e : VaErr) : State :=
  match e with
  | .fault va r =>
    let s1 := latchTuFault s c va r
    let s1 := match inst with
      | some w => modItem s1 i (fun x => { x with abandoned := w :: x.abandoned })
      | none => s1
    match golden with
    | some w => goldenChainFail s1 w
    | none => faultContext s1 c stTranslationFault (BitVec.ofNat 32 va) (some tl) (some i)
  | .bad g =>
    let s1 := demandReport s g (some c)
    match golden with
    | some w => goldenChainFail s1 w
    | none => hardwareError (avoidTile s1 i tl) i stMemoryUncorrectable (uncorrectableDetail s g)
  | .shelf (.unbound a) =>
    match golden with
    | some w => goldenChainFail s w
    | none => faultContext s c stTranslationFault (BitVec.ofNat 32 a) (some tl) (some i)
  | .shelf (.bad pa) =>
    let s1 := shelfBad s pa c
    match golden with
    | some w => goldenChainFail s1 w
    | none => hardwareError (avoidTile s1 i tl) i stMemoryUncorrectable (shelfDetail pa)

end Sys2Proof.Machine
end

