-- ==== Sys2Proof/Machine/Dma.lean ====
section
/-! DEFINITION. The tile DMA engines: descriptors and their checks (R172, R173), the move (R174, R175),
chain signatures (R375), chain ends (R101, R161), COPY transfers (R42), translation walks made on a
requester's behalf (R228, R231) and invalidation (R234). -/

namespace Sys2Proof.Machine

/-! ## Regulation (R349 to R353) -/

/-- The address that a context's virtual address reaches now, for the level of its requests. -/
def peek (s : State) (tl : TileId) (c : CtxId) (va : Nat) (write : Bool) : Nat :=
  match tlbFind (tileOf s tl) c va write with
  | some pa => pa
  | none =>
    match walk s c (tileDie tl).val va write with
    | .leaf base _ pa _ _ => pa + (va - base)
    | _ => 0x6000_0000_0000

/-- Requests of a context on a tile's engine to a physical address pause. -/
def contextPaused (s : State) (tl : TileId) (c : CtxId) (pa : Nat) : Bool :=
  let x := ctxOf s c
  countPaused x.cls (tabGet 0 s.part.counts (tileKey tl c)) x.guarantee.toNat x.limit.toNat (queueLevel s pa)

/-- Requests of a context on a tile's engine to a virtual address wait. -/
def enginePaused (s : State) (tl : TileId) (c : CtxId) (va : Nat) (write : Bool) : Bool :=
  let pa := peek s tl c va write
  contextPaused s tl c pa || hostHeld s c pa

/-! ## Descriptors -/

/-- Fields of a DMA descriptor (R172). -/
def ddAddr (d : List Byte) (off : Nat) : Nat := field d off 6
def ddSpace (d : List Byte) (off : Nat) : Nat := bits (field d (off + 6) 2) 1 0
def ddLength (d : List Byte) : Nat := field d 16 4
def ddRows (d : List Byte) : Nat := field d 20 4
def ddStride (d : List Byte) (off : Nat) : Int := signedOf 32 (field d off 4)
def ddNext (d : List Byte) : Nat := field d 32 4
def ddSync (d : List Byte) : Nat := field d 36 2
def ddSignal (d : List Byte) : Bool := bit (field d 38 2) 0

/-- First byte of row `i` of a range. -/
def rowStart (base : Nat) (stride : Int) (i : Nat) : Int := (base : Int) + stride * i

/-- Every row of a range lies in its space; a row that starts below 0 does not. -/
def rowsFit (base : Nat) (stride : Int) (rows len space : Nat) : Bool :=
  let top : Int := if space = 0 then 0x1_0000_0000 else 0x1_0000_0000_0000
  let ok (i : Nat) : Bool :=
    decide (0 ≤ rowStart base stride i) && decide (rowStart base stride i + len ≤ top)
  rows == 0 || len == 0 || (ok 0 && ok (rows - 1))

/-- Whether some `j < rows` has `x - len < j × stride < x + len`. -/
def someRow (x stride : Int) (rows len : Nat) : Bool :=
  if stride = 0 then decide (-(len : Int) < x) && decide (x < len)
  else
    let (x, t) := if 0 < stride then (x, stride) else (-x, -stride)
    let j := max 0 ((x - len) / t + 1)
    decide (j < rows) && decide (j * t < x + len)

/-- The source and destination rows overlap as written (R173). Whether two strided ranges overlap by their spans or by their
rows' bytes the manual does not say: here by their bytes (DESIGN CHOICE, log 158). -/
def rangesMeet (d : List Byte) : Bool :=
  let rows := ddRows d
  let len := ddLength d
  rows != 0 && len != 0 && ddSpace d 0 == ddSpace d 8 &&
    (List.range rows).any (fun i =>
      someRow (rowStart (ddAddr d 0) (ddStride d 24) i - ddAddr d 8) (ddStride d 28) rows len)

/-- The descriptor's checks of R17 and R173, reserved fields included; `count` is its number in the
chain. -/
def descriptorOk (s : State) (c : CtxId) (d : List Byte) (count : Nat) : Bool :=
  decide (ddSpace d 0 ≤ 1) && decide (ddSpace d 8 ≤ 1) &&
    bits (field d 6 2) 15 2 == 0 && bits (field d 14 2) 15 2 == 0 &&
    decide (ddLength d ≤ 0x400_0000) && decide (ddRows d ≤ 65536) &&
    (ddNext d == 0xFFFFFFFF || ddNext d % 64 == 0) && field d 38 2 / 2 == 0 && allZero (slice d 40 24) &&
    (decide (2 ^ 32 > ddAddr d 0) || ddSpace d 0 == 1) && (decide (2 ^ 32 > ddAddr d 8) || ddSpace d 8 == 1) &&
    rowsFit (ddAddr d 0) (ddStride d 24) (ddRows d) (ddLength d) (ddSpace d 0) &&
    rowsFit (ddAddr d 8) (ddStride d 28) (ddRows d) (ddLength d) (ddSpace d 8) &&
    !rangesMeet d && (!ddSignal d || inSyncRange s.part (ctxOf s c).cls (ddSync d)) && decide (count ≤ 4096)

/-! ## The chain -/

/-- Changes a chain in flight. -/
def modChain (s : State) (x : Chain) (f : Chain → Chain) : State :=
  setChains s (s.tl.chains.map (fun y => if y.tile = x.tile ∧ y.ch = x.ch then f y else y))

/-- Takes a chain out of flight and folds its signature into its instance's DMA signature (R375). -/
def dropChain (s : State) (x : Chain) : State :=
  let cur := (s.tl.chains.find? (fun y => y.tile == x.tile && y.ch == x.ch)).getD x
  let s1 := setChains s (s.tl.chains.filter (fun y => !(y.tile == x.tile && y.ch == x.ch)))
  let s2 := modInst s1 x.inst (fun i => { i with
    sigs := i.sigs.setIfInBounds 4 (i.sigs.getD 4 0 ^^^ rotl64 cur.sig (x.number % 64)) })
  if (chainsOf s2 x.inst).isEmpty then
    modInst s2 x.inst (fun i => if i.wait = .dma then { i with wait := .ready } else i)
  else s2

/-- A chain ends: an instance suspended at `dwait.y` becomes ready when it was the last (R161), a golden
run that waits for it gets its verdict, an item that waits for it completes. -/
def endChain (s : State) (x : Chain) : State :=
  let s1 := dropChain s x
  let s2 := match findInst s1 x.inst with
    | some i => goldenVerdict s1 i
    | none => s1
  settle s2 x.inst.item

/-- A chain ends on a fault or error of its access (R174). -/
def failChain (s : State) (x : Chain) (e : VaErr) : State :=
  transferFault (dropChain s x) x.tile x.ctx x.inst.item (some x.inst) (if x.golden then some x.inst else none) e

/-- A chain ends on an invalid descriptor (R173). -/
def badDescriptor (s : State) (x : Chain) : State :=
  let s1 := dropChain s x
  if x.golden then goldenChainFail s1 x.inst
  else faultContext s1 x.ctx stIllegalInstruction (x.pc.setWidth 32) (some x.tile) (some x.inst.item)

/-- Folds written bytes into the chain's own signature (R375). -/
def foldChain (s : State) (x : Chain) (l : List Byte) (tag : Nat) : State :=
  modChain s x (fun y => { y with sig := sigFold y.sig l tag })

/-- Writes one line of at most 64 B of a row. -/
def chainLine (s : State) (x : Chain) (space a : Nat) (l : List Byte) : State × Except VaErr Unit :=
  let s := foldChain s x l a
  if space = 0 then
    let g := if x.golden then some (goldenShelf s x.ctx) else none
    match shelfWrites s x.ctx x.inst.second g a l with
    | .ok s1 => (s1, .ok ())
    | .error e => (s, .error (.shelf e))
  else if x.golden ∨ x.inst.second then (s, .ok ())
  else pageWrite s x.tile x.ctx x.inst.item a l

/-- Writes a row, line by line in address order. -/
def chainRow (x : Chain) (space : Nat) : Nat → State → Nat → List Byte → State × Except VaErr Unit
  | 0, s, _, _ => (s, .ok ())
  | fuel + 1, s, a, l =>
    if l.isEmpty then (s, .ok ())
    else
      let k := 64 - a % 64
      match chainLine s x space a (l.take k) with
      | (s1, .error e) => (s1, .error e)
      | (s1, .ok _) => chainRow x space fuel s1 (a + k) (l.drop k)

/-- Reads a range of one of the two spaces. -/
def chainRead (s : State) (x : Chain) (space a n : Nat) : State × Except VaErr (List Byte) :=
  if space = 0 then
    match shelfReads s x.ctx x.inst.second a n with
    | .ok b => (shelfRead s x.ctx x.inst.second a n, .ok b)
    | .error e => (s, .error (.shelf e))
  else vaReads x.tile x.ctx x.inst.item (n / 4096 + 2) s a n

/-- The chain as it stands. -/
def chainNow (s : State) (x : Chain) : Chain := (s.tl.chains.find? (fun y => y.tile == x.tile && y.ch == x.ch)).getD x

/-- The line of a descriptor that follows its first `m` bytes: its source and destination, and its length, which ends with
the row or with a 64 B line of the destination. -/
def lineAt (d : List Byte) (m : Nat) : Nat × Nat × Nat :=
  let len := ddLength d
  let sa := (rowStart (ddAddr d 0) (ddStride d 24) (m / len)).toNat + m % len
  let da := (rowStart (ddAddr d 8) (ddStride d 28) (m / len)).toNat + m % len
  (sa, da, min (len - m % len) (64 - da % 64))

/-- The values that the bytes of a line take where both spaces are virtual (R175). A byte that the descriptor has not
overwritten has one value; for one that it has, two bits of a free value pick between its value before the descriptor, its
value before the line, and the one that the line itself has written (DESIGN CHOICE, log 57). `src` and `dst` are the
device physical addresses of the line's bytes. -/
def aliasBytes (old : Tab Byte) (f : Nat) : List (Nat × Nat × Byte) → Tab Byte → Nat → List Byte
  | [], _, _ => []
  | (src, dst, b) :: r, put, k =>
    let v := if f.testBit (2 * k) then tabGet b old src
      else if f.testBit (2 * k + 1) then tabGet b put src
      else b
    v :: aliasBytes old f r (tabPut put dst v) (k + 1)

/-- Keeps the bytes that a line overwrites, as they were before the descriptor. -/
def keepOld (s : State) (old : Tab Byte) (dst : List Nat) : Tab Byte :=
  dst.foldl (fun t a => if tabHas t a then t else tabPut t a ((paReads s a 1).headD 0)) old

/-- Moves one line whose source bytes are read. -/
def putLine (s : State) (x : Chain) (d : List Byte) (sa da k : Nat) (b : List Byte) : State × Except VaErr Unit :=
  let both := ddSpace d 0 == 1 && ddSpace d 8 == 1
  let src := (List.range k).map (fun j => peek s x.tile x.ctx (sa + j) false)
  let dst := (List.range k).map (fun j => peek s x.tile x.ctx (da + j) true)
  let old := (chainNow s x).old
  let data := if both then aliasBytes old (freeValue s) (src.zip (dst.zip b)) [] 0 else b
  let s1 := if both then modChain (drawFree s) x (fun y => { y with old := keepOld s old dst }) else s
  match chainRow x (ddSpace d 8) 2 s1 da data with
  | (s2, .error e) => (s2, .error e)
  | (s2, .ok _) => (modChain s2 x (fun y => { y with moved := y.moved + k }), .ok ())

/-- How far a descriptor's move has come: all of it, up to a pause of its requests (R351), or to a failed access. -/
inductive Move where
  | whole | paused
  | failed (e : VaErr)
  deriving DecidableEq, Repr

/-- Requests of the chain at an address of one of the two spaces pause (R351, R352). A shelf has no throttle level. -/
def spacePaused (s : State) (x : Chain) (space a : Nat) (write : Bool) : Bool :=
  if space = 1 then enginePaused s x.tile x.ctx a write else contextPaused s x.tile x.ctx (shelfBase 0)

/-- Moves lines from where the descriptor stands until it is done, its requests pause or an access fails. Each line's read
and write count together (R348, R349; log 60). -/
def moveLines (x : Chain) (d : List Byte) : Nat → State → State × Move
  | 0, s => (s, .whole)
  | n + 1, s =>
    let m := (chainNow s x).moved
    if ddRows d * ddLength d ≤ m then (s, .whole)
    else
      let p := lineAt d m
      if spacePaused s x (ddSpace d 0) p.1 false || spacePaused s x (ddSpace d 8) p.2.1 true then (s, .paused)
      else
        match chainRead (countBytes s (tileKey x.tile x.ctx) (2 * p.2.2)) x (ddSpace d 0) p.1 p.2.2 with
        | (s1, .error e) => (s1, .failed e)
        | (s1, .ok b) =>
          match putLine s1 x d p.1 p.2.1 p.2.2 b with
          | (s2, .error e) => (s2, .failed e)
          | (s2, .ok _) => moveLines x d n s2

/-! ## Outward effects of a paired primary (R378) -/

/-- Sends an operation to the Sync Fabric. -/
def sendSync (s : State) (op : SyncOp) : State :=
  { s with sync := { s.sync with waiting := s.sync.waiting ++ [op] } }

/-- Effects of an instance that are held now. -/
def heldOf (s : State) (w : InstanceId) : Nat := (s.bv.held.filter (fun h => h.inst == w)).length

/-- An instance ends with ST_ILLEGAL_INSTRUCTION where it stands (R378). -/
def instIllegal (s : State) (w : InstanceId) (c : CtxId) (pc : Nat) : State :=
  match findInst s w with
  | none => faultContext s c stIllegalInstruction (BitVec.ofNat 32 pc) none (some w.item)
  | some i => faultContext (stopInst s i) c stIllegalInstruction (BitVec.ofNat 32 pc) i.tile (some w.item)

/-- An outward sync effect of an instance: discarded for a golden run and a second copy (R180, R383), held
for a primary copy, at most 16 at a time (R378), else sent. -/
def outward (s : State) (w : InstanceId) (c : CtxId) (golden paired : Bool) (pc : Nat) (op : SyncOp) : State :=
  if golden ∨ w.second then s
  else if paired then
    if 16 ≤ heldOf s w then instIllegal s w c pc
    else { s with bv := { s.bv with held := s.bv.held ++ [⟨w, op⟩] } }
  else sendSync s op

/-- The item of a chain is PAIRED. -/
def chainPaired (s : State) (x : Chain) : Bool := ((findItem s x.inst.item).map (fun i => i.paired)).getD false

/-- A physical upset of the first source word or granule of a descriptor (R91, R224). -/
def upsetSource (s : State) (x : Chain) (d : List Byte) (n : Nat) : State :=
  if ddLength d == 0 || ddRows d == 0 then s
  else if ddSpace d 0 = 0 then upsetShelf s x.ctx x.inst.second (ddAddr d 0) n
  else
    let pa := peek s x.tile x.ctx (ddAddr d 0) false
    match placeOf pa with
    | .lpddr _ _ => upsetGranule s (pa / 32 * 32) n
    | _ => s

/-- A descriptor's move is over: its signal feeds the chain's signature, as a sync instruction's operation does (R375, R383),
and goes out, and NEXT is taken (R172). -/
def descriptorDone (s : State) (x : Chain) (d : List Byte) : State :=
  let s1 := modChain s x (fun y => { y with
    desc := none, moved := 0, old := [], count := y.count + 1,
    nextAddr := if ddNext d = 0xFFFFFFFF then none else some (BitVec.ofNat 32 (ddNext d)) })
  if ddSignal d then
    outward (foldChain s1 x (leBytes 4 1) (Config.busTag 4 (ddSync d))) x.inst x.ctx x.golden (chainPaired s1 x) x.pc.toNat ⟨false, BitVec.ofNat 16 (ddSync d), 1⟩
  else s1

/-- An access of the chain's instance has met a translation fault: its later accesses are abandoned (R231). -/
def chainBarred (s : State) (x : Chain) : Bool := ((findItem s x.inst.item).map (fun y => y.abandoned.contains x.inst)).getD false

/-- Goes on with the descriptor that the chain is moving. One that reaches the virtual space of an instance whose accesses
are abandoned moves nothing more, and the chain ends (R231; DEDUCED, log 137). -/
def runDescriptor (s : State) (x : Chain) (d : List Byte) : State :=
  if chainBarred s x && (ddSpace d 0 == 1 || ddSpace d 8 == 1) then endChain s x
  else
    match moveLines x d (ddRows d * (ddLength d / 64 + 2) + 1) s with
    | (s1, .failed e) => failChain s1 x e
    | (s1, .paused) => s1
    | (s1, .whole) => descriptorDone s1 x d

/-- DMA_DESCRIPTOR: the engine reaches the next descriptor of a chain, or goes on with one whose requests have paused
(R172 to R175). Nothing happens when no chain runs there or at its end. -/
def execDmaDescriptor (tl : TileId) (ch : Fin 16) (host : List Host.Cell) (upset : Nat) (s : State) :
    Host.Outcome State Fault Refusal :=
  .next (
    let s := hostWrites host s
    match s.tl.chains.find? (fun x => x.tile == tl && x.ch == ch) with
    | none => s
    | some x =>
      match x.desc, x.nextAddr with
      | some d, _ => runDescriptor s x d
      | none, none => s
      | none, some a =>
        match shelfReads s x.ctx x.inst.second a.toNat 64 with
        | .error e => failChain s x (.shelf e)
        | .ok d =>
          let s1 := shelfRead s x.ctx x.inst.second a.toNat 64
          if !descriptorOk s1 x.ctx d (x.count + 1) then badDescriptor s1 x
          else runDescriptor (modChain (upsetSource s1 x d upset) x (fun y => { y with desc := some d })) x d)

/-- A chain whose engine is reset, fenced or lost ends at once (R101). -/
def engineGone (s : State) (tl : TileId) : Bool := !tileIn s tl

/-- DMA_CHAIN_END: a chain past its last descriptor ends; one whose tile is gone ends with an error of its
item, whose DETAIL is the die (R58, R101). -/
def execDmaChainEnd (tl : TileId) (ch : Fin 16) (s : State) : Host.Outcome State Fault Refusal :=
  .next (
    match s.tl.chains.find? (fun x => x.tile == tl && x.ch == ch) with
    | none => s
    | some x =>
      if engineGone s tl then
        let s1 := dropChain s x
        if x.golden then goldenChainFail s1 x.inst
        else hardwareError (avoidTile s1 x.inst.item tl) x.inst.item stInputLost (BitVec.ofNat 32 (tileDie tl).val)
      else if x.nextAddr.isNone ∧ x.desc.isNone then endChain s x
      else s)

/-! ## COPY transfers (R42) -/

/-- SRC, DST and LENGTH of a COPY (R38). -/
def copySrc (d : List Byte) : Nat := field d 16 6
def copyDst (d : List Byte) : Nat := field d 22 6
def copyLen (d : List Byte) : Nat := field d 28 4

/-- Bytes of a COPY's next line: up to the end of a 64 B line of its source. -/
def copyLine (d : List Byte) (m : Nat) : Nat := min (copyLen d - m) (64 - (copySrc d + m) % 64)

/-- Moves the bytes of a COPY in increasing address order, line by line from where it stands, until it is done, its requests
pause or an access fails. -/
def copyLines (tl : TileId) (c : CtxId) (i : ItemId) (d : List Byte) : Nat → State → State × Move
  | 0, s => (s, .whole)
  | fuel + 1, s =>
    let m := ((findItem s i).map (fun x => x.copied)).getD (copyLen d)
    if copyLen d ≤ m then (s, .whole)
    else
      let k := copyLine d m
      if enginePaused s tl c (copySrc d + m) false || enginePaused s tl c (copyDst d + m) true then (s, .paused)
      else
        match vaReads tl c i 2 (countBytes s (tileKey tl c) (2 * k)) (copySrc d + m) k with
        | (s1, .error e) => (s1, .failed e)
        | (s1, .ok b) =>
          match vaWrites tl c i 2 s1 (copyDst d + m) b with
          | (s2, .error e) => (s2, .failed e)
          | (s2, .ok _) => copyLines tl c i d fuel (modItem s2 i (fun x => { x with copied := m + k }))

/-- COPY_TRANSFER_END: a COPY's transfer makes its accesses and the item is done, or stops at the first that fails. One
whose requests pause goes on at the next command; nothing happens while no transfer of the item runs. -/
def execCopyTransferEnd (i : ItemId) (host : List Host.Cell) (t : Nat) (s : State) : Host.Outcome State Fault Refusal :=
  .next (
    let s := atTime t (hostWrites host s)
    match findItem s i with
    | none => s
    | some x =>
      match x.engine with
      | none => s
      | some tl =>
        let c := dCtx x.desc
        let off (s : State) : State := modItem s i (fun y => { y with engine := none, copied := 0 })
        if engineGone s tl then
          hardwareError (avoidTile (off s) i tl) i stInputLost (BitVec.ofNat 32 (tileDie tl).val)
        else
          match copyLines tl c i x.desc (copyLen x.desc / 64 + 2) s with
          | (s1, .paused) => s1
          | (s1, .failed e) => transferFault (off s1) tl c i none none e
          | (s1, .whole) => if x.verdict.isSome then settle (off s1) i else completeItem (off s1) i stOk 0)

/-! ## Walks and invalidation -/

/-- The transfers that a context has on a tile's engine: a chain, or a COPY. -/
def transferOn (s : State) (tl : TileId) (c : CtxId) : Option (Chain ⊕ ItemId) :=
  match s.tl.chains.find? (fun x => x.tile == tl && x.ctx == c) with
  | some x => some (.inl x)
  | none =>
    (s.gh.items.find? (fun x => x.engine == some tl && itemNames x c)).map (fun x => .inr x.id)

/-- TRANSLATION_WALK: a miss of a transfer of the context on a tile walks the four levels (R228 to R231)
and fills the TLB, or ends the transfer. -/
def execTranslationWalk (tl : TileId) (c : CtxId) (va : Addr48) (write : Bool) (s : State) :
    Host.Outcome State Fault Refusal :=
  .next (
    match transferOn s tl c with
    | none => s
    | some w =>
      match translate s tl c va.toNat write with
      | (s1, .ok _) => s1
      | (s1, .error e) =>
        match w with
        | .inl x => failChain s1 x e
        | .inr i => transferFault (modItem s1 i (fun y => { y with engine := none, copied := 0 })) tl c i none none e)

/-- Drops a context's translations on every tile (R234). -/
def flushTlb (s : State) (c : CtxId) : State :=
  { s with tl := { s.tl with tiles := s.tl.tiles.map (fun e =>
      (e.1, { e.2 with tlb := e.2.tlb.filter (fun y => y.1 != c) })) } }

/-- Drops every translation into a range of device physical addresses, for every context (R237). -/
def flushRange (s : State) (pa n : Nat) : State :=
  { s with tl := { s.tl with tiles := s.tl.tiles.map (fun e =>
      (e.1, { e.2 with tlb := e.2.tlb.filter (fun y =>
        !(decide (y.2.2.2.1 < pa + n) && decide (pa < y.2.2.2.1 + 2 ^ y.2.2.1))) })) } }

/-- TU_INVAL: a write of the physical function; ignored while GO is 1 (R234). With GO set the
invalidation starts. -/
def execTuInval (f : FnId) (v : Word32) (s : State) : Host.Outcome State Fault Refusal :=
  .next (
    if f.val ≠ 0 ∨ s.ms.invalGo then s
    else { s with ms := { s.ms with invalCtx := v.setWidth 10, invalGo := v.getLsbD 31 } })

/-- TU_INVAL_DONE: every unit has dropped the context's entries and GO returns to 0 (R234). -/
def execTuInvalDone (s : State) : Host.Outcome State Fault Refusal :=
  .next (
    if s.ms.invalGo then
      let s1 := flushTlb s (ctxId s.ms.invalCtx.toNat)
      { s1 with ms := { s1.ms with invalGo := false } }
    else s)

end Sys2Proof.Machine
end

