-- ==== Sys2Proof/Machine/Shelves.lean ====
section
/-! DEFINITION. Binding and releasing shelves (R86 to R90, R170, R373) and the DMA chains' list. -/

namespace Sys2Proof.Machine

/-- The first free shelf of the class along a list of tiles, in increasing local number (R87). -/
def firstFree (s : State) (c : Class) : List TileId → Option Nat
  | [] => none
  | t :: r =>
    match freeShelves s c t with
    | p :: _ => some p
    | [] => firstFree s c r

/-- The lowest context shelf index that is not bound (R88). -/
def lowestIndex (s : State) (c : CtxId) : Nat :=
  ((List.range 65536).find? (fun i => (boundShelf s c false i).isNone)).getD 0

/-- The tile of a physical shelf. -/
def shelfTile (phys : Nat) : TileId := tileId (phys / 256)

/-- Tiles from which a shadow shelf is taken: nearest order from the tile with the same local index on die
(d + 1) mod 4, die d skipped (R373). -/
def shadowScan (s : State) (phys : Nat) : List TileId :=
  let t := shelfTile phys
  let d := tileDie t
  (nearest s (tileOn (d + 1) (tileLocal t))).filter (fun u => tileDie u != d)

/-- Binds a physical shelf at an index of the primary or the shadow set. -/
def bindAt (s : State) (c : CtxId) (second : Bool) (idx phys : Nat) : State :=
  let s1 := setShelf s phys (.bound c idx second)
  if second then modCtx s1 c (fun x => { x with shadow := tabPut x.shadow idx phys })
  else modCtx s1 c (fun x => { x with map := tabPut x.map idx phys })

/-- Binds one shelf at an index for both sets (R88, R373); `none` when a set finds no free shelf. -/
def bindBoth (s : State) (c : CtxId) (idx : Nat) (order : List TileId) : Option State :=
  match firstFree s (ctxOf s c).cls order with
  | none => none
  | some p =>
    let s1 := bindAt s c false idx p
    if !(ctxOf s c).shadow.isEmpty then
      match firstFree s1 (ctxOf s c).cls (shadowScan s1 p) with
      | none => none
      | some q => some (bindAt s1 c true idx q)
    else some s1

/-- Scrubs a physical shelf to zero (R90). -/
def scrubShelf (s : State) (phys : Nat) : State :=
  let a := shelfBase phys
  { wordsWritten s a 65536 with mem := memClear s.mem a (a + 65536) }

/-- Frees a physical shelf after its scrub; a fenced one stays fenced. -/
def freeShelf (s : State) (phys : Nat) : State :=
  let s1 := scrubShelf s phys
  match shelfUse s1 phys with
  | .fenced => s1
  | _ => setShelf s1 phys .free

/-- Releases one index of both sets (R170, R373). -/
def releaseIndex (s : State) (c : CtxId) (idx : Nat) : State :=
  let s1 := match boundShelf s c false idx with
    | some p => freeShelf s p
    | none => s
  let s2 := match boundShelf s c true idx with
    | some p => freeShelf s1 p
    | none => s1
  modCtx s2 c (fun x => { x with map := tabDel x.map idx, shadow := tabDel x.shadow idx })

/-- Releases every shelf of a context (R63 step 4). -/
def releaseAll (s : State) (c : CtxId) : State :=
  let x := ctxOf s c
  let s1 := (x.map ++ x.shadow).foldl (fun s e => freeShelf s e.2) s
  modCtx s1 c (fun x => { x with map := [], shadow := [], shadowed := false })

/-- Copies the primary shelf's contents into the shadow shelf (R373): the read's corrected errors are counted. -/
def copyShelf (s : State) (p q : Nat) : State :=
  let s := noteSoft s [(shelfBase p, 65536)]
  let blank := memClear s.mem (shelfBase q) (shelfBase q + 65536)
  { wordsWritten s (shelfBase q) 65536 with mem := memWrites blank (shelfBase q) (memReads s.mem (shelfBase p) 65536) }

end Sys2Proof.Machine
end

