-- ==== Sys2Proof/Machine/Flags.lean ====
section
/-! DEFINITION. Conditions and predicates: COND of R160, the vector conditions of R204, the lane mask of
R201. The part has no flags register: no scalar operation sets a flag (R164). -/

namespace Sys2Proof.Machine

/-- Whether a COND of R160 holds for two s values. -/
def condHolds (c : Nat) (x y : Word64) : Bool :=
  if c = 0 then x == y
  else if c = 1 then x != y
  else if c = 2 then x.slt y
  else if c = 3 then !x.slt y
  else if c = 4 then x.ult y
  else if c = 5 then !x.ult y
  else c == 6

/-- Whether a condition of R204 holds for a comparison result; a NaN operand makes only `ne` true. -/
def vcondHolds (c : Nat) (nan : Bool) (cmp : Int) : Bool :=
  if nan then c == 1
  else if c = 0 then cmp == 0
  else if c = 1 then cmp != 0
  else if c = 2 then decide (cmp < 0)
  else if c = 3 then decide (cmp ≤ 0)
  else if c = 4 then decide (0 < cmp)
  else decide (0 ≤ cmp)

/-- The enabled lanes of a vector word (R201). -/
def laneMask (x : Tile) (w : Nat) : Word32 :=
  if fPE w then (if fPN w then ~~~ (pReg x (fPR w)) else pReg x (fPR w)) else 0xFFFFFFFF

/-- The number of ones. -/
def popcount (m : Word32) : Nat := ((List.range 32).filter (fun i => m.getLsbD i)).length

end Sys2Proof.Machine
end

