-- ==== Sys2Proof/Machine/Tensor.lean ====
section
/-! DEFINITION. The tensor class (R122, R129 to R139, R187 to R199): stationary sets, accumulation with
checksums, drains and checks. -/

namespace Sys2Proof.Machine

/-! ## Stationary sets (R188) -/

/-- K and N of a weight format. -/
def weightShape (f : Nat) : Nat × Nat :=
  if f = 1 ∨ f = 8 ∨ f = 10 then (64, 64) else if f = 11 ∨ f = 12 then (32, 32) else (32, 64)

/-- A table of bytes written out. -/
def dense (d : Byte) (t : Tab Byte) (n : Nat) : List Byte := (List.range n).map (tabGet d t)

/-- An element under a format: with its block scale where the format has one. -/
def element (f : Nat) (scale : Byte) (code : Nat) : Real :=
  if isMx f then scaleValue scale (elemValue f code) else elemValue f code

/-- W[k][n] of a set, as K rows of N values (R188). -/
def weightRows (w : Weights) : List (List Real) :=
  let f := w.format.toNat
  let (kk, nn) := weightShape f
  let b := dense 0 w.bytes 2048
  (List.range kk).map (fun k => (List.range nn).map (fun n =>
    element f (tabGet 0x7F w.scales (if kk = 64 then 2 * n + k / 32 else n)) (elemAt f b (k * nn + n))))

/-- Columns of a list of rows. -/
def columnsOf (nn : Nat) (rows : List (List Real)) : List (List Real) :=
  (List.range nn).map (fun n => rows.map (fun r => r.getD n (.fin false 0 0)))

/-! ## Accumulation (R129, R130) -/

/-- Groups of 32 consecutive elements. -/
def groups32 : Nat → List Real → List (List Real)
  | 0, _ => []
  | n + 1, l => if l.isEmpty then [] else l.take 32 :: groups32 n (l.drop 32)

/-- Exact sum of values. -/
def realSum (l : List Real) : Real := l.foldl Real.add (.fin false 0 0)

/-- The whole number that an integer-format value is. -/
def realInt : Real → Int
  | .fin n m e => let v : Int := (m * 2 ^ e.toNat : Nat); if n then -v else v
  | _ => 0

/-- An FP32 code's value. -/
def real32 (w : Word32) : Real := fdecode fmtFP32 w.toNat

/-- Adds terms in reduction order into an accumulator: integers modulo 2³² (R129), floating values by
groups with one rounding each (R130). -/
def accumulate (flt : Bool) (a : Word32) (terms : List Real) : Word32 :=
  if flt then
    (groups32 (terms.length / 32 + 1) terms).foldl (fun a g =>
      BitVec.ofNat 32 (fround fmtFP32 false ((real32 a).add (realSum g)))) a
  else BitVec.ofInt 32 (a.toInt + (terms.map realInt).sum)

/-- Products of two value lists. -/
def products (x w : List Real) : List Real := (x.zip w).map (fun p => p.1.mul p.2)

def Real.abs : Real → Real
  | .nan => .nan
  | .inf _ => .inf false
  | .fin _ m e => .fin false m e

/-- A value as a whole number of 2⁻¹⁵⁰ (floating kinds) or of 1; NaN and infinities as 0. -/
def fixedOf (flt : Bool) : Real → Int
  | .fin n m e =>
    let v : Int := (m * 2 ^ (if flt then e + 150 else e).toNat : Nat)
    if n then -v else v
  | _ => 0

/-- The value of such a number. -/
def ofFixed (flt : Bool) (v : Int) : Real := .fin (decide (v < 0)) v.natAbs (if flt then -150 else 0)

/-- Sets several entries of a table whose default is 0. -/
def putAll (t : Tab Word32) (l : List (Nat × Word32)) : Tab Word32 :=
  l.foldl (fun t e => tabSet 0 t e.1 e.2) t

/-- Adds to the entries of a table of integers. -/
def addAll (t : Tab Int) (l : List (Nat × Int)) : Tab Int :=
  l.foldl (fun t e => tabSet 0 t e.1 (tabGet 0 t e.1 + e.2)) t

/-- The checksum row acts on a bank: r · W into COL_CHK, q · |W| into COL_ABS; r and q are cleared
(R134). -/
def foldBank (w : Weights) (b : Bank) : Bank :=
  if b.r.isEmpty && b.q.isEmpty then b
  else
    match b.mode with
    | none => b
    | some (flt, _) =>
      let rows := weightRows w
      let kk := rows.length
      let nn := (weightShape w.format.toNat).2
      let cols := columnsOf nn rows
      let r := (List.range kk).map (fun k => ofFixed flt (tabGet 0 b.r k))
      let q := (List.range kk).map (fun k => ofFixed flt (tabGet 0 b.q k))
      { b with
        colChk := putAll b.colChk (cols.zipIdx.map (fun c =>
          (c.2, accumulate flt (tabGet 0 b.colChk c.2) (products r c.1)))),
        colAbs := if flt then putAll b.colAbs (cols.zipIdx.map (fun c =>
          (c.2, accumulate flt (tabGet 0 b.colAbs c.2) (products q (c.1.map Real.abs))))) else b.colAbs,
        r := [], q := [] }

/-- The checksum row acts on every bank before a set is replaced (R134). -/
def foldAll (t : Tensor) : Tensor :=
  { t with banks := t.banks.map (fun e => (e.1, foldBank t.active e.2)) }

/-- The shadow set becomes active (R190). -/
def activateOne (t : Tensor) : Tensor :=
  match t.shadow with
  | none => t
  | some w => { foldAll t with active := w, shadow := none }

def bankOf (t : Tensor) (i : Nat) : Bank := tabGet bankReset t.banks i

def setBank (t : Tensor) (i : Nat) (b : Bank) : Tensor := { t with banks := tabPut t.banks i b }

/-- Floating kind of a weight format: integer for INT8 and INT4 only (R194). -/
def floatKind (f : Nat) : Bool := !isInt f

/-- The pairs of R122. -/
def pairOk (w x : Nat) : Bool :=
  if isInt w && isInt x then true
  else if isInt w || isInt x then false
  else if w ≤ 10 ∧ x ≤ 10 then true
  else w == x

/-- One streamed row into row `m` of a bank (R192), with its checksums (R134, R138). -/
def streamRow (rows : List (List Real)) (nn : Nat) (flt : Bool) (b : Bank) (m : Nat) (x : List Real) : Bank :=
  let cols := columnsOf nn rows
  let c := rows.map realSum
  let a := rows.map (fun r => realSum (r.map Real.abs))
  let xs := x.any Real.special
  let ws := rows.any (fun r => r.any Real.special)
  { b with
    acc := putAll b.acc (cols.zipIdx.map (fun e =>
      (m * 64 + e.2, accumulate flt (tabGet 0 b.acc (m * 64 + e.2)) (products x e.1)))),
    rowChk := putAll b.rowChk [(m, accumulate flt (tabGet 0 b.rowChk m) (products x c))],
    rowAbs := if flt then putAll b.rowAbs [(m, accumulate flt (tabGet 0 b.rowAbs m) (products (x.map Real.abs) a))]
      else b.rowAbs,
    r := addAll b.r (x.zipIdx.map (fun e => (e.2, fixedOf flt e.1))),
    q := if flt then addAll b.q (x.zipIdx.map (fun e => (e.2, fixedOf flt e.1.abs))) else b.q,
    rowSpecial := if xs || ws then b.rowSpecial ||| BitVec.ofNat 32 (2 ^ m) else b.rowSpecial,
    colSpecial := b.colSpecial ||| BitVec.ofNat 64
      ((cols.zipIdx.map (fun e => if xs || e.1.any Real.special then 2 ^ e.2 else 0)).sum) }

/-! ## Checks (R135 to R139) -/

/-- Outcome of one comparison: passed, skipped or failed. -/
inductive Verdict where
  | pass | skip | fail
  deriving DecidableEq, Repr

/-- One row or column (R136 to R138). -/
def checkLine (flt special : Bool) (k : Nat) (entries : List Word32) (chk total : Word32) : Verdict :=
  if flt then
    let sum := realSum (entries.map real32)
    let c := real32 chk
    let t := real32 total
    if special || sum.special || c.special || t.special then .skip
    else if Real.cmp ((sum.add c.negate).abs) ((Real.fin false k (-31)).mul t) ≤ 0 then .pass
    else .fail
  else if BitVec.ofInt 32 ((entries.map (fun e => e.toInt)).sum) = chk then .pass
  else .fail

/-- The verdicts of the 32 rows and 64 columns of a bank of a kind whose r and q are folded. -/
def checkBank (flt : Bool) (b : Bank) (k : Nat) : List Verdict × List Verdict :=
  ((List.range 32).map (fun m => checkLine flt (b.rowSpecial.getLsbD m) k
      ((List.range 64).map (fun n => tabGet 0 b.acc (m * 64 + n))) (tabGet 0 b.rowChk m) (tabGet 0 b.rowAbs m)),
   (List.range 64).map (fun n => checkLine flt (b.colSpecial.getLsbD n) k
      ((List.range 32).map (fun m => tabGet 0 b.acc (m * 64 + n))) (tabGet 0 b.colChk n) (tabGet 0 b.colAbs n)))

/-- The check registers after a bank's check (R135, R138, R146). -/
def checkRecord (c : Checks) (bank : Nat) (flt : Bool) (v : List Verdict × List Verdict) : Checks × Bool :=
  let skips := ((v.1 ++ v.2).filter (fun x => x == .skip)).length
  let row := v.1.findIdx? (fun x => x == .fail)
  let col := v.2.findIdx? (fun x => x == .fail)
  let c := { c with skip := satAdd c.skip skips }
  if row.isNone && col.isNone then ({ c with pass := satInc c.pass }, true)
  else
    let low := bank + row.getD 0 * 4 + b2n row.isSome * 128 + col.getD 0 * 256 + b2n col.isSome * 16384
    ({ c with
        checksum := satInc c.checksum, lastFormat := if flt then 0xD else 0xE, lastUnit := false,
        whereReg := BitVec.ofNat 32 (c.whereReg.toNat / 32768 * 32768 + low) }, false)

/-! ## Draining (R196, R197) -/

/-- FMT values that a bank kind allows. -/
def drainFmtOk (flt : Bool) (f : Nat) : Bool :=
  if flt then (decide (2 ≤ f) && decide (f ≤ 13)) else (f == 14 || f == 0 || f == 1 || f == 13)

/-- Pieces of 32 of a list. -/
def blocks32 : Nat → List Real → List (List Real)
  | 0, _ => []
  | n + 1, l => if l.isEmpty then [] else l.take 32 :: blocks32 n (l.drop 32)

/-- One bank row of `nn` entries converted to a format: element bytes, scale bytes, saturations. -/
def drainRow (flt : Bool) (f : Nat) (rtz nonSat : Bool) (control : Word64) (entries : List Word32) :
    List Byte × List Byte × Nat :=
  if f = 14 then (entries.flatMap (fun e => leBytes 4 e.toNat), [], 0)
  else if !flt ∧ (f = 0 ∨ f = 1) then
    let rs := entries.map (fun e =>
      requantise f rtz e.toInt (signedOf 32 control.toNat) (bits control.toNat 37 32))
    (packElems f (rs.map (fun r => r.1)), [], (rs.filter (fun r => r.2)).length)
  else
    let vs := entries.map (fun e => if flt then real32 e else realOfInt e.toInt)
    if isMx f then
      let bs := (blocks32 (vs.length / 32 + 1) vs).map (mxBlock f rtz nonSat)
      (bs.flatMap (fun b => packElems f b.2.1), bs.map (fun b => b.1), (bs.map (fun b => b.2.2)).sum)
    else
      let rs := vs.map (elemConvert f rtz nonSat)
      (packElems f (rs.map (fun r => r.1)), [], (rs.filter (fun r => r.2)).length)

/-- A bank as a drain sees it: a clear bank takes the kind and width of the active set (R194). -/
def bankMode (t : Tensor) (b : Bank) : Bool × Nat :=
  match b.mode with
  | some (flt, wide) => (flt, if wide then 64 else 32)
  | none => (floatKind t.active.format.toNat, (weightShape t.active.format.toNat).2)

/-- Flips one bit of an accumulator entry. -/
def flipBank (b : Bank) (u : BitFlip) : Bank :=
  let k := u.row.val * 64 + u.col.val
  { b with acc := tabSet 0 b.acc k (tabGet 0 b.acc k ^^^ BitVec.ofNat 32 (2 ^ u.bit.val)) }

/-- A drain's converted bank: all element bytes, all scale bytes, saturations. -/
def drainBytes (flt : Bool) (nn : Nat) (d : Drain) (b : Bank) : List Byte × List Byte × Nat :=
  let rs := (List.range 32).map (fun m =>
    drainRow flt (fFMT d.word) (fRND d.word) (fSATN d.word) d.control
      ((List.range nn).map (fun n => tabGet 0 b.acc (m * 64 + n))))
  (rs.flatMap (fun r => r.1), rs.flatMap (fun r => r.2.1), (rs.map (fun r => r.2.2)).sum)

/-- TI_CHECK_FAIL and TI_CHECK_WHERE after a residue or parity failure of a lane and engine (R146). -/
def laneRecord (c : Checks) (l : Fin 32) (eng : Nat) : Checks :=
  { c with
    residue := satInc c.residue, lastUnit := true,
    whereReg := BitVec.ofNat 32 (c.whereReg.toNat % 32768 + l.val * 65536 + eng * 2097152 + 4194304) }

/-- What a drain that fails leaves of a lane's failure in the same clock cycle: the checksum mismatch takes precedence,
and both counts advance (R145). -/
def bothFail (c : Checks) : Option (Fin 32 × Fin 2) → Checks
  | none => c
  | some (l, e) => { laneRecord c l e.val with lastUnit := false }

/-- The pending drain or check reaches its verdict (R135, R139, R144, R197), a physical upset of one
accumulator bit before it, and perhaps a vector lane's failed check in the same clock cycle (R145). -/
def resolveDrain (s : State) (tl : TileId) (upset : Option BitFlip) (lane : Option (Fin 32 × Fin 2)) : State :=
  let x := tileOf s tl
  match x.tensor.drain, x.inst with
  | some d, some w =>
    let z := siteOf s tl w d.pc d.word
    let (flt, nn) := bankMode x.tensor (bankOf x.tensor d.bank.val)
    let b0 := foldBank x.tensor.active (bankOf x.tensor d.bank.val)
    let b := match upset with
      | some u => flipBank b0 u
      | none => b0
    let nocheck := !d.only && bit (fFUNC d.word) 0 && (ctxOf s x.ctx).cls == .qm
    let (checks, ok) := if nocheck then (x.checks, true)
      else checkRecord x.checks d.bank.val flt (checkBank flt b (ctxOf s x.ctx).checkK.toNat)
    let t1 := { setBank x.tensor d.bank.val b with drain := none }
    if !ok then checkFail (setTile s tl { x with tensor := t1 }) tl (bothFail checks lane) stChecksumMismatch
    else if d.only then setTile s tl { x with tensor := t1, checks := checks }
    else
      let (data, scales, sat) := drainBytes flt nn d b
      let t2 := if bit (fFUNC d.word) 1 then t1 else setBank t1 d.bank.val bankReset
      let s1 := setTile s tl { x with tensor := t2, checks := { checks with sat := satAdd checks.sat sat } }
      withShelf s1 z (siteChunks z 1 128 (data.length / 128 + 1) s1 d.dest data) (fun s2 =>
        withShelf s2 z (siteChunks z 1 128 (scales.length / 128 + 1) s2 d.scale scales) (fun s3 =>
          census s3 z 7 (fFMT d.word) (32 * nn)))
  | _, _ => s

/-- A lane check that fails in the clock cycle of another check ends the instance where that one has not (R144, R145). -/
def laneToo (s : State) (tl : TileId) (w : Option InstanceId) (lane : Option (Fin 32 × Fin 2)) : State :=
  match lane, w with
  | some (l, e), some w =>
    if (tileOf s tl).inst = some w ∧ (tileOf s tl).leaving.isNone then
      checkFail s tl (laneRecord (tileOf s tl).checks l e.val) stResidueMismatch
    else s
  | _, _ => s

/-- Whether the instance still runs on its tile. -/
def stillOn (s : State) (z : Site) : Bool := (tileOf s z.tl).inst == some z.inst && (tileOf s z.tl).state == .running

/-- Continues once the pending drain has its verdict, if the instance survives it. -/
def afterDrain (s : State) (z : Site) (k : State → State) : State :=
  let s1 := resolveDrain s z.tl none none
  if stillOn s1 z then k s1 else s1

/-- Continues once a pending check, and the pending drain of a bank, have their verdict: the queue runs in order, but for
the drain unit (R195, R198). -/
def afterBank (s : State) (z : Site) (bank : Nat) (k : State → State) : State :=
  match (tileOf s z.tl).tensor.drain with
  | some d => if d.bank.val = bank ∨ d.only then afterDrain s z k else k s
  | none => k s

/-- Continues once a pending check has its verdict (R195, R198). -/
def afterCheck (s : State) (z : Site) (k : State → State) : State :=
  match (tileOf s z.tl).tensor.drain with
  | some d => if d.only then afterDrain s z k else k s
  | none => k s

/-- Changes the Tensor Array of a tile. -/
def modTensor (s : State) (tl : TileId) (f : Tensor → Tensor) : State :=
  modTile s tl (fun x => { x with tensor := f x.tensor })

/-- The read of the earliest set that is not yet active: only a drain is ahead of it (R190, R195). -/
def setRead (s : State) (z : Site) (a n : Nat) (k : State → List Byte → State) : State :=
  match siteReads s z a n with
  | .ok b => k (shelfRead s z.ctx z.inst.second a n) b
  | .error e => afterDrain s z (fun s => shelfFault s z e)

/-- Scale bytes of a set read at an address: 64 or 128 (R190). -/
def scaleTable (l : List Byte) : Tab Byte := sparseBytes 0x7F l

/-- Reads the scale register at an address for an MX weight format; another format has none (R190, R191). -/
def scalesAt (s : State) (z : Site) (a : Nat) (k : State → List Byte → State) : State :=
  let f := fFMT z.w
  if isMx f then setRead s z a (if (weightShape f).1 = 64 then 128 else 64) k else k s []

/-- Fetches the shadow set of a `tldw` (R190). -/
def fetchShadow (s : State) (z : Site) (a p : Nat) : State :=
  setRead s z a 2048 (fun s b =>
    scalesAt s z p (fun s sc =>
      let set : Weights := { bytes := sparseBytes 0 b, format := BitVec.ofNat 4 (fFMT z.w), scales := scaleTable sc }
      modTensor s z.tl (fun t => { t with shadow := some set })))

/-- The shadow set becomes active, and the fetch that waits for it starts (R190). -/
def activateShadow (s : State) (tl : TileId) : State :=
  let x := tileOf s tl
  match x.inst with
  | none => s
  | some w =>
    if x.leaving.isSome ∨ x.tensor.shadow.isNone then s
    else
      match x.tensor.fetches with
      | [] => modTensor s tl activateOne
      | d :: r =>
        fetchShadow (modTensor s tl (fun t => { activateOne t with fetches := r })) (siteOf s tl w d.pc d.word) d.addr d.scales

/-- Every set loaded ahead of a tensor instruction becomes active in turn (R190). -/
def activateAll (s : State) (tl : TileId) : State :=
  (List.range ((tileOf s tl).tensor.fetches.length + 1)).foldl (fun a _ => activateShadow a tl) s

/-- Continues with the sets ahead of an instruction active, if the instance survives their fetches. -/
def afterSets (s : State) (z : Site) (k : State → State) : State :=
  let s1 := activateAll s z.tl
  if stillOn s1 z then k s1 else s1

/-- Continues with the sets that wait for their fetch loaded, if there are any and the instance survives it. -/
def afterFetches (s : State) (z : Site) (k : State → State) : State :=
  if (tileOf s z.tl).tensor.fetches.isEmpty then k s else afterSets s z k

/-- Continues once every engine instruction ahead has completed, if the instance survives them (R187). -/
def afterAhead (s : State) (z : Site) (k : State → State) : State := afterDrain s z (fun s => afterFetches s z k)

/-- Continues with what an engine instruction's shelf access gave; a failed one ends the instance once the engine
instructions ahead of it have completed (R187). -/
def withEngine {α : Type} (s : State) (z : Site) (r : Except ShelfErr α) (k : α → State) : State :=
  match r with
  | .ok x => k x
  | .error e => afterAhead s z (fun s => shelfFault s z e)

/-- An engine instruction's read of a shelf range. -/
def engineRead (s : State) (z : Site) (a n : Nat) (k : State → List Byte → State) : State :=
  withEngine s z (siteReads s z a n) (fun b => k (shelfRead s z.ctx z.inst.second a n) b)

/-- An engine instruction that fails its check: those ahead of it complete, then the instance ends with
ST_ILLEGAL_INSTRUCTION (R187). -/
def illegalEngine (s : State) (z : Site) : State := afterAhead s z (fun s => illegal s z)

/-- An engine address under R148 and its alignment (R187). -/
def engineAddr (s : State) (z : Site) (r : Nat) (align : Nat) (k : Nat → State) : State :=
  let ea := (aReg (tileOf s z.tl) r).toNat
  if 2 ^ 32 ≤ ea ∨ ea % align ≠ 0 then afterAhead s z (fun s => addressFault s z (ea % 2 ^ 32)) else k ea

/-- The address of the scale register, where the format has one. -/
def scalesAddr (s : State) (z : Site) (k : Nat → State) : State :=
  if isMx (fFMT z.w) then engineAddr s z (fRS2 z.w) 64 k else k 0

/-- `tldw`: the shadow set is fetched, or waits for its fetch until the set of the `tldw` before it has become active
(R190). -/
def execInstrTldw (tl : TileId) (clk : Nat) (s : State) : Host.Outcome State Fault Refusal :=
  .next (issue s tl clk 0x80 (fun s z =>
    engineAddr s z (fRS1 z.w) 64 (fun a =>
      scalesAddr s z (fun p =>
        if (tileOf s tl).tensor.shadow.isSome then
          modTensor s tl (fun t => { t with fetches := t.fetches ++ [⟨z.w, z.pc, a, p⟩] })
        else fetchShadow s z a p))))

/-- SHADOW_ACTIVATE: the shadow set becomes active (R190). -/
def execShadowActivate (tl : TileId) (s : State) : Host.Outcome State Fault Refusal :=
  .next (activateShadow s tl)

/-- `twfmt`: the active set takes a format and scales; the checksum row acts first (R191). -/
def execInstrTwfmt (tl : TileId) (clk : Nat) (s : State) : Host.Outcome State Fault Refusal :=
  .next (issue s tl clk 0x81 (fun s z =>
    afterCheck s z (fun s => afterSets s z (fun s =>
      scalesAddr s z (fun p =>
        scalesAt s z p (fun s sc =>
          modTensor s tl (fun t =>
            let set : Weights := { t.active with format := BitVec.ofNat 4 (fFMT z.w), scales := scaleTable sc }
            { foldAll t with active := set })))))))

/-- Rows of the stream as values: `kk` elements each, with their MX scales. -/
def streamValues (f kk rows : Nat) (data scales : List Byte) : List (List Real) :=
  (List.range rows).map (fun j => (List.range kk).map (fun k =>
    element f (scales.getD (j * (kk / 32) + k / 32) 0x7F)
      (elemAt f (slice data (j * (kk * fmtBits f / 8)) (kk * fmtBits f / 8)) k)))

/-- `tmac`: streams ROWS rows into a bank (R192 to R194). -/
def execInstrTmac (tl : TileId) (clk : Nat) (s : State) : Host.Outcome State Fault Refusal :=
  .next (issue s tl clk 0x82 (fun s z =>
    let f := fFMT z.w
    let bank := fRD z.w % 4
    afterBank s z bank (fun s => afterSets s z (fun s =>
      let x := tileOf s tl
      let ctl := (sReg x (fRS2 z.w)).toNat
      let rows := bits ctl 5 0
      let first := bits ctl 12 8
      let wf := x.tensor.active.format.toNat
      let (kk, nn) := weightShape wf
      let flt := floatKind wf
      let b := bankOf x.tensor bank
      if rows = 0 then s
      else if 32 < rows ∨ 32 < first + rows ∨ !pairOk wf f ∨ (b.mode.isSome ∧ b.mode ≠ some (flt, nn == 64)) then
        illegalEngine s z
      else
        engineAddr s z (fRS1 z.w) (if isMx f then 64 else 1) (fun a =>
          engineRead s z a (rows * (kk * fmtBits f / 8)) (fun s data =>
            let run (s : State) (scales : List Byte) : State :=
              let w := weightRows x.tensor.active
              let b1 := (streamValues f kk rows data scales).zipIdx.foldl (fun b e =>
                streamRow w nn flt b (first + e.2) e.1) { b with mode := some (flt, nn == 64) }
              census (modTensor s tl (fun t => setBank t bank b1)) z 0 f (rows * kk * nn)
            if isMx f then
              engineAddr s z (fRS3 z.w) 64 (fun p => engineRead s z p (rows * (kk / 32)) run)
            else run s []))))))

/-- `tclr`: a bank becomes clear (R194). -/
def execInstrTclr (tl : TileId) (clk : Nat) (s : State) : Host.Outcome State Fault Refusal :=
  .next (issue s tl clk 0x83 (fun s z =>
    afterBank s z (fRS1 z.w % 4) (fun s => afterFetches s z (fun s =>
      modTensor s tl (fun t => setBank t (fRS1 z.w % 4) bankReset)))))

/-- The first address of a range that is not bound faults the instance (R187). -/
def boundOr (s : State) (z : Site) (a n : Nat) (k : State) : State :=
  match firstUnbound s z.ctx z.inst.second a n with
  | some u => afterAhead s z (fun s => addressFault s z u)
  | none => k

/-- `tdrain`: the bank's writes are held until the verdict (R196, R197). The drain unit takes one drain
at a time. -/
def execInstrTdrain (tl : TileId) (clk : Nat) (s : State) : Host.Outcome State Fault Refusal :=
  .next (issue s tl clk 0x84 (fun s z =>
    afterDrain s z (fun s => afterSets s z (fun s =>
      let x := tileOf s tl
      let f := fFMT z.w
      let bank := fRS1 z.w % 4
      let (flt, nn) := bankMode x.tensor (bankOf x.tensor bank)
      if !drainFmtOk flt f then illegal s z
      else
        engineAddr s z (fRD z.w) 64 (fun dest =>
          boundOr s z dest (32 * (nn * fmtBits f / 8))
            (let hold (scale : Nat) : State :=
               let d : Drain := { bank := Fin.ofNat 4 bank, only := false, word := z.w, pc := z.pc, dest := dest,
                                  scale := scale, control := sReg x (fRS2 z.w) }
               let s1 := modTensor s tl (fun t => { t with drain := some d })
               -- a clear bank's kind is that of the set now active (R194)
               if (bankOf x.tensor bank).mode.isNone then resolveDrain s1 tl none none else s1
             if isMx f then
               engineAddr s z (fRS3 z.w) 64 (fun p => boundOr s z p (nn / 32 * 32) (hold p))
             else hold 0))))))

/-- `tchk`: a bank's check without a drain (R198); its verdict follows as a drain's does. -/
def execInstrTchk (tl : TileId) (clk : Nat) (s : State) : Host.Outcome State Fault Refusal :=
  .next (issue s tl clk 0x85 (fun s z =>
    afterDrain s z (fun s => afterSets s z (fun s =>
      let d : Drain := { bank := Fin.ofNat 4 (fRS1 z.w % 4), only := true, word := z.w, pc := z.pc, dest := 0,
                         scale := 0, control := 0 }
      modTensor s tl (fun t => { t with drain := some d })))))

/-- DRAIN_VERDICT: the verdict of the pending drain or check (R135), with a failed lane check of the same clock cycle
(R145). -/
def execDrainVerdict (tl : TileId) (bad : DrainFault) (s : State) : Host.Outcome State Fault Refusal :=
  .next (laneToo (resolveDrain s tl bad.flip bad.lane) tl (tileOf s tl).inst bad.lane)

/-- `trow`: 32 raw entries of a bank row into a v register (R199). -/
def execInstrTrow (tl : TileId) (clk : Nat) (s : State) : Host.Outcome State Fault Refusal :=
  .next (issue s tl clk 0x86 (fun s z =>
    afterBank s z (fRS1 z.w % 4) (fun s => afterFetches s z (fun s =>
      let x := tileOf s tl
      let b := bankOf x.tensor (fRS1 z.w % 4)
      let row := (sReg x (fRS2 z.w)).toNat % 32
      let half := if bit (fFUNC z.w) 0 then 32 else 0
      putV s z 1 (fRD z.w) (Vector.ofFn (fun i => tabGet 0 b.acc (row * 64 + half + i.val)))))))

end Sys2Proof.Machine
end

