-- ==== Sys2Proof/Machine/Vector.lean ====
section
/-! DEFINITION. The vector class (R141 to R143, R200 to R209). -/

namespace Sys2Proof.Machine

/-! ## Lanes -/

/-- The engine that a vector word names (R200). -/
def engOf (w : Nat) : Nat := if bit (fFUNC w) 8 then 1 else 0

/-- Its output bus (R375). -/
def vbus (z : Site) : Nat := 2 + engOf z.w

/-- The floating format of a lane format code. -/
def laneFmt (f : Nat) : FloatFmt := if f = 11 then fmtBF16 else if f = 12 then fmtFP16 else fmtFP32

/-- Lane formats that hold two elements (R200). -/
def packed (f : Nat) : Bool := f == 11 || f == 12

/-- Applies an operation on element codes to a lane, half by half where packed. -/
def onLane (f : Nat) (g : Nat → Nat → Nat → Nat) (x y z : Word32) : Word32 :=
  if packed f then
    BitVec.ofNat 32 (g (x.toNat % 65536) (y.toNat % 65536) (z.toNat % 65536) +
      g (x.toNat / 65536) (y.toNat / 65536) (z.toNat / 65536) * 65536)
  else BitVec.ofNat 32 (g x.toNat y.toNat z.toNat)

/-- The destination register after the enabled lanes take new values (R201). -/
def mergeLanes (m : Word32) (old : Vector Word32 32) (f : Nat → Word32) : Vector Word32 32 :=
  Vector.ofFn (fun i => if m.getLsbD i.val then f i.val else lane old i.val)

/-- A lane's result under a physical upset that no check has caught. -/
def upsetLane (z : Site) (i : Nat) (r : Word32) : Word32 :=
  match z.upset with
  | some e => if e.lane.val = i then r ^^^ e.flips.setWidth 32 else r
  | none => r

/-- Writes the enabled lanes of vRD. -/
def writeLanes (s : State) (z : Site) (f : Nat → Word32) : State :=
  let x := tileOf s z.tl
  let m := laneMask x z.w
  putLanes s z (vbus z) (fRD z.w) m (mergeLanes m (vReg x (fRD z.w)) (fun i => upsetLane z i (f i)))

/-- Elements of the enabled lanes under a lane format. -/
def laneElems (s : State) (z : Site) (f : Nat) : Nat :=
  popcount (laneMask (tileOf s z.tl) z.w) * (if packed f then 2 else 1)

/-! ## Residue and parity checks (R141, R142, R144) -/

/-- A lane fails its check: the result is discarded, with every engine instruction not yet complete, and the instance
ends for replay (R144). -/
def laneFail (s : State) (z : Site) (l : Fin 32) : State :=
  checkFail s z.tl (laneRecord (tileOf s z.tl).checks l (engOf z.w)) stResidueMismatch

/-- The residue modulo 7 of a signed value, from 0 to 6 (R141). -/
def residue7 (x : Int) : Nat := (x % 7).toNat

/-- A full-width result with some of its bits inverted. -/
def upsetResult (full : Int) (flips : BitVec 72) : Int := (BitVec.ofInt 72 full ^^^ flips).toInt

/-- The v registers that a vector word reads (R202). -/
def readRegs (w : Nat) : List Nat :=
  let op := fOp w
  if op = 0xC3 then [fRS1 w, fRS2 w, fRS3 w]
  else if op = 0xC6 ∨ op = 0xCD ∨ op = 0xCE ∨ op = 0xD4 ∨ (op = 0xCA ∧ fFUNC w % 4 = 3) then [fRS1 w]
  else if op = 0xC7 then (if fFMT w = 11 ∨ fFMT w = 12 then [fRS1 w, fRS2 w] else [fRS1 w])
  else if op = 0xD0 ∨ op = 0xD3 then [fRS2 w]
  else if op = 0xD1 then [fRS2 w, fRS3 w]
  else if op = 0xCC ∨ op = 0xD2 ∨ op = 0xD5 ∨ op = 0xD6 then []
  else [fRS1 w, fRS2 w]

/-- The lowest lane of some registers whose parity is wrong. R142 checks on every read: here an instruction that reads a
register checks all its lanes, those that it does not use, too (DESIGN CHOICE, log 148). -/
def badLane (x : Tile) (regs : List Nat) : Option (Fin 32) :=
  (List.finRange 32).find? (fun l => regs.any (fun r => x.vbad.contains (32 * r + l.val)))

/-- A physical upset of bits held in a v register: an odd number of them makes the lane's parity wrong (R142). -/
def upsetStored (s : State) (tl : TileId) (err : Option LaneFault) : State :=
  match err with
  | none => s
  | some e =>
    match e.stored with
    | none => s
    | some r =>
      let flips : Word32 := e.flips.setWidth 32
      let k := 32 * r.val + e.lane.val
      let x := tileOf s tl
      let old := vReg x r.val
      let bad := x.vbad.contains k != (popcount flips % 2 == 1)
      setTile s tl { x with
        v := x.v.setIfInBounds r.val (old.setIfInBounds e.lane.val (lane old e.lane.val ^^^ flips)),
        vbad := if bad then (if x.vbad.contains k then x.vbad else k :: x.vbad) else x.vbad.filter (fun j => j != k) }

/-- Runs an instruction that reads v registers: a wrong parity fails it (R142), and so does an upset of its result that
the residue check `fails` catches, which names the lane (R141, R203). -/
def checkedRead (s : State) (z : Site) (err : Option LaneFault) (regs : List Nat)
    (fails : Tile → LaneFault → Option (Fin 32)) (k : State → Site → State) : State :=
  let s := upsetStored s z.tl err
  let x := tileOf s z.tl
  match badLane x regs with
  | some l => laneFail s z l
  | none =>
    match err with
    | none => k s z
    | some e =>
      if e.stored.isSome then k s z
      else
        match fails x e with
        | some l => laneFail s z l
        | none => k s { z with upset := some e }

/-- A vector instruction with a possible lane fault. -/
def vissue (s : State) (tl : TileId) (clk op : Nat) (err : Option LaneFault)
    (fails : Site → Tile → LaneFault → Option (Fin 32)) (body : State → Site → State) : State :=
  issue s tl clk op (fun s z => checkedRead s z err (readRegs z.w) (fails z) body)

/-- The residue check of a lane-wise integer operation (R141): `full` gives the full-width result and `predict` the
residue predicted from the operands' residues. A disabled lane has no result. -/
def laneFails (full : Int → Int → Int → Int) (predict : Nat → Nat → Nat → Nat) (z : Site) (x : Tile) (e : LaneFault) :
    Option (Fin 32) :=
  let a := (lane (vReg x (fRS1 z.w)) e.lane.val).toInt
  let b := (lane (vReg x (fRS2 z.w)) e.lane.val).toInt
  let c := (lane (vReg x (fRS3 z.w)) e.lane.val).toInt
  if (laneMask x z.w).getLsbD e.lane.val ∧
      residue7 (upsetResult (full a b c) e.flips) ≠ predict (residue7 a) (residue7 b) (residue7 c) % 7 then
    some e.lane
  else none

/-- The same for an instruction whose INT32 form alone carries the residue code (R143). -/
def intFails (full : Int → Int → Int → Int) (predict : Nat → Nat → Nat → Nat) (z : Site) (x : Tile) (e : LaneFault) :
    Option (Fin 32) :=
  if fFMT z.w = 14 then laneFails full predict z x e else none

/-- No result of the instruction carries the residue code (R143). -/
def uncovered (_ : Site) (_ : Tile) (_ : LaneFault) : Option (Fin 32) := none

/-! ## Lane arithmetic (R203) -/

/-- A lane-wise operation of three register operands, counted in the census under a type. -/
def vlanes (s : State) (z : Site) (type : Nat) (g : Nat → Nat → Nat → Nat) : State :=
  let x := tileOf s z.tl
  let f := fFMT z.w
  let n := laneElems s z f
  census (writeLanes s z (fun i => onLane f g (lane (vReg x (fRS1 z.w)) i) (lane (vReg x (fRS2 z.w)) i)
    (lane (vReg x (fRS3 z.w)) i))) z type f n

/-- An element operation: floating by exact value and one rounding, integer modulo 2³² (R124, R203). -/
def arith (z : Site) (fl : Real → Real → Real → Real) (int : Int → Int → Int → Int) (a b c : Nat) : Nat :=
  let f := fFMT z.w
  if f = 14 then wrapInt 32 (int (signedOf 32 a) (signedOf 32 b) (signedOf 32 c))
  else
    let t := laneFmt f
    fround t (fRND z.w) (fl (fdecode t a) (fdecode t b) (fdecode t c))

/-- `vadd` (R203). -/
def execInstrVadd (tl : TileId) (clk : Nat) (err : Option LaneFault) (s : State) : Host.Outcome State Fault Refusal :=
  .next (vissue s tl clk 0xC0 err (intFails (fun a b _ => a + b) (fun a b _ => a + b)) (fun s z =>
    vlanes s z 1 (arith z (fun a b _ => a.add b) (fun a b _ => a + b))))

/-- `vsub` (R203). -/
def execInstrVsub (tl : TileId) (clk : Nat) (err : Option LaneFault) (s : State) : Host.Outcome State Fault Refusal :=
  .next (vissue s tl clk 0xC1 err (intFails (fun a b _ => a - b) (fun a b _ => a + 7 - b)) (fun s z =>
    vlanes s z 1 (arith z (fun a b _ => a.add b.negate) (fun a b _ => a - b))))

/-- `vmul` (R203). -/
def execInstrVmul (tl : TileId) (clk : Nat) (err : Option LaneFault) (s : State) : Host.Outcome State Fault Refusal :=
  .next (vissue s tl clk 0xC2 err (intFails (fun a b _ => a * b) (fun a b _ => a * b)) (fun s z =>
    vlanes s z 1 (arith z (fun a b _ => a.mul b) (fun a b _ => a * b))))

/-- `vfma`: one rounding (R124, R203). -/
def execInstrVfma (tl : TileId) (clk : Nat) (err : Option LaneFault) (s : State) : Host.Outcome State Fault Refusal :=
  .next (vissue s tl clk 0xC3 err (intFails (fun a b c => a * b + c) (fun a b c => a * b + c)) (fun s z =>
    vlanes s z 2 (arith z (fun a b c => (a.mul b).add c) (fun a b c => a * b + c))))

/-- Minimum or maximum of two element codes (R166, R202). -/
def minmaxCode (f : Nat) (isMax : Bool) (a b : Nat) : Nat :=
  if f = 14 then
    let less := decide (signedOf 32 a < signedOf 32 b)
    if less then (if isMax then b else a) else (if isMax then a else b)
  else fminmax (laneFmt f) isMax a b

/-- `vmin` (R202). -/
def execInstrVmin (tl : TileId) (clk : Nat) (err : Option LaneFault) (s : State) : Host.Outcome State Fault Refusal :=
  .next (vissue s tl clk 0xC4 err uncovered (fun s z => vlanes s z 1 (fun a b _ => minmaxCode (fFMT z.w) false a b)))

/-- `vmax` (R202). -/
def execInstrVmax (tl : TileId) (clk : Nat) (err : Option LaneFault) (s : State) : Host.Outcome State Fault Refusal :=
  .next (vissue s tl clk 0xC5 err uncovered (fun s z => vlanes s z 1 (fun a b _ => minmaxCode (fFMT z.w) true a b)))

/-- `vneg` and `vabs` of an element code; −2³¹ gives −2³¹ (R203). -/
def negAbs (f : Nat) (absolute : Bool) (a : Nat) : Nat :=
  if f = 14 then
    let v := signedOf 32 a
    wrapInt 32 (if absolute && decide (0 ≤ v) then v else -v)
  else fneg (laneFmt f) absolute a

/-- `vneg`, `vabs`: in the residue check a subtraction, `vabs` only of a negative lane (R203). -/
def execInstrVnegVabs (tl : TileId) (clk : Nat) (err : Option LaneFault) (s : State) : Host.Outcome State Fault Refusal :=
  .next (vissue s tl clk 0xC6 err
    (fun z x e => if bit (fFUNC z.w) 0 ∧ !(lane (vReg x (fRS1 z.w)) e.lane.val).getLsbD 31 then none
      else intFails (fun a _ _ => -a) (fun a _ _ => 7 - a) z x e)
    (fun s z => vlanes s z 1 (fun a _ _ => negAbs (fFMT z.w) (bit (fFUNC z.w) 0) a)))

/-! ## Conversions, compares, moves -/

/-- Adds to TI_SAT_COUNT (R128). -/
def countSat (s : State) (tl : TileId) (n : Nat) : State :=
  modTile s tl (fun x => { x with checks := { x.checks with sat := satAdd x.checks.sat n } })

/-- One lane of `vcvt`: its new value and how many elements R128 counts. An infinite BF16 or FP16 lane widened with SATN 0
keeps its infinity, since R125 calls every widening exact, though its FP32 row names the largest finite value for an
infinity in saturating mode (DESIGN CHOICE, log 135). -/
def cvtLane (w : Nat) (a b : Word32) : Word32 × Nat :=
  let t := fFMT w
  let src := fFUNC w % 16
  let rtz := fRND w
  let sat := fSATN w
  if t = 14 then
    let r := iconvert (-(2 ^ 31)) (2 ^ 31 - 1) rtz (fdecode fmtFP32 a.toNat)
    (BitVec.ofNat 32 (wrapInt 32 r.1), b2n r.2)
  else if t = 13 ∧ src = 14 then (BitVec.ofNat 32 (fround fmtFP32 rtz (realOfInt a.toInt)), 0)
  else if t = 13 then
    let h := if bit (fFUNC w) 4 then a.toNat / 65536 else a.toNat % 65536
    (BitVec.ofNat 32 (fround fmtFP32 rtz (fdecode (laneFmt src) h)), 0)
  else
    let lo := fconvert (laneFmt t) rtz sat (fdecode fmtFP32 a.toNat)
    let hi := fconvert (laneFmt t) rtz sat (fdecode fmtFP32 b.toNat)
    (BitVec.ofNat 32 (lo.1 + hi.1 * 65536), b2n lo.2 + b2n hi.2)

/-- `vcvt` (R207). -/
def execInstrVcvt (tl : TileId) (clk : Nat) (err : Option LaneFault) (s : State) : Host.Outcome State Fault Refusal :=
  .next (vissue s tl clk 0xC7 err uncovered (fun s z =>
    let x := tileOf s tl
    let m := laneMask x z.w
    let r := fun i => cvtLane z.w (lane (vReg x (fRS1 z.w)) i) (lane (vReg x (fRS2 z.w)) i)
    let n := ((List.range 32).map (fun i => if m.getLsbD i then (r i).2 else 0)).sum
    census (countSat (writeLanes s z (fun i => (r i).1)) tl n) z 3 (fFMT z.w) (laneElems s z (fFMT z.w))))

/-- `vcmp`: bits of disabled lanes are kept (R204). -/
def execInstrVcmp (tl : TileId) (clk : Nat) (err : Option LaneFault) (s : State) : Host.Outcome State Fault Refusal :=
  .next (vissue s tl clk 0xC8 err uncovered (fun s z =>
    let x := tileOf s tl
    let m := laneMask x z.w
    let one (i : Nat) : Bool :=
      let a := lane (vReg x (fRS1 z.w)) i
      let b := lane (vReg x (fRS2 z.w)) i
      if fFMT z.w = 14 then vcondHolds (fFUNC z.w % 8) false (a.toInt - b.toInt).sign
      else
        let u := real32 a
        let v := real32 b
        vcondHolds (fFUNC z.w % 8) (u.isNan || v.isNan) (Real.cmp u v)
    let bitsOf := BitVec.ofNat 32 (((List.range 32).map (fun i => if one i then 2 ^ i else 0)).sum)
    census (putP s z (vbus z) (fRD z.w) ((bitsOf &&& m) ||| (pReg x (fRD z.w) &&& ~~~ m))) z 6 14 (popcount m)))

/-- A lane operation that moves bits, counted as VMOVE. -/
def vmove (s : State) (z : Site) (f : Tile → Nat → Word32) : State :=
  let x := tileOf s z.tl
  census (writeLanes s z (f x)) z 6 14 (popcount (laneMask x z.w))

/-- `vsel`: lane i ← vRS1 where bit i of pRS3 is 1, else vRS2 (R202). -/
def execInstrVsel (tl : TileId) (clk : Nat) (err : Option LaneFault) (s : State) : Host.Outcome State Fault Refusal :=
  .next (vissue s tl clk 0xC9 err uncovered (fun s z => vmove s z (fun x i =>
    if (pReg x (fRS3 z.w)).getLsbD i then lane (vReg x (fRS1 z.w)) i else lane (vReg x (fRS2 z.w)) i)))

/-- `vand`, `vor`, `vxor`, `vnot` by FUNC[1:0] (R202). -/
def execInstrVlogic (tl : TileId) (clk : Nat) (err : Option LaneFault) (s : State) : Host.Outcome State Fault Refusal :=
  .next (vissue s tl clk 0xCA err uncovered (fun s z => vmove s z (fun x i =>
    let a := lane (vReg x (fRS1 z.w)) i
    let b := lane (vReg x (fRS2 z.w)) i
    let k := fFUNC z.w % 4
    if k = 0 then a &&& b else if k = 1 then a ||| b else if k = 2 then a ^^^ b else ~~~ a)))

/-- `vshl`, `vshr`, `vsra` by FUNC[1:0]; a left shift carries the residue code (R141, R202). -/
def execInstrVshift (tl : TileId) (clk : Nat) (err : Option LaneFault) (s : State) : Host.Outcome State Fault Refusal :=
  .next (vissue s tl clk 0xCB err
    (fun z x e => if fFUNC z.w % 4 = 0 then
        laneFails (fun a b _ => a * 2 ^ (b % 32).toNat)
          (fun a _ _ => a * (2 ^ ((lane (vReg x (fRS2 z.w)) e.lane.val).toNat % 32) % 7)) z x e
      else none) (fun s z => vmove s z (fun x i =>
    let a := lane (vReg x (fRS1 z.w)) i
    let n := (lane (vReg x (fRS2 z.w)) i).toNat % 32
    let k := fFUNC z.w % 4
    if k = 0 then a <<< n else if k = 1 then a >>> n else a.sshiftRight n)))

/-- `vbcast`: every lane ← sRS1[31:0]; for packed formats sRS1[15:0] in both halves (R202). -/
def execInstrVbcast (tl : TileId) (clk : Nat) (s : State) : Host.Outcome State Fault Refusal :=
  .next (issue s tl clk 0xCC (fun s z =>
    let v := (sReg (tileOf s tl) (fRS1 z.w)).toNat
    let f := fFMT z.w
    let l : Word32 := BitVec.ofNat 32 (if packed f then v % 65536 * 65537 else v)
    census (writeLanes s z (fun _ => l)) z 1 f (laneElems s z f)))

/-- One level of the tree of R205: adjacent values combined. -/
def treeLevel (f : Nat → Nat → Nat) : List Nat → List Nat
  | a :: b :: r => f a b :: treeLevel f r
  | l => l

/-- The upsets of a tree's additions. -/
def treeUpsets (u : Option LaneFault) : List TreeUpset :=
  match u with
  | some e => ⟨e.lane, e.level, e.flips⟩ :: e.more
  | none => []

/-- The bits that the upsets invert in the result of an addition of a level. -/
def nodeFlips (u : List TreeUpset) (k node : Nat) : BitVec 72 :=
  u.foldl (fun a e => if e.level.val = k ∧ e.lane.val / 2 ^ (k + 1) = node then a ^^^ e.flips else a) 0

/-- The values after `n` levels of the tree from level `k` on, upsets inverting bits of additions' results. -/
def treeRun (f : Nat → Nat → Nat) (u : List TreeUpset) : Nat → Nat → List Nat → List Nat
  | 0, _, l => l
  | n + 1, k, l =>
    treeRun f u n (k + 1) ((treeLevel f l).mapIdx (fun i v => v ^^^ ((nodeFlips u k i).setWidth 32).toNat))

/-- The combination that a `vred` makes of two values (R205). -/
def redComb (z : Site) (a b : Nat) : Nat :=
  if fFUNC z.w % 4 = 0 then arith z (fun a b _ => a.add b) (fun a b _ => a + b) a b 0
  else minmaxCode (fFMT z.w) (fFUNC z.w % 4 == 1) a b

/-- The 32 values that enter a `vred`: a disabled lane enters as the identity (R205). -/
def redInputs (z : Site) (x : Tile) : List Nat :=
  let f := fFMT z.w
  let k := fFUNC z.w % 4
  let ident : Nat := if f = 14 then (if k = 0 then 0 else if k = 1 then 0x80000000 else 0x7FFFFFFF)
    else (if k = 0 then 0 else if k = 1 then 0xFF800000 else 0x7F800000)
  (List.range 32).map (fun i => if (laneMask x z.w).getLsbD i then (lane (vReg x (fRS1 z.w)) i).toNat else ident)

/-- An addition of a `vred` tree fails its residue check (R203). -/
def nodeFails (z : Site) (x : Tile) (u : List TreeUpset) (k node : Nat) : Bool :=
  let l := treeRun (redComb z) u k 0 (redInputs z x)
  let a := signedOf 32 (l.getD (2 * node) 0)
  let b := signedOf 32 (l.getD (2 * node + 1) 0)
  residue7 (upsetResult (a + b) (nodeFlips u k node)) != (residue7 a + residue7 b) % 7

/-- The residue checks of an integer `vred` sum: of the additions that fail, the one at the lowest level, there the one with
the lowest lane, is named by the lowest lane that feeds it (R203). -/
def redFails (z : Site) (x : Tile) (e : LaneFault) : Option (Fin 32) :=
  if fFMT z.w ≠ 14 ∨ fFUNC z.w % 4 ≠ 0 then none
  else
    (List.range 5).findSome? (fun k =>
      ((List.range (16 / 2 ^ k)).find? (nodeFails z x (treeUpsets (some e)) k)).map (fun node =>
        Fin.ofNat 32 (node * 2 ^ (k + 1))))

/-- `vred`: sum, maximum or minimum over the fixed tree, disabled lanes the identity (R205). -/
def execInstrVred (tl : TileId) (clk : Nat) (err : Option LaneFault) (s : State) : Host.Outcome State Fault Refusal :=
  .next (vissue s tl clk 0xCD err redFails (fun s z =>
    let x := tileOf s tl
    let r := treeRun (redComb z) (treeUpsets z.upset) 5 0 (redInputs z x)
    census (putS s z (vbus z) (fRD z.w) (BitVec.ofNat 64 (r.headD 0))) z 5 (fFMT z.w) (popcount (laneMask x z.w))))

/-! ## The transcendental helper (R206) -/

/-- Fraction bits of the fixed-point numbers in which the helper's exact values are approximated, far below its bounds. -/
def vfnBits : Nat := 200

/-- 2^(2^(-k)) for k from 1 to `n`, each the square root of the one before, in units of 2⁻²⁰⁰. -/
def expRoots : Nat → Nat → List Nat
  | 0, _ => []
  | n + 1, c =>
    let r := sqrtBits (c * 2 ^ vfnBits) (vfnBits + 2) 0
    r :: expRoots n r

/-- 2^f for a fraction f in units of 2⁻²⁰⁰: the product of the roots that its bits select. -/
def expFrac (f : Nat) : Nat :=
  ((expRoots vfnBits (2 * 2 ^ vfnBits)).zipIdx).foldl (fun a e =>
    if f.testBit (vfnBits - 1 - e.2) then a * e.1 / 2 ^ vfnBits else a) (2 ^ vfnBits)

/-- A finite value as a whole number of 2⁻²⁰⁰, truncated. -/
def toFixed : Real → Int
  | .fin n m e =>
    let v : Int := (if -(vfnBits : Int) ≤ e then m * 2 ^ (e + vfnBits).toNat else m / 2 ^ (-(vfnBits : Int) - e).toNat : Nat)
    if n then -v else v
  | _ => 0

/-- 2^x for x in units of 2⁻²⁰⁰. -/
def exp2Real (x : Int) : Real :=
  .fin false (expFrac (x % (2 ^ vfnBits : Nat)).toNat) (x / (2 ^ vfnBits : Nat) - vfnBits)

/-- `n` bits of log₂ of y in [1, 2), y in units of 2⁻²⁰⁰: squaring doubles the logarithm. -/
def logBits : Nat → Nat → Nat → Nat
  | 0, _, a => a
  | n + 1, y, a =>
    let q := y * y / 2 ^ vfnBits
    if 2 * 2 ^ vfnBits ≤ q then logBits n (q / 2) (2 * a + 1) else logBits n q (2 * a)

/-- log₂ of a positive finite value, to 120 fraction bits. -/
def log2Real : Real → Real
  | .fin _ m e =>
    let y := m * 2 ^ vfnBits / 2 ^ m.log2
    let v : Int := ((m.log2 : Int) + e) * (2 ^ 120 : Nat) + logBits 120 y 0
    .fin (decide (v < 0)) v.natAbs (-120)
  | x => x

/-- log₂ e in units of 2⁻²⁰⁰. -/
def log2E : Nat := 0x171547652b82fe1777d0ffda0d23a7d11d6aef551bad2b4b116

/-- e^(−k|v|); beyond |v| = 1,024 it is below every bound and taken as 0. -/
def expNeg (k : Nat) (v : Real) : Real :=
  if Real.cmp v.abs (.fin false 1024 0) > 0 then .fin false 0 0
  else exp2Real (-((toFixed v.abs * (k * log2E : Nat)) / (2 ^ vfnBits : Nat)))

/-- One. -/
def realOne : Real := .fin false 1 0

/-- The exact value that a FUNC approximates for a finite FP32 input that is no special input of R206. -/
def vfnExact (k : Nat) (v : Real) : Real :=
  if k = 0 then exp2Real (toFixed v)
  else if k = 1 then log2Real v
  else if k = 2 then realOne.div v
  else if k = 3 then realOne.div v.sqrt
  else if k = 4 then
    let t := expNeg 2 v
    let r := (realOne.add t.negate).div (realOne.add t)
    if v.isNeg then r.negate else r
  else
    let t := expNeg 1 v
    (if v.isNeg then t else realOne).div (realOne.add t)

/-- A result lies within `n` × 2^q of a value. -/
def vfnNear (r exact : Real) (n : Nat) (q : Int) : Bool :=
  !r.special && decide (Real.cmp (r.add exact.negate).abs (.fin false n q) ≤ 0)

/-- The exponent of one ulp of an FP32 value of this magnitude. -/
def ulpExp : Real → Int
  | .fin _ m e => if m = 0 then -149 else max (floorLog2 m e) (-126) - 23
  | _ => -149

/-- A result that the Bound column of R206 allows for an exact value; beyond FP32's range it is the largest finite value
or the infinity. -/
def vfnOk (k : Nat) (exact : Real) (code : Word32) : Bool :=
  let r := real32 code
  let ulps (n : Nat) : Bool :=
    vfnNear r exact n (ulpExp exact) ||
      (match exact with
       | .fin n m e => decide (fmtFP32.maxCode < roundMag fmtFP32 false m e) &&
           (code.toNat == fmtFP32.sign n + fmtFP32.maxCode || code.toNat == fmtFP32.sign n + fmtFP32.inf)
       | _ => false)
  if k = 0 then
    if Real.cmp exact (.fin false 1 (-149)) < 0 then decide (code.toNat % 2 ^ 31 < 2 ^ 23) else ulps 2
  else if k = 1 then (if 0 ≤ Real.cmp exact.abs (.fin false 1 (-10)) then ulps 2 else vfnNear r exact 1 (-33))
  else if k = 2 then ulps 1
  else if k = 3 then ulps 2
  else vfnNear r exact 1 (-22)

/-- The firmware tables' value of a FUNC: a free value within the bound (DESIGN CHOICE, log 15). -/
def vfnValue (k : Nat) (x : Word32) : Word32 :=
  let exact := vfnExact k (real32 x)
  if vfnOk k exact (Config.vfn k x) then Config.vfn k x else BitVec.ofNat 32 (fround fmtFP32 false exact)

/-- `vfn` of an FP32 lane: the special inputs of R206, else the firmware tables' value. -/
def vfnLane (k : Nat) (x : Word32) : Word32 :=
  let v := real32 x
  let neg := x.getLsbD 31
  let inf : Word32 := 0x7F800000
  let ninf : Word32 := 0xFF800000
  let nan : Word32 := 0x7FC00000
  let sgn (w : Word32) : Word32 := if neg then w ||| 0x80000000 else w
  if v.isNan then nan
  else if k = 0 then
    if v.special then (if neg then 0 else inf)
    else if Real.cmp v (.fin false 128 0) ≥ 0 then inf else vfnValue k x
  else if k = 1 then
    if v.isZero then ninf else if neg then nan else if v.special then inf else vfnValue k x
  else if k = 2 then
    if v.isZero then sgn inf else if v.special then sgn 0 else vfnValue k x
  else if k = 3 then
    if v.isZero then sgn inf else if neg then nan else if v.special then 0 else vfnValue k x
  else if k = 4 then (if v.special then sgn 0x3F800000 else vfnValue k x)
  else if v.special then (if neg then 0 else 0x3F800000) else vfnValue k x

/-- `vfn` (R206). -/
def execInstrVfn (tl : TileId) (clk : Nat) (err : Option LaneFault) (s : State) : Host.Outcome State Fault Refusal :=
  .next (vissue s tl clk 0xCE err uncovered (fun s z =>
    let x := tileOf s tl
    census (writeLanes s z (fun i => vfnLane (fFUNC z.w % 8) (lane (vReg x (fRS1 z.w)) i))) z 4 13
      (popcount (laneMask x z.w))))

/-- `vperm`: lane i ← lane vRS2[i][4:0] of vRS1 (R202). -/
def execInstrVperm (tl : TileId) (clk : Nat) (err : Option LaneFault) (s : State) : Host.Outcome State Fault Refusal :=
  .next (vissue s tl clk 0xCF err uncovered (fun s z => vmove s z (fun x i =>
    lane (vReg x (fRS1 z.w)) ((lane (vReg x (fRS2 z.w)) i).toNat % 32))))

/-! ## Gather, scatter, converting loads and stores -/

/-- The address of a lane (R208): aRS1 + vRS2[i] modulo 2⁴⁸. -/
def laneAddr (x : Tile) (w i : Nat) : Nat :=
  ((aReg x (fRS1 w)).toNat + (lane (vReg x (fRS2 w)) i).toNat) % 2 ^ 48

/-- Enabled lanes in increasing order. -/
def enabledLanes (x : Tile) (w : Nat) : List Nat := (List.range 32).filter (fun i => (laneMask x w).getLsbD i)

/-- The first enabled lane's address that R148 or alignment refuses. -/
def badLaneAddr (x : Tile) (w : Nat) : Option Nat :=
  ((enabledLanes x w).map (laneAddr x w)).find? (fun a => decide (2 ^ 32 ≤ a) || a % 4 != 0)

/-- Loads of the lanes in order, `none` for a disabled one; the first failing access ends it. -/
def gatherLanes (s : State) (z : Site) (x : Tile) : List Nat → Except ShelfErr (List (Nat × Word32))
  | [] => .ok []
  | i :: r =>
    match siteReads s z (laneAddr x z.w i) 4, gatherLanes s z x r with
    | .error e, _ => .error e
    | .ok _, .error e => .error e
    | .ok b, .ok l => .ok ((i, BitVec.ofNat 32 (leNat b)) :: l)

/-- `vgather` (R208). -/
def execInstrVgather (tl : TileId) (clk : Nat) (err : Option LaneFault) (s : State) : Host.Outcome State Fault Refusal :=
  .next (vissue s tl clk 0xD0 err uncovered (fun s z =>
    let x := tileOf s tl
    match badLaneAddr x z.w with
    | some a => afterAhead s z (fun s => addressFault s z (a % 2 ^ 32))
    | none =>
      match gatherLanes s z x (enabledLanes x z.w) with
      | .error e => afterAhead s z (fun s => shelfFault s z e)
      | .ok l =>
        let s1 := l.foldl (fun a e => shelfRead a z.ctx z.inst.second (laneAddr x z.w e.1) 4) s
        vmove s1 z (fun _ i => tabGet 0 l i)))

/-- Stores of lanes in order: a later lane's store remains where two name one address (R208). -/
def scatterLanes (z : Site) (x : Tile) : List Nat → State → Except ShelfErr State
  | [], s => .ok s
  | i :: r, s =>
    match siteWrites s z (vbus z) (laneAddr x z.w i) (leBytes 4 (lane (vReg x (fRS3 z.w)) i).toNat) with
    | .error e => .error e
    | .ok s1 => scatterLanes z x r s1

/-- The first enabled lane whose index is not bound. -/
def unboundLane (s : State) (z : Site) (x : Tile) : Option Nat :=
  ((enabledLanes x z.w).map (laneAddr x z.w)).find? (fun a => (boundShelf s z.ctx z.inst.second (a / 65536)).isNone)

/-- `vscatter` (R208). -/
def execInstrVscatter (tl : TileId) (clk : Nat) (err : Option LaneFault) (s : State) : Host.Outcome State Fault Refusal :=
  .next (vissue s tl clk 0xD1 err uncovered (fun s z =>
    let x := tileOf s tl
    match badLaneAddr x z.w with
    | some a => afterAhead s z (fun s => addressFault s z (a % 2 ^ 32))
    | none =>
      match unboundLane s z x with
      | some a => afterAhead s z (fun s => addressFault s z a)
      | none =>
        match scatterLanes z x (enabledLanes x z.w) s with
        | .error e => afterAhead s z (fun s => shelfFault s z e)
        | .ok s1 => census s1 z 6 14 (popcount (laneMask x z.w))))

/-- A scale byte's address of a converting load or store (R148, R209). -/
def scaleAddr (s : State) (z : Site) (r : Nat) (k : Nat → State) : State := engineAddr s z r 1 k

/-- Bytes of element `i` in a plane of 32 elements: offset and number. -/
def elemBytes (f i : Nat) : Nat × Nat :=
  let w := fmtBits f
  (i * w / 8, ((i + 1) * w + 7) / 8 - i * w / 8)

/-- Reads the bytes of some elements at an address; a byte of no such element is not read (R201) and stands as 0. -/
def readElems (s : State) (z : Site) (a f : Nat) : List Nat → State × List Byte → Except ShelfErr (State × List Byte)
  | [], r => .ok r
  | i :: l, r =>
    let (off, n) := elemBytes f i
    match siteReads r.1 z (a + off) n with
    | .error e => .error e
    | .ok b => readElems s z a f l (shelfRead r.1 z.ctx z.inst.second (a + off) n, patch r.2 off b)

/-- An element's value as a lane of `vldc` (R209), with whether R128 counts it: INT32 for an integer format, else FP32.
The widening is exact; an MX value beyond FP32's range, which no widening keeps, follows R125's FP32 row in its default
mode, saturating (DEDUCED, log 67). An infinity stays one (log 135). -/
def widenElem (f : Nat) (v : Real) : Word32 × Bool :=
  if isInt f then (BitVec.ofNat 32 (wrapInt 32 (realInt v)), false)
  else
    match v with
    | .inf _ => (BitVec.ofNat 32 (fround fmtFP32 false v), false)
    | _ => ((BitVec.ofNat 32 (fconvert fmtFP32 false false v).1), (fconvert fmtFP32 false false v).2)

/-- `vldc`: 32 elements widened into lanes (R209); only enabled lanes read (R201). -/
def execInstrVldc (tl : TileId) (clk : Nat) (s : State) : Host.Outcome State Fault Refusal :=
  .next (issue s tl clk 0xD2 (fun s z =>
    let x := tileOf s tl
    let f := fFMT z.w
    let m := laneMask x z.w
    if m = 0 then s
    else
      engineAddr s z (fRS1 z.w) 8 (fun a =>
        withEngine s z (readElems s z a f (enabledLanes x z.w) (s, zeros (32 * fmtBits f / 8))) (fun r =>
          let run (s : State) (scale : Byte) : State :=
            let out (i : Nat) : Word32 × Bool := widenElem f (element f scale (elemAt f r.2 i))
            let n := ((enabledLanes x z.w).filter (fun i => (out i).2)).length
            census (countSat (writeLanes s z (fun i => (out i).1)) tl n) z 3 f (popcount m)
          if isMx f then
            scaleAddr r.1 z (fRS2 z.w) (fun p => engineRead r.1 z p 1 (fun s c => run s (c.headD 0)))
          else run r.1 0x7F))))

/-- Elements whose 4-bit neighbour in the same byte is not stored with them: their byte is merged from the shelf. -/
def halfBytes (f : Nat) (m : Word32) : List Nat :=
  if fmtBits f = 4 then (List.range 32).filter (fun i => m.getLsbD i && !m.getLsbD (if i % 2 = 0 then i + 1 else i - 1))
  else []

/-- Byte-wise stores of the elements of enabled lanes: (byte offset, byte). -/
def laneBytes (f : Nat) (m : Word32) (new old : List Byte) : List (Nat × Byte) :=
  let w := fmtBits f
  if w = 4 then
    (List.range 16).filterMap (fun j =>
      let lo := m.getLsbD (2 * j)
      let hi := m.getLsbD (2 * j + 1)
      if lo || hi then
        let n := (new.getD j 0).toNat
        let o := (old.getD j 0).toNat
        some (j, BitVec.ofNat 8 ((if lo then n % 16 else o % 16) + (if hi then n / 16 else o / 16) * 16))
      else none)
  else
    (List.range (32 * w / 8)).filterMap (fun j =>
      if m.getLsbD (j / (w / 8)) then some (j, new.getD j 0) else none)

/-- Single-byte stores in order. -/
def storeBytes (z : Site) (a : Nat) : List (Nat × Byte) → State → Except ShelfErr State
  | [], s => .ok s
  | (o, b) :: r, s =>
    match siteWrites s z (vbus z) (a + o) [b] with
    | .error e => .error e
    | .ok s1 => storeBytes z a r s1

/-- `vstc`: 32 lanes converted to a format and stored (R209); an MX target with PE set is illegal. -/
def execInstrVstc (tl : TileId) (clk : Nat) (err : Option LaneFault) (s : State) : Host.Outcome State Fault Refusal :=
  .next (vissue s tl clk 0xD3 err uncovered (fun s z =>
    let x := tileOf s tl
    let f := fFMT z.w
    let m := laneMask x z.w
    let rtz := fRND z.w
    let lanes := (List.range 32).map (fun i => lane (vReg x (fRS2 z.w)) i)
    if isMx f ∧ fPE z.w then illegalEngine s z
    else if m = 0 then s
    else
      engineAddr s z (fRS1 z.w) 8 (fun a =>
        if isMx f then
          let (sc, codes, n) := mxBlock f rtz (fSATN z.w) (lanes.map real32)
          scaleAddr s z (fRS3 z.w) (fun p =>
            withEngine s z (siteWrites s z (vbus z) a (packElems f codes)) (fun s1 =>
              withEngine s1 z (siteWrites s1 z (vbus z) p [sc]) (fun s2 =>
                census (countSat s2 tl n) z 3 f 32)))
        else
          let rs := lanes.map (fun l => elemConvert f rtz (fSATN z.w) (if isInt f then realOfInt l.toInt else real32 l))
          let n := (rs.zipIdx.filter (fun e => e.1.2 && m.getLsbD e.2)).length
          let bytes := packElems f (rs.map (fun r => r.1))
          let stored := if m = 0xFFFFFFFF then siteWrites s z (vbus z) a bytes
            else
              match readElems s z a f (halfBytes f m) (s, zeros bytes.length) with
              | .error e => .error e
              | .ok (s1, old) => storeBytes z a (laneBytes f m bytes old) s1
          withEngine s z stored (fun s1 => census (countSat s1 tl n) z 3 f (popcount m)))))

/-- `vext`: sRD ← the lane sRS2[4:0] names, when enabled (R201). -/
def execInstrVext (tl : TileId) (clk : Nat) (err : Option LaneFault) (s : State) : Host.Outcome State Fault Refusal :=
  .next (vissue s tl clk 0xD4 err uncovered (fun s z =>
    let x := tileOf s tl
    let i := (sReg x (fRS2 z.w)).toNat % 32
    let s1 := if (laneMask x z.w).getLsbD i
      then putS s z (vbus z) (fRD z.w) ((upsetLane z i (lane (vReg x (fRS1 z.w)) i)).setWidth 64) else s
    census s1 z 6 14 (popcount (laneMask x z.w))))

/-- `vins`: the lane sRS2[4:0] of vRD ← sRS1[31:0], when enabled (R201). -/
def execInstrVins (tl : TileId) (clk : Nat) (err : Option LaneFault) (s : State) : Host.Outcome State Fault Refusal :=
  .next (vissue s tl clk 0xD5 err uncovered (fun s z =>
    let x := tileOf s tl
    let i := (sReg x (fRS2 z.w)).toNat % 32
    let old := vReg x (fRD z.w)
    let s1 := if (laneMask x z.w).getLsbD i
      then putLanes s z (vbus z) (fRD z.w) (BitVec.ofNat 32 (2 ^ i))
        (old.setIfInBounds i (upsetLane z i ((sReg x (fRS1 z.w)).setWidth 32))) else s
    census s1 z 6 14 (popcount (laneMask x z.w))))

/-- `viota`: lane i ← i (R202). -/
def execInstrViota (tl : TileId) (clk : Nat) (s : State) : Host.Outcome State Fault Refusal :=
  .next (issue s tl clk 0xD6 (fun s z => vmove s z (fun _ i => BitVec.ofNat 32 i)))

end Sys2Proof.Machine
end

