-- ==== Sys2Proof/Machine/MemInstr.lean ====
section
/-! DEFINITION. The memory and shelf class (R84, R91, R95, R148, R167 to R170, R374) and the start of DMA
chains (R171, R180, R161). -/

namespace Sys2Proof.Machine

/-- The watch that an access of the instance hits (R483): ACCESS bit 0 reads, bit 1 writes. -/
def watchAt (s : State) (z : Site) (a n kind : Nat) : Option (Fin 2) :=
  (List.finRange 2).find? (fun j =>
    let v := (tabGet 0 (tileOf s z.tl).dbg.watch j.val).toNat
    let size := 2 ^ bits v 34 32
    let base := bits v 31 0 / size * size
    bit v 48 && (bits v 36 35 &&& kind != 0) && (!bit v 47 || bits v 46 37 == z.ctx.val) &&
      decide (a < base + size) && decide (base < a + n))

/-- Notes a hit of the completed access. -/
def noteWatch (s : State) (z : Site) (a n kind : Nat) : State :=
  match watchAt s z a n kind with
  | none => s
  | some j =>
    if !debugActs s z.ctx then refuseHalt s z.tl
    else if (ctxOf s z.ctx).state = .closing then s
    else if stillOn s z then modTile s z.tl (fun x => { x with dbg := { x.dbg with watchHit := some j } }) else s

/-- A load of `n` bytes at the format M address; `upset` bits of its first word are wrong. -/
def loadAt (s : State) (z : Site) (n align upset : Nat) (k : State → List Byte → State) : State :=
  withAddr s z (effAddr (tileOf s z.tl) z.w) align (fun a =>
    let s := upsetShelf s z.ctx z.inst.second a upset
    withRead s z a n (fun s b => noteWatch (k s b) z a n 1))

/-- A store at the format M address on a bus. -/
def storeAt (s : State) (z : Site) (bus align : Nat) (l : List Byte) (upset : Nat) : State :=
  withAddr s z (effAddr (tileOf s z.tl) z.w) align (fun a =>
    let s := upsetShelf s z.ctx z.inst.second a upset
    withShelf s z (siteWrites s z bus a l) (fun s1 => noteWatch s1 z a l.length 2))

/-- `ld.u8` to `ld.u64` (R167). -/
def execInstrLdU (tl : TileId) (clk upset : Nat) (s : State) : Host.Outcome State Fault Refusal :=
  .next (issue s tl clk 0x40 (fun s z =>
    let n := 2 ^ fSIZE z.w
    loadAt s z n n upset (fun s b => putS s z 0 (fRD z.w) (BitVec.ofNat 64 (leNat b)))))

/-- `ld.i8` to `ld.i32` (R167). -/
def execInstrLdI (tl : TileId) (clk : Nat) (s : State) : Host.Outcome State Fault Refusal :=
  .next (issue s tl clk 0x41 (fun s z =>
    let n := 2 ^ fSIZE z.w
    loadAt s z n n 0 (fun s b =>
      putS s z 0 (fRD z.w) (BitVec.ofNat 64 (wrapInt 64 (signedOf (8 * n) (leNat b)))))))

/-- `st.u8` to `st.u64` (R167). -/
def execInstrSt (tl : TileId) (clk upset : Nat) (s : State) : Host.Outcome State Fault Refusal :=
  .next (issue s tl clk 0x42 (fun s z =>
    let n := 2 ^ fSIZE z.w
    storeAt s z 0 n (leBytes n (sReg (tileOf s tl) (fRD z.w)).toNat) upset))

/-- `lda`: bits [47:0] of 8 B into aRT (Memory and shelf class table). -/
def execInstrLda (tl : TileId) (clk : Nat) (s : State) : Host.Outcome State Fault Refusal :=
  .next (issue s tl clk 0x43 (fun s z =>
    loadAt s z 8 8 0 (fun s b => putA s z (fRD z.w) (BitVec.ofNat 48 (leNat b)))))

/-- `sta`: aRT zero-extended to 8 B. -/
def execInstrSta (tl : TileId) (clk : Nat) (s : State) : Host.Outcome State Fault Refusal :=
  .next (issue s tl clk 0x44 (fun s z =>
    storeAt s z 0 8 (leBytes 8 (aReg (tileOf s tl) (fRD z.w)).toNat) 0))

/-- `vld.b32`: 128 B unconverted; SIZE selects the V0 or V1 port (R167). -/
def execInstrVldB32 (tl : TileId) (clk : Nat) (s : State) : Host.Outcome State Fault Refusal :=
  .next (issue s tl clk 0x45 (fun s z =>
    loadAt s z 128 64 0 (fun s b =>
      putV s z (2 + fSIZE z.w) (fRD z.w) (Vector.ofFn (fun i => BitVec.ofNat 32 (field b (4 * i.val) 4))))))

/-- A v register's 128 B. -/
def vBytes (v : Vector Word32 32) : List Byte := v.toList.flatMap (fun w => leBytes 4 w.toNat)

/-- `vst.b32`: 128 B from all lanes (R167); the read of the register is checked for parity (R142). -/
def execInstrVstB32 (tl : TileId) (clk : Nat) (err : Option LaneFault) (s : State) : Host.Outcome State Fault Refusal :=
  .next (issue s tl clk 0x46 (fun s z =>
    let s := upsetStored s tl err
    match badLane (tileOf s tl) [fRD z.w] with
    | some l => checkFail s tl (laneRecord (tileOf s tl).checks l (fSIZE z.w)) stResidueMismatch
    | none => storeAt s z (2 + fSIZE z.w) 64 (vBytes (vReg (tileOf s tl) (fRD z.w))) 0))

/-- `fence`: accesses of the masked ports have completed before issue goes on (R168). The tensor read port's waiting sets are
fetched, the tensor drain port's held writes get their verdict; the other ports' accesses complete as they issue. -/
def execInstrFence (tl : TileId) (clk : Nat) (s : State) : Host.Outcome State Fault Refusal :=
  .next (issue s tl clk 0x48 (fun s z =>
    let drained (k : State → State) : State := if bit (fIMM z.w) 1 then afterDrain s z k else k s
    drained (fun s => if bit (fIMM z.w) 0 then afterFetches s z (fun s => s) else s)))

/-- Results of the primary copy for the second copy's matching `salloc` or `sfree` (R374). -/
def primaryResult (s : State) (z : Site) : Option Word64 :=
  match findInst s { z.inst with second := false }, findInst s z.inst with
  | some p, some q => p.results[q.took]?
  | _, _ => none

/-- The second copy takes its primary's next result, or waits for it (R374). -/
def takeResult (s : State) (z : Site) (k : State → Word64 → State) : State :=
  match primaryResult s z with
  | none => stall s z 0xE
  | some v => k (modInst s z.inst (fun i => { i with took := i.took + 1 })) v

/-- Records a result that the second copy will return. -/
def giveResult (s : State) (z : Site) (v : Word64) : State :=
  if z.paired then modInst s z.inst (fun i => { i with results := i.results ++ [v] }) else s

/-- The binding of `salloc` (R88, R169): the new index, or a failure code. -/
def allocShelf (s : State) (z : Site) : State × Word64 :=
  let x := ctxOf s z.ctx
  let order := nearest s z.tl
  if x.shelves ≤ x.map.length then (s, 0x8000000000000001)
  else
    let idx := lowestIndex s z.ctx
    match bindBoth s z.ctx idx order with
    | none => (s, 0x8000000000000002)
    | some s1 => (s1, BitVec.ofNat 64 idx)

/-- `salloc` (R169, R374). -/
def execInstrSalloc (tl : TileId) (clk : Nat) (s : State) : Host.Outcome State Fault Refusal :=
  .next (issue s tl clk 0x49 (fun s z =>
    if z.inst.second then takeResult s z (fun s v => putS s z 0 (fRD z.w) v)
    else
      let (s1, v) := allocShelf s z
      putS (giveResult s1 z v) z 0 (fRD z.w) v))

/-- `sfree`: releases the index in sRS1[15:0]; the seed shelf or an unbound index faults (R170). -/
def execInstrSfree (tl : TileId) (clk : Nat) (s : State) : Host.Outcome State Fault Refusal :=
  .next (issue s tl clk 0x4A (fun s z =>
    let idx := (sReg (tileOf s tl) (fRS1 z.w)).toNat % 65536
    if z.inst.second then takeResult s z (fun s _ => s)
    else if (boundShelf s z.ctx false idx).isNone ∨ idx = (ctxOf s z.ctx).seedShelf then
      addressFault s z (idx * 65536)
    else giveResult (releaseIndex s z.ctx idx) z 0))

/-- `sinfo`: quota and bound shelves. -/
def execInstrSinfo (tl : TileId) (clk : Nat) (s : State) : Host.Outcome State Fault Refusal :=
  .next (issue s tl clk 0x4B (fun s z =>
    let x := ctxOf s z.ctx
    putS s z 0 (fRD z.w) (BitVec.ofNat 64 (x.shelves % 65536 + x.map.length * 65536))))

/-- The lowest engine channel of a tile with no chain in flight; none where chains and COPY transfers make 16 (log 129). -/
def freeChannel (s : State) (tl : TileId) : Option (Fin 16) :=
  if 16 ≤ chainsOn s tl + copiesOn s tl then none
  else (List.finRange 16).find? (fun c => !s.tl.chains.any (fun x => x.tile == tl && x.ch == c))

/-- `dma`: starts a chain after the instance's earlier shelf writes; with all 16 chains of the engine in
flight it waits at issue (R171). -/
def execInstrDma (tl : TileId) (clk : Nat) (s : State) : Host.Outcome State Fault Refusal :=
  .next (issue s tl clk 0x50 (fun s z =>
    afterDrain s z (fun s =>
      withAddr s z (effAddr (tileOf s tl) z.w) 64 (fun a =>
        match freeChannel s tl, findInst s z.inst with
        | some ch, some i =>
          let c : Chain := { tile := tl, ch := ch, ctx := z.ctx, inst := z.inst, golden := z.golden,
                             pc := BitVec.ofNat 32 z.pc, nextAddr := some (BitVec.ofNat 32 a), count := 0,
                             number := i.issued, sig := 0, born := now s }
          let s1 := modTile s tl (fun x => { x with dbg := { x.dbg with used := x.dbg.used ||| 16 } })
          setChains (modInst s1 z.inst (fun i => { i with issued := i.issued + 1 })) (s1.tl.chains ++ [c])
        | _, _ => stall s z 0xC))))

/-- `dtest`: all ones when no chain of the instance is in flight; a PAIRED copy stalls until then (R180). -/
def execInstrDtest (tl : TileId) (clk : Nat) (s : State) : Host.Outcome State Fault Refusal :=
  .next (issue s tl clk 0x51 (fun s z =>
    if (chainsOf s z.inst).isEmpty then putP s z 0 (fRD z.w) (BitVec.allOnes 32)
    else if z.paired then stall s z 0xE
    else putP s z 0 (fRD z.w) 0))

/-- `dwait.y`: a yield point that waits until no chain of the instance is in flight (R161). -/
def execInstrDwaitY (tl : TileId) (clk : Nat) (s : State) : Host.Outcome State Fault Refusal :=
  .next (issue s tl clk 0x52 (fun s z =>
    afterAhead s z (fun s =>
      yieldPoint s tl z.inst (BitVec.ofNat 32 (z.pc + 8))
        (if (chainsOf s z.inst).isEmpty then .ready else .dma))))

end Sys2Proof.Machine
end

