-- ==== Sys2Proof/Machine/SyncOps.lean ====
section
/-! DEFINITION. The sync class of tile instructions (R176 to R180, R374, R378) and the Sync Fabric's clock
cycle (R72, R73). -/

namespace Sys2Proof.Machine

/-- `sadd.u32` and `sreset.u32`: the object must lie in the context's range (R176); the operation feeds
the signature and goes outward once every earlier shelf write has completed (R177). -/
def syncInstr (s : State) (z : Site) (reset : Bool) : State :=
  afterDrain s z (fun s =>
    let id := (sReg (tileOf s z.tl) (fRS1 z.w)).toNat % 65536
    let v := (sReg (tileOf s z.tl) (fRS2 z.w)).toNat % 2 ^ 32
    if !inSyncRange s.part (ctxOf s z.ctx).cls id then illegal s z
    else
      let s1 := foldBus s z 0 (leBytes 4 v) (Config.busTag 4 id)
      outward s1 z.inst z.ctx z.golden z.paired z.pc ⟨reset, BitVec.ofNat 16 id, BitVec.ofNat 32 v⟩)

/-- `sadd.u32` (R177). -/
def execInstrSaddU32 (tl : TileId) (clk : Nat) (s : State) : Host.Outcome State Fault Refusal :=
  .next (issue s tl clk 0x60 (fun s z => syncInstr s z false))

/-- `sreset.u32` (R177). -/
def execInstrSresetU32 (tl : TileId) (clk : Nat) (s : State) : Host.Outcome State Fault Refusal :=
  .next (issue s tl clk 0x61 (fun s z => syncInstr s z true))

/-- `stest.u32`: all ones when the counter is at least v, else zero; a PAIRED copy stalls until it holds
(R178, R180). -/
def execInstrStestU32 (tl : TileId) (clk : Nat) (s : State) : Host.Outcome State Fault Refusal :=
  .next (issue s tl clk 0x62 (fun s z =>
    let id := (sReg (tileOf s tl) (fRS1 z.w)).toNat % 65536
    let v := (sReg (tileOf s tl) (fRS2 z.w)).toNat % 2 ^ 32
    if !inSyncRange s.part (ctxOf s z.ctx).cls id then illegal s z
    else if waitHolds s id v then putP s z 0 (fRD z.w) (BitVec.allOnes 32)
    else if z.paired then stall s z 0xE
    else putP s z 0 (fRD z.w) 0))

/-- `swait.y`: a yield point that waits until WAIT(id, v) holds (R161, R179). -/
def execInstrSwaitY (tl : TileId) (clk : Nat) (s : State) : Host.Outcome State Fault Refusal :=
  .next (issue s tl clk 0x63 (fun s z =>
    let id := (sReg (tileOf s tl) (fRS1 z.w)).toNat % 65536
    let v := (sReg (tileOf s tl) (fRS2 z.w)).toNat % 2 ^ 32
    if !inSyncRange s.part (ctxOf s z.ctx).cls id then illegal s z
    else
      afterAhead s z (fun s =>
        yieldPoint s tl z.inst (BitVec.ofNat 32 (z.pc + 8))
          (if waitHolds s id v then .ready else .sync (BitVec.ofNat 16 id) (BitVec.ofNat 32 v)))))

/-- SWAIT_SATISFIED: an instance suspended at `swait.y` whose wait has held becomes ready (R179). Once
satisfied a wait stays so (R73): the Sync Fabric has latched it. -/
def execSwaitSatisfied (w : InstanceId) (s : State) : Host.Outcome State Fault Refusal :=
  .next (
    match findInst s w with
    | none => s
    | some i =>
      match i.wait with
      | .sync id v => if waitHolds s id.toNat v.toNat then modInst s w (fun y => { y with wait := .ready }) else s
      | _ => s)

/-- One Sync Fabric clock cycle over operations that reach it together: every reset to an object, then
every add to it (R73). Which of two resets of one object stands the manual does not say: here the later one of the list
(DESIGN CHOICE, log 130). -/
def fabricApply (f : SyncFabric) (ops : List SyncOp) : SyncFabric :=
  let f1 := (ops.filter (fun o => o.reset)).foldl (fun f o => syncSet f o.id.toNat o.value) f
  (ops.filter (fun o => !o.reset)).foldl (fun f o => syncAdd f o.id.toNat o.value.toNat) f1

/-- Suspended instances whose wait holds after the clock cycle stay satisfied (R73). -/
def latchInsts (s : State) : State :=
  { s with gh := { s.gh with insts := s.gh.insts.map (fun i =>
      match i.wait with
      | .sync id v => if waitHolds s id.toNat v.toNat then { i with wait := .sync id 0 } else i
      | _ => i) } }

/-- The ADDs of a clock cycle are completion events of tile stages (R369). -/
def raiseAdds (s : State) (ops : List SyncOp) : State :=
  (ops.filter (fun o => !o.reset)).foldl (fun a o => raiseStage a 1 4 (some o.id) (now a)) s

/-- Applies operations in one clock cycle and latches every wait that then holds. -/
def applySync (s : State) (ops : List SyncOp) : State :=
  latchInsts (latchAll { raiseAdds s ops with sync := fabricApply s.sync ops })

/-- SYNC_FABRIC_APPLY: the first `n` operations that tiles and chains have sent reach the Sync Fabric in
one of its clock cycles (R73, R177). -/
def execSyncFabricApply (n : Nat) (s : State) : Host.Outcome State Fault Refusal :=
  .next (applySync { s with sync := { s.sync with waiting := s.sync.waiting.drop n } } (s.sync.waiting.take n))

end Sys2Proof.Machine
end

