-- ==== Sys2Proof/Machine/Gatehouse.lean ====
section
/-! DEFINITION. The Gatehouse's queues (R31 to R35, R508), execution order and publication (R51 to R54,
R531), replay (R58), the journal's rebuild (R49, R68) and the progress block (R76, R77). -/

namespace Sys2Proof.Machine

/-! ## Queues -/

/-- Accepted and unpublished items of a queue. -/
def queueItems (s : State) (q : QueueId) : List Item := s.gh.items.filter (fun x => x.id.queue == q)

/-- Accepted, unpublished items of a queue: rejected descriptors are none (R50). -/
def queueLive (s : State) (q : QueueId) : Nat := ((queueItems s q).filter itemLive).length

/-- ACCEPT_STALL of GH_SQ_STATUS. -/
def acceptStall (s : State) (q : QueueId) : Bool :=
  let x := queueOf s q
  x.clearPending || (s.rs.partBusy && s.rs.partClass.toNat == classCode x.cls) || s.gh.rebuilding || (kilnsIn s).isEmpty || decide (ringSize x ≤ queueLive s q)

/-- Whether an item's publication is barred by its golden duty (R384). -/
def goldenHolds (x : Item) : Bool :=
  match x.golden with
  | .due => true
  | .running _ => true
  | _ => false

/-- A done configuration section waits for the boundary at which it takes effect and publishes (R276, R303). -/
def sectionWaits (s : State) (i : ItemId) : Bool :=
  s.fe.waiting.any (fun w => w.item == i) || s.mz.waiting.any (fun w => w.item == i)

/-- Items of a configuration section accepted and not yet in effect: FUSE-CONFIG or PLAN-CONFIG. -/
def pendingSections (s : State) (fuse : Bool) (sec : Nat) : List Item :=
  s.gh.items.filter (fun x => itemLive x && !x.plan && dType x.desc == (if fuse then 3 else 4) &&
    field x.desc 28 1 == sec && (x.stage != .done || sectionWaits s x.id))

/-- The one of them accepted last. -/
def lastPending (s : State) (fuse : Bool) (sec : Nat) : Option Item :=
  (pendingSections s fuse sec).foldl (fun a x => match a with
    | some y => if itemBefore y x then some x else a
    | none => some x) none

/-- Item `x` lies in the scope of FENCE `y` (R38). -/
def inScope (s : State) (y x : Item) : Bool :=
  let scope := field y.desc 16 1
  if scope = 0 then y.id.queue == x.id.queue
  else if scope = 1 then (queueOf s y.id.queue).function == (queueOf s x.id.queue).function
  else true

/-- An accepted FENCE. -/
def isFence (y : Item) : Bool := itemLive y && !y.plan && dType y.desc == 5

/-- An item accepted before the FENCE `x` in its scope has not published (R51). -/
def scopeBusy (s : State) (x : Item) : Bool :=
  s.gh.items.any (fun y => itemLive y && y.id != x.id && itemBefore y x && inScope s x y)

/-- The item is done and the next to publish on its queue (R52). A FENCE publishes only after every item accepted before it
in its scope (R51). -/
def publishNext (s : State) (x : Item) : Bool :=
  (x.stage == .done || x.stage == .rejected) && x.id.seq == (queueOf s x.id.queue).pubSeq && !goldenHolds x &&
    !sectionWaits s x.id && !(isFence x && scopeBusy s x)

/-- CQ_FULL of GH_SQ_STATUS: publication is held because no slot is free (R35). -/
def cqFull (s : State) (q : QueueId) : Bool :=
  let x := queueOf s q
  x.enable && decide (ringSize x ≤ x.cqUsed) && (queueItems s q).any (publishNext s)

/-- The class field of GH_SQ_CFG cannot change now (R57). -/
def classHeld (s : State) (q : QueueId) : Bool :=
  (queueOf s q).planQueue || (pendingSections s false 1).any (fun x => field x.block 6 1 == q.val)

/-- A write of the fields of GH_SQ_CFG other than ENABLE to a queue that is not enabled: reserved encodings
keep their field (R12), a virtual function cannot write FUNCTION (R511). -/
def configQueue (s : State) (f : FnId) (q : QueueId) (v : Word32) : Queue :=
  let x := queueOf s q
  let size := bits v.toNat 3 0
  let cls := bits v.toNat 6 5
  let fn := bits v.toNat 11 8
  { x with
    sizeLog2 := if 4 ≤ size ∧ size ≤ 12 then BitVec.ofNat 4 size else x.sizeLog2,
    cls := if cls = 3 ∨ classHeld s q then x.cls else classOfD cls,
    function := if fn ≤ 8 ∧ f.val = 0 then BitVec.ofNat 4 fn else x.function }

/-- A function reaches the registers of a queue (R511). -/
def reachesQueue (s : State) (f : FnId) (q : QueueId) : Bool :=
  hostReaches s f && (f.val == 0 || (queueOf s q).function.toNat == f.val)

/-- The function rule of R342, R503 for a queue with the written fields. -/
def functionRule (s : State) (x : Queue) : Bool :=
  x.function == 0 ||
    (fnExists s x.function.toNat && (partMap s.part x.cls).function == x.function)

/-- QUEUE_ENABLE: a write of GH_SQ_CFG with ENABLE 1 (R33, R342). -/
def execQueueEnable (f : FnId) (q : QueueId) (v : Word32) (s : State) : Host.Outcome State Fault Refusal :=
  .next (
    let x := queueOf s q
    if !v.getLsbD 4 ∨ !reachesQueue s f q ∨ x.enable then s
    else
      let y := configQueue s f q v
      if !functionRule s y then s
      else setQueue s q { y with
        enable := true, clearPending := false, head := 0, subIndex := 0, cqIndex := 0, cqUsed := 0, nextSeq := 0,
        pubSeq := 0, fetched := none, block := [], fetchFailed := false })

/-- QUEUE_DISABLE: a write of GH_SQ_CFG with ENABLE 0 to an enabled queue; fetching stops and the clear is
pending (R33). -/
def execQueueDisable (f : FnId) (q : QueueId) (v : Word32) (s : State) : Host.Outcome State Fault Refusal :=
  .next (
    let x := queueOf s q
    if v.getLsbD 4 ∨ !reachesQueue s f q ∨ !x.enable then s
    else setQueue s q { x with clearPending := true })

/-- QUEUE_DISABLE_DONE: every fetched entry has published and ENABLE reads 0 (R33). -/
def execQueueDisableDone (q : QueueId) (s : State) : Host.Outcome State Fault Refusal :=
  .next (
    let x := queueOf s q
    if x.clearPending ∧ (queueItems s q).isEmpty ∧ x.fetched.isNone then
      setQueue s q { x with enable := false, clearPending := false, fetchFailed := false }
    else s)

/-- A function's BAR2 page of a queue acts: the function owns the queue and it is enabled (R508). -/
def doorbellPage (s : State) (f : FnId) (q : QueueId) : Bool :=
  hostReaches s f && (queueOf s q).function.toNat == f.val && (queueOf s q).enable

/-- SUBMISSION_DOORBELL (R34, R56, R508). -/
def execSubmissionDoorbell (f : FnId) (q : QueueId) (v : Word32) (s : State) : Host.Outcome State Fault Refusal :=
  .next (
    let x := queueOf s q
    let i := v.toNat % 4096
    if !doorbellPage s f q then s
    else if ringSize x ≤ i ∨ x.planQueue then setQueue s q { x with doorbellErr := true }
    else setQueue s q { x with subIndex := BitVec.ofNat 12 i })

/-- COMPLETION_DOORBELL: frees the slots from the previous INDEX on (R508). -/
def execCompletionDoorbell (f : FnId) (q : QueueId) (v : Word32) (s : State) : Host.Outcome State Fault Refusal :=
  .next (
    let x := queueOf s q
    let i := v.toNat % 4096
    if !doorbellPage s f q then s
    else if ringSize x ≤ i then setQueue s q { x with doorbellErr := true }
    else setQueue s q { x with
      cqIndex := BitVec.ofNat 12 i,
      cqUsed := x.cqUsed - (i + ringSize x - x.cqIndex.toNat) % ringSize x })

/-! ## Order (R51) -/

/-- A FENCE ahead of the item in its scope has not published. -/
def fenced (s : State) (x : Item) : Bool := s.gh.items.any (fun y => isFence y && itemBefore y x && inScope s y x)

/-- The item's deadline has passed (R54). -/
def pastDeadline (s : State) (x : Item) : Bool :=
  dDeadline x.desc != 0 && decide (x.accepted + dDeadline x.desc * 1000 ≤ now s)

/-- The item may start: accepted, not begun, its waits satisfied, no FENCE ahead of it and its deadline not passed. -/
def mayStart (s : State) (x : Item) : Bool :=
  x.stage == .accepted && !x.began && !x.plan && x.verdict.isNone && waitsMet s x && !fenced s x && !pastDeadline s x

/-- FENCE: begins and is done once its waits are satisfied and every item accepted before it in its
scope has published (R51, R531). -/
def execFence (i : ItemId) (t : Nat) (s : State) : Host.Outcome State Fault Refusal :=
  .next (
    let s := atTime t s
    match findItem s i with
    | none => s
    | some x =>
      if dType x.desc = 5 ∧ ghRuns s ∧ mayStart s x ∧ !scopeBusy s x then
        completeItem (modItem s i (fun y => { y with began := true })) i stOk 0
      else s)

/-- A SYNC item's condition: its waits, and every item before it on its queue has published (R74). -/
def syncReady (s : State) (x : Item) (op : Nat) : Bool :=
  dType x.desc == 8 && field x.desc 16 1 == op && ghRuns s && mayStart s x &&
    x.id.seq == (queueOf s x.id.queue).pubSeq

/-- Applies a SYNC item and completes it. -/
def runSync (s : State) (x : Item) (reset : Bool) : State :=
  let op : SyncOp := ⟨reset, BitVec.ofNat 16 (field x.desc 18 2), BitVec.ofNat 32 (field x.desc 20 4)⟩
  completeItem (modItem (applySync s [op]) x.id (fun y => { y with began := true })) x.id stOk 0

/-- SYNC_ADD (R72, R74). -/
def execSyncAdd (i : ItemId) (t : Nat) (s : State) : Host.Outcome State Fault Refusal :=
  .next (
    let s := atTime t s
    match findItem s i with
    | none => s
    | some x => if syncReady s x 0 then runSync s x false else s)

/-- SYNC_RESET (R72, R74). -/
def execSyncReset (i : ItemId) (t : Nat) (s : State) : Host.Outcome State Fault Refusal :=
  .next (
    let s := atTime t s
    match findItem s i with
    | none => s
    | some x => if syncReady s x 1 then runSync s x true else s)

/-! ## Publication (R52, R53) -/

/-- The signals of an item as operations (R36, R74). -/
def signalOps (x : Item) : List SyncOp :=
  if x.plan then [] else (List.range (dNSignal x.desc)).map (fun k => ⟨false, BitVec.ofNat 16 (dSignal x.desc k), 1⟩)

/-- An item as the journal gives it for its publication: one whose entry no mirror gives is lost (R226). -/
def storedItem (s : State) (x : Item) : State × Item :=
  let s1 := if x.stage = .rejected then s else journalRead s x.id
  (s1, (findItem s1 x.id).getD x)

/-- Publishes an item that is next on its queue: its record, its signals, STATE 4 (R53). -/
def publish (s : State) (x : Item) : State :=
  let r := storedItem s x
  let s := r.1
  let x := r.2
  let q := queueOf s x.id.queue
  let v := x.verdict.getD (0, 0)
  let rcd := recordBytes q x v.1 v.2 (now s)
  let slot := q.cqBase.toNat + 32 * (x.id.seq.toNat % ringSize q)
  let s1 := { s with hostMem := memWrites s.hostMem slot rcd }
  let s2 := setQueue s1 x.id.queue { q with pubSeq := q.pubSeq + 1, cqUsed := q.cqUsed + 1 }
  let s3 := { s2 with gh := { s2.gh with items := s2.gh.items.filter (fun y => y.id != x.id) } }
  if x.stage = .rejected then s3
  else
    let s4 := if v.1.toNat < 0x100 ∧ !x.dropped then applySync s3 (signalOps x) else s3
    let s5 := noteMoved (journalState s4 x 4) q.cls
    let s6 := noteEvent s5 x 2 v.1
    { s6 with gh := { s6.gh with
        published := s6.gh.published.modify (classCode q.cls) (fun n => n + 1) } }

/-- Requests for a queue can be issued: its owner is in D0 with Bus Master Enable 1 (R505). -/
def queueIssues (s : State) (q : QueueId) : Bool := fnCanIssue s (queueOf s q).function.toNat

/-- ITEM_PUBLISH (R35, R52, R53). -/
def execItemPublish (i : ItemId) (t : Nat) (s : State) : Host.Outcome State Fault Refusal :=
  .next (
    let s := atTime t s
    match findItem s i with
    | none => s
    | some x =>
      let q := queueOf s i.queue
      if publishNext s x ∧ ghRuns s ∧ q.cqUsed < ringSize q ∧ queueIssues s i.queue then publish s x else s)

/-! ## Deadlines and beginnings (R54, R531) -/

/-- What an ID keeps when it becomes FREE: the entry numbers of GH_BATCH_ENTRY without their VALID bits (R251). -/
def freedContext (x : Context) : Context := { contextReset with batch := x.batch &&& 0x7FFF7FFF7FFF7FFF }

/-- A CONTEXT-CREATE that fails, expires or is closed before READY returns its ID to FREE (R45, R531):
its bound shelves, its quota and its ID. -/
def dropContext (s : State) (c : CtxId) : State := modCtx (releaseAll s c) c freedContext

/-- Completes every CONTEXT-DESTROY that waits for an ID, whatever it still waits for (R530). One that has not begun when
its deadline passes has expired (R54). -/
def closeDestroys (s : State) (c : CtxId) (st : BitVec 16) (det : Word32) : State :=
  s.gh.items.foldl (fun a x =>
    if itemNames x c ∧ dType x.desc = 7 ∧ itemLive x ∧ x.stage ≠ .done then
      if !x.began ∧ pastDeadline s x then completeItem a x.id stDeadlineExpired 0 else completeItem a x.id st det
    else a) s

/-- DEADLINE_EXPIRE (R54). -/
def execDeadlineExpire (i : ItemId) (t : Nat) (s : State) : Host.Outcome State Fault Refusal :=
  .next (
    let s := atTime t s
    match findItem s i with
    | none => s
    | some x =>
      if x.plan ∨ x.stage ≠ .accepted ∨ x.began ∨ x.verdict.isSome ∨ !pastDeadline s x then s
      else
        let s1 := if dType x.desc = 6 then closeDestroys (dropContext s (dCtx x.desc)) (dCtx x.desc) stOk 0 else s
        completeItem s1 i stDeadlineExpired 0)

/-- The start of a descriptor's scan: HINT_DIE where it is valid and in service, else the home die (R69). -/
def scanFrom (s : State) (d : List Byte) : KilnId :=
  if dHintValid d ∧ dHintDie d < 4 ∧ kilnIn s (kilnId (dHintDie d)) then kilnId (dHintDie d)
  else (ctxOf s (dCtx d)).home

/-- The engine on which a COPY starts: a replay takes another one (R42). That COPY transfers count among an engine's 16
chains the manual does not say (DESIGN CHOICE, log 129). -/
def copyEngine (s : State) (x : Item) : Option TileId :=
  (tileScan s (scanFrom s x.desc)).find? (fun tl =>
    tileIn s tl && decide (chainsOn s tl + copiesOn s tl < 16) && x.avoid != some tl)

/-- Marks an item begun: STATE 2 (R48, R531). -/
def beginItem (s : State) (x : Item) : State :=
  let y := { x with began := true, stage := .running }
  journalState (modItem s x.id (fun _ => y)) y 2

/-- Acceptance order as a number (R51). -/
def orderOf (x : Item) : Nat := x.accepted * 2 ^ 38 + x.id.queue.val * 2 ^ 32 + x.id.seq.toNat

/-- The sections that make a Fusion Engine configuration complete (R276). -/
def fusionNeeds : List Nat := [1, 2, 4, 6, 7]

/-- A configuration section starts: it is done and waits for its boundary (R276, R303). A region slot or
node-cost section puts its slot in LOADING. -/
def beginSection (s : State) (x : Item) : State :=
  let sec := field x.desc 28 1
  let w : PendingSection := { order := orderOf x, secNo := sec, block := x.block, item := x.id }
  let s1 := beginItem s x
  let s2 := if dType x.desc = 3 then
      let l := s1.fe.waiting ++ [w]
      let ready := fusionNeeds.all (fun k => tabHas s1.fe.config k || l.any (fun y => y.secNo == k))
      { s1 with fe := { s1.fe with waiting := l, state := if s1.fe.state = 0 ∧ ready then 1 else s1.fe.state } }
    else
      let load := if 0x20 ≤ sec ∧ sec ≤ 0x3E then s1.mz.loading ||| BitVec.ofNat 15 (2 ^ (sec % 16)) else s1.mz.loading
      { s1 with mz := { s1.mz with waiting := s1.mz.waiting ++ [w], loading := load } }
  completeItem s2 x.id stOk 0

/-- ITEM_BEGIN: the beginnings of R531 that rest on waits and fences alone. A COPY starts its transfer, a
CONTEXT-CREATE its image read, a configuration section starts. A RUN of no instances and a COPY of no bytes
complete (R14, R38). -/
def execItemBegin (i : ItemId) (t : Nat) (s : State) : Host.Outcome State Fault Refusal :=
  .next (
    let s := atTime t s
    match findItem s i with
    | none => s
    | some x =>
      if !ghRuns s ∨ !x.taken ∨ x.verdict.isSome ∨ x.error.isSome then s
      else
        let fresh := mayStart s x
        let again := x.began && x.stage == .running && x.engine.isNone && dType x.desc == 2
        let ctx := ctxOf s (dCtx x.desc)
        if dType x.desc = 1 ∧ fresh ∧ field x.desc 26 2 = 0 then completeItem (beginItem s x) i stOk 0
        else if dType x.desc = 2 ∧ (fresh ∨ again) ∧ ctx.state = .ready then
          if copyLen x.desc = 0 then completeItem (beginItem s x) i stOk 0
          else if !windowOpenFor s ctx then s
          else
            match copyEngine s x with
            | none => s
            | some tl =>
              let s := modTile s tl (fun z => { z with dbg := { z.dbg with used := z.dbg.used ||| 16 } })
              modItem (beginItem s x) i (fun y =>
                if y.stage = .running then { y with engine := some tl, engineAt := now s, copied := 0 } else y)
        else if (dType x.desc = 3 ∨ dType x.desc = 4) ∧ fresh then beginSection s x
        else if dType x.desc = 6 ∧ fresh then beginItem s x
        else s)

/-! ## Replay (R58) -/

/-- Instance indexes that a RUN starts with: all of them, or for a batch those that its table step finds. -/
def firstTodo (x : Item) : List Nat :=
  if x.batch || dType x.desc != 1 then [] else List.range (field x.desc 26 2)

/-- ITEM_REPLAY: an item whose error calls for a replay starts again once its instances and chains have
ended (R58, R174). -/
def execItemReplay (i : ItemId) (s : State) : Host.Outcome State Fault Refusal :=
  .next (
    match findItem s i with
    | none => s
    | some x =>
      let s := if x.error.isSome then stopItem s i else s
      let leaving := s.tl.tiles.any (fun e => e.2.leaving.isSome && e.2.inst.any (fun w => w.item == i))
      let busy := !((itemInsts s i).filter (fun w => !w.golden)).isEmpty || !(itemChains s i).isEmpty || leaving
      if x.error.isNone ∨ busy ∨ x.engine.isSome ∨ x.stage = .done then s
      else
        let y := { x with error := none, replays := x.replays + 1, todo := firstTodo x, ended := 0, tabled := false, copied := 0 }
        journalState (modItem s i (fun _ => y)) y 2)

/-! ## The journal's mirrors (R48, R49, R68) -/

/-- Code of an item's stage in its journal entry. -/
def stageCode : Stage → Nat
  | .rejected => 0
  | .accepted => 1
  | .running => 2
  | .done => 3

/-- The 128 B journal entry of an item (R48). -/
def journalEntry (s : State) (x : Item) : List Byte :=
  let v := x.verdict.getD (0, 0)
  let rcd := if x.stage = .done then recordBytes (queueOf s x.id.queue) x v.1 v.2 (now s) else zeros 32
  slice x.desc 0 64 ++ leBytes 4 x.id.seq.toNat ++ leBytes 1 x.id.queue.val ++ leBytes 1 (stageCode x.stage) ++
    leBytes 1 x.replays ++ [0] ++ rcd ++ leBytes 8 x.accepted ++ zeros 16

/-- Writes every listed item's entry into the mirrors. -/
def writeJournal (s : State) : State :=
  s.gh.items.foldl (fun a x => if itemLive x then journalWrite a x.id 0 (journalEntry a x) else a) s

/-- The mirrors that R48 wants: the two lowest-numbered Kiln dies in service. -/
def wantedMirrors (s : State) : Option KilnId × Option KilnId := ((kilnsIn s)[0]?, (kilnsIn s)[1]?)

/-- What remains of a golden duty when the record of its item is final: none holds the publication. -/
def noDuty : GoldenDuty → GoldenDuty
  | .due => .none
  | .running _ => .none
  | g => g

/-- Completes every accepted, unpublished item when the last Kiln die has left service (R68). One that is done gets a new
status in place of its own. Whether the section of a configuration item so ended still takes effect the manual does not
say: here it does (DESIGN CHOICE, log 141). -/
def lastKilnLost (s : State) (last : Nat) : State :=
  s.gh.items.foldl (fun a x =>
    if x.stage = .rejected then a
    else if x.stage = .done then
      let works := !x.plan && (dType x.desc == 1 || dType x.desc == 2)
      let a := stopInsts a (itemInsts a x.id)
      modItem a x.id (fun y => { y with
        golden := noDuty y.golden,
        verdict := some (if works && !x.began then (stNoTiles, 0) else (stInputLost, BitVec.ofNat 32 last)) })
    else
      let a1 := stopInsts a (itemInsts a x.id)
      let a2 := setChains a1 (a1.tl.chains.filter (fun y => y.inst.item != x.id))
      let works := dType x.desc == 1 || dType x.desc == 2
      let a3 := modItem a2 x.id (fun y => { y with todo := [], engine := none, error := none, golden := noDuty y.golden })
      let a4 := if dType x.desc = 6 ∧ (ctxOf a3 (dCtx x.desc)).state = .loading then dropContext a3 (dCtx x.desc) else a3
      if works && !x.began then completeItem a4 x.id stNoTiles 0
      else completeItem a4 x.id stInputLost (BitVec.ofNat 32 last)) s

/-- The mirrors after a change of the dies in service: a lost mirror starts its rebuild, or the journal
runs single, or ends with the last die (R49, R68). R49 speaks of a loss only: when a lower-numbered die returns to
service the mirrors stay where they are (DESIGN CHOICE, log 126). -/
def noteMirrors (s : State) (lost : Nat) : State :=
  let l := kilnsIn s
  let keep (m : Option KilnId) : Option KilnId := match m with
    | some k => if l.contains k then some k else none
    | none => none
  let a := keep s.gh.mirrorA
  let b := keep s.gh.mirrorB
  if l.isEmpty then
    if s.gh.mirrorA.isNone && s.gh.mirrorB.isNone && !s.gh.rebuilding then s
    else lastKilnLost { s with gh := { s.gh with mirrorA := none, mirrorB := none, rebuilding := false, single := false } } lost
  else if l.length = 1 then
    { s with gh := { s.gh with mirrorA := a, mirrorB := b, single := a.isSome || b.isSome,
                               rebuilding := a.isNone && b.isNone } }
  else { s with gh := { s.gh with mirrorA := a, mirrorB := b, single := false, rebuilding := a.isNone || b.isNone } }

/-- JOURNAL_REBUILD: the lost mirror has been written on the next lowest-numbered Kiln die in service and
acceptance resumes (R49). Where no Kiln die in service has memory for one, the rebuild stays due (R68). -/
def execJournalRebuild (s : State) : Host.Outcome State Fault Refusal :=
  .next (
    if !s.gh.rebuilding then s
    else
      let l := (kilnsIn s).filter (fun k => decide (0 < presentBytes s k.val))
      let fill (m other : Option KilnId) : Option KilnId := match m with
        | some k => some k
        | none => l.find? (fun k => some k != other)
      let a := fill s.gh.mirrorA s.gh.mirrorB
      let b := fill s.gh.mirrorB a
      let s1 := { s with gh := { s.gh with mirrorA := a, mirrorB := b, rebuilding := false,
                                           single := a.isSome && b.isNone } }
      if l.isEmpty then s else writeJournal s1)

/-! ## Progress blocks (R76, R77) -/

def progressOf (s : State) (f : Nat) : Progress := tabGet progressReset s.gh.progress f

def setProgress (s : State) (f : Nat) (x : Progress) : State :=
  { s with gh := { s.gh with progress := tabPut s.gh.progress f x } }

def classes : List Class := [.qm, .b, .d]

/-- The partition has no accepted and unpublished item. -/
def classIdle (s : State) (c : Class) : Bool :=
  !s.gh.items.any (fun x => itemLive x && (queueOf s x.id.queue).cls == c)

/-- HEARTBEAT of the partitions of a function at a write (R77). -/
def beat (s : State) (f : Nat) : State :=
  classes.foldl (fun a c =>
    if classFunction a c = f then
      let moved := a.gh.moved.getD (classCode c) false
      { a with gh := { a.gh with
          heartbeat := if classIdle a c || moved then a.gh.heartbeat.modify (classCode c) (fun n => n + 1)
            else a.gh.heartbeat,
          moved := a.gh.moved.set (classCode c) false } }
    else a) s

/-- The 256 B progress block of a function (R76). -/
def progressBlock (s : State) (f : Nat) (count : Word64) : List Byte :=
  let own (c : Class) : Bool := classFunction s c == f
  let queues := (List.range 64).map (fun n => (queueId n, (queueOf s (queueId n)).function.toNat == f))
  leBytes 8 (now s) ++ leBytes 8 count.toNat ++
    classes.flatMap (fun c => leBytes 4 (if own c then (s.gh.heartbeat.getD (classCode c) 0).toNat else 0)) ++ zeros 4 ++
    classes.flatMap (fun c => leBytes 8 (if own c then (s.gh.published.getD (classCode c) 0).toNat else 0)) ++ zeros 8 ++
    queues.flatMap (fun e => leBytes 2 (if e.2 then (queueOf s e.1).head.toNat else 0)) ++
    queues.flatMap (fun e => leBytes 1 (if e.2 then
      b2n (queueOf s e.1).enable + 2 * b2n (acceptStall s e.1) + 4 * b2n (cqFull s e.1) else 0))

/-- PROGRESS_WRITE: one periodic write of a function's progress block (R76). -/
def execProgressWrite (f : FnId) (t : Nat) (s : State) : Host.Outcome State Fault Refusal :=
  .next (
    let s := atTime t s
    let p := progressOf s f.val
    if !p.base.getLsbD 0 ∨ !fnExists s f.val ∨ !fnCanIssue s f.val ∨ !ghRuns s then s
    else
      let s1 := beat s f.val
      let n := satInc p.writeCount
      let s2 := setProgress s1 f.val { p with writeCount := n }
      { s2 with hostMem := memWrites s2.hostMem (p.base.toNat / 256 * 256) (progressBlock s2 f.val n) })

end Sys2Proof.Machine
end

