-- ==== Sys2Proof/Machine/Checks.lean ====
section
/-! DEFINITION. How the device checks what it accepts (R14 to R18, R534, R535): broken rules and their
precedence, field checks, address regions (R216, R347), the Gatehouse's reads for a context, and the Ulash
image format (R181 to R184, R282, R323). -/

namespace Sys2Proof.Machine

/-- A broken rule: its status, the position of the field that it names and its DETAIL. -/
structure Viol where
  st  : BitVec 16
  pos : Nat
  det : Nat
  deriving DecidableEq, Repr

/-- Position of a field of a named block (R18). -/
def blockPos (off : Nat) : Nat := 0x1000 + off

/-- Precedence of R18; the image statuses of R534 rank below. -/
def stRank (st : BitVec 16) : Nat :=
  if st = stFieldReserved then 1 else if st = stFieldRange then 2 else if st = stSizeOverrun then 3
  else if st = stClassMismatch then 4 else if st = stSyncRange then 5 else if st = stContextInvalid then 6
  else if st = stContextBusy then 7 else if st = stNoShelves then 8 else 9

/-- Of two broken rules the one that is reported. -/
def worse (a b : Viol) : Viol :=
  if stRank b.st < stRank a.st ∨ (stRank b.st = stRank a.st ∧ b.pos < a.pos) then b else a

/-- The status reported for a list of broken rules (R18). -/
def worst : List Viol → Option Viol
  | [] => none
  | v :: r => some (r.foldl worse v)

/-- A rule that names its field. -/
def chk (bad : Bool) (st : BitVec 16) (pos : Nat) : List Viol := if bad then [⟨st, pos, pos⟩] else []

/-- A rule with a DETAIL of its own. -/
def chkDet (bad : Bool) (st : BitVec 16) (pos det : Nat) : List Viol := if bad then [⟨st, pos, det⟩] else []

/-- A field of `w` bits with a stated range: all-ones outside it is a reserved encoding, another value
outside it is out of range (R15, R17). -/
def lim (pos v lo hi w : Nat) : List Viol :=
  if lo ≤ v ∧ v ≤ hi then []
  else [⟨if v = 2 ^ w - 1 then stFieldReserved else stFieldRange, pos, pos⟩]

/-- A field without a stated range: all-ones is reserved (R15). -/
def noOnes (pos v w : Nat) : List Viol := chk (v == 2 ^ w - 1) stFieldReserved pos

/-- Reserved bytes of a block: nonzero ones name the reserved field. -/
def resv (b : List Byte) (off n : Nat) : List Viol := chk (!allZero (slice b off n)) stFieldReserved (blockPos off)

/-- An 8 B address field of a block: bits [63:48] reserved. -/
def addr8 (b : List Byte) (off : Nat) : List Viol := chk (field b (off + 6) 2 != 0) stFieldReserved (blockPos off)

/-- A SYNC_ID outside a class's range (R39). -/
def syncViol (s : State) (c : Class) (pos id : Nat) : List Viol :=
  chkDet (!inSyncRange s.part c id) stSyncRange pos id

/-- A region lies in present LPDDR6 or in host memory and does not run past the range that holds its start (R216). A die
to which the hub has no route counts as absent (R242). -/
def regionOk (s : State) (pa n : Nat) : Bool :=
  match placeOf pa with
  | .lpddr k off => kilnIn s k && decide (off + max n 1 ≤ presentBytes s k.val) && (pathRoute s 4 k.val).hops != 0xFF
  | .host h => decide (h + max n 1 ≤ 0x4000_0000_0000)
  | _ => false

/-- A FP32 value above 0. -/
def fpAbove0 (w : Nat) : Bool := decide (0 < w) && decide (w ≤ 0x7F800000)

/-! ## The Gatehouse's accesses for a context -/

/-- The physical address of a virtual one as the Gatehouse reaches it: a walk on the home die, then an access from the hub.
The partner refuses an
address outside the blocks that it has lent (R242). -/
def gwTranslate (s : State) (c : CtxId) (va : Nat) (write : Bool) : State × Except VaErr Nat :=
  match walked s c va (walk s c 4 va write) with
  | (s1, .error e) => (s1, .error e)
  | (s1, .ok (base, _, pa, _)) =>
    let a := pa + (va - base)
    (s1, if inPartner a && !lentToUs s1 a then .error (.fault va 6) else .ok a)

/-- A Gatehouse access of a context to a virtual range is held: a page of it lies in host memory and the function whose
requester ID the request carries cannot issue (R217, R505). -/
def gwHeld (s : State) (c : CtxId) (va n : Nat) (write : Bool) : Bool :=
  (List.range ((va % 4096 + n + 4095) / 4096)).any (fun j =>
    match (gwTranslate s c (if j = 0 then va else va / 4096 * 4096 + 4096 * j) write).2 with
    | .ok pa => hostHeld s c pa
    | .error _ => false)

/-- Reads a virtual range for a context, page by page. -/
def gwReads (c : CtxId) : Nat → State → Nat → Nat → State × Except VaErr (List Byte)
  | 0, s, _, _ => (s, .ok [])
  | fuel + 1, s, va, n =>
    if n = 0 then (s, .ok [])
    else
      let k := min n (4096 - va % 4096)
      match gwTranslate s c va false with
      | (s1, .error e) => (s1, .error e)
      | (s1, .ok pa) =>
        match badGranule s1 pa k with
        | some g => (noteUncorrectable s1 g false, .error (.bad g))
        | none =>
          match gwReads c fuel (correctGranules s1 pa k) (va + k) (n - k) with
          | (s2, .error e) => (s2, .error e)
          | (s2, .ok r) => (s2, .ok (paReads s1 pa k ++ r))

/-- Writes bytes that lie within one page for a context. -/
def gwWrite (s : State) (c : CtxId) (va : Nat) (l : List Byte) : State × Except VaErr Unit :=
  match gwTranslate s c va true with
  | (s1, .error e) => (s1, .error e)
  | (s1, .ok pa) =>
    match partialGranule s1 pa l.length with
    | some g => (noteUncorrectable s1 g false, .error (.bad g))
    | none => (paWrites s1 pa l, .ok ())

/-! ## Ulash images -/

/-- Image kinds: 1 a tile program (R181), 3 a recipe (R282), 4 a search program (R323). -/
def magicOk (b : List Byte) : Bool := slice b 0 4 == [0x55, 0x4C, 0x53, 0x48]

/-- Section table entry `i`: FILE_OFF, FILE_LEN, SHELF_ADDR, MEM_LEN and its own offset (R182). -/
structure SectionEntry where
  at_     : Nat
  fileOff : Nat
  fileLen : Nat
  addr    : Nat
  memLen  : Nat
  deriving DecidableEq, Repr

def imgSections (b : List Byte) : Nat := field b 18 2
def imgEntries (b : List Byte) : Nat := field b 20 2
def imgFootprint (b : List Byte) : Nat := field b 16 2

def sectionsOf (b : List Byte) : List SectionEntry :=
  (List.range (imgSections b)).map (fun i =>
    let o := field b 24 4 + 16 * i
    ⟨o, field b o 4, field b (o + 4) 4, field b (o + 8) 4, field b (o + 12) 4⟩)

/-- Entry table of an image (R182). -/
def entriesOf (b : List Byte) : List Word32 :=
  (List.range (imgEntries b)).map (fun j => BitVec.ofNat 32 (field b (field b 28 4 + 4 * j) 4))

/-- The lowest of the offsets at which a rule fails. -/
def lowestOff : List Nat → Option Nat
  | [] => none
  | a :: r => some (r.foldl min a)

/-- The first rule in a list that fails, by its lowest offset (R184). -/
def firstRule : List (List Nat) → Option Nat
  | [] => none
  | r :: t =>
    match lowestOff r with
    | some o => some o
    | none => firstRule t

def badAt (bad : Bool) (off : Nat) : List Nat := if bad then [off] else []

/-- Pairs of a list with each element's predecessors. -/
def withEarlier {α : Type} : List α → List α → List (α × List α)
  | _, [] => []
  | before, x :: r => (x, before) :: withEarlier (before ++ [x]) r

/-- Rules on the header fields of a tile program beyond R184's own list (R181): counts in their ranges,
the reserved field, alignments. They rank after the list (DEDUCED, log 39). -/
def tileHeader (b : List Byte) : List Nat :=
  badAt (imgFootprint b == 0 || decide (40960 < imgFootprint b)) 16 ++
    badAt (imgSections b == 0 || decide (64 < imgSections b)) 18 ++
    badAt (imgEntries b == 0 || decide (1024 < imgEntries b)) 20 ++ badAt (field b 22 2 != 0) 22 ++
    badAt (field b 24 4 % 8 != 0) 24 ++ badAt (field b 28 4 % 8 != 0) 28

/-- The format rules of a tile program in the order of R184: the offset of the first that fails. `len` is
the creation block's IMAGE_LEN, `seed` its SEED_SHELF. Whether a section with no data lies within IMAGE_LEN wherever its
FILE_OFF points the manual does not say: here FILE_OFF must (DESIGN CHOICE, log 159). -/
def tileFormat (b : List Byte) (len seed : Nat) : Option Nat :=
  let so := field b 24 4
  let eo := field b 28 4
  let secs := sectionsOf b
  let top := imgFootprint b * 65536
  let loads := secs.filter (fun e => e.memLen != 0)
  firstRule [
    badAt (!magicOk b) 0 ++ badAt (field b 4 2 != 2) 4 ++ badAt (field b 6 2 != 1) 6,
    badAt (field b 8 4 != len || decide (len < 128)) 8,
    badAt (decide (len < so + 16 * imgSections b)) 24 ++ badAt (decide (len < eo + 4 * imgEntries b)) 28 ++
      secs.flatMap (fun e => badAt (decide (len < e.fileOff + e.fileLen)) (e.at_ + 4)),
    loads.flatMap (fun e => badAt (decide (top < e.addr + e.memLen)) (e.at_ + 12)),
    (withEarlier [] loads).flatMap (fun p =>
      badAt (p.2.any (fun e => decide (p.1.addr < e.addr + e.memLen) && decide (e.addr < p.1.addr + p.1.memLen))) (p.1.at_ + 12) ++
        badAt (decide (p.1.addr < (seed + 1) * 65536) && decide (seed * 65536 < p.1.addr + p.1.memLen)) (p.1.at_ + 12)),
    badAt (decide (imgFootprint b ≤ seed)) 16,
    (List.range (imgEntries b)).flatMap (fun j =>
      let a := field b (eo + 4 * j) 4
      badAt (!loads.any (fun e => decide (e.addr ≤ a) && decide (a < e.addr + e.fileLen))) (eo + 4 * j)),
    tileHeader b,
    secs.flatMap (fun e => badAt (e.fileOff % 64 != 0 || decide (e.fileOff < 128)) e.at_ ++
      badAt (e.addr % 64 != 0) (e.at_ + 8) ++ badAt (decide (e.memLen < e.fileLen)) (e.at_ + 12)),
    (List.range (imgEntries b)).flatMap (fun j => badAt (field b (eo + 4 * j) 4 % 8 != 0) (eo + 4 * j))]

/-- Header and section table rules of a recipe or a search program (R282, R323), in the order in which they are
stated: the header of R181, then what differs from it (FOOTPRINT, ENTRIES and SEED_INIT reserved, exactly one
section), then the section's entry and its data within the image. -/
def planImage (b : List Byte) (len kind : Nat) : List (List Nat) :=
  let so := field b 24 4
  let e : SectionEntry := ⟨so, field b so 4, field b (so + 4) 4, field b (so + 8) 4, field b (so + 12) 4⟩
  [badAt (!magicOk b) 0 ++ badAt (field b 4 2 != 2) 4 ++ badAt (field b 6 2 != kind) 6,
   badAt (field b 8 4 != len || decide (len < 128)) 8,
   badAt (field b 22 2 != 0) 22, badAt (so % 8 != 0) 24, badAt (field b 28 4 % 8 != 0) 28,
   badAt (imgFootprint b != 0) 16 ++ badAt (imgEntries b != 0) 20 ++
     (List.range 12).flatMap (fun k => badAt (!allZero (slice b (32 + 8 * k) 8)) (32 + 8 * k)),
   badAt (imgSections b != 1) 18,
   badAt (decide (len < so + 16)) 24,
   badAt (e.fileOff % 64 != 0 || decide (e.fileOff < 128)) so ++
     badAt (kind == 4 && e.addr != 0) (so + 8) ++ badAt (kind == 4 && e.memLen != e.fileLen) (so + 12),
   badAt (decide (len < e.fileOff + e.fileLen)) (so + 4)]

/-- FILE_OFF and FILE_LEN of an image's one section. -/
def imgData (b : List Byte) : Nat × Nat := (field b (field b 24 4) 4, field b (field b 24 4 + 4) 4)

/-- The checks of an image named by a configuration section: CRC, then format (R534). -/
def imageViols (b : List Byte) (len : Nat) (rules : List (List Nat)) : List Viol :=
  let crc := imageCrc (b.take len)
  if crc.toNat ≠ field b 12 4 then [⟨stImageCrc, 0x2000, crc.toNat⟩]
  else
    match firstRule rules with
    | some o => [⟨stImageFormat, 0x2000, o⟩]
    | none => []

end Sys2Proof.Machine
end

