-- ==== Sys2Proof/Machine/Sections.lean ====
section
/-! DEFINITION. The FUSE-CONFIG and PLAN-CONFIG sections: their lengths (R275, R301) and the checks of
their blocks at acceptance (R277 to R282, R302 to R308, R320, R323, R344, R345, R347, R365, R368, R380). -/

namespace Sys2Proof.Machine

/-! ## What a section is checked against -/

/-- The sensor table of the section 0x01 item accepted last, else the one in force (R282). -/
def sensorTable (s : State) : List Byte :=
  match lastPending s true 1 with
  | some x => x.block
  | none => tabGet [] s.fe.config 1

/-- TYPE of a sensor in a sensor table. -/
def sensorType (t : List Byte) (i : Nat) : Nat := field t (32 * i) 1

def isCamera (ty : Nat) : Bool := ty == 1 || ty == 2

/-- The 128 B of a schedule (R344). -/
def scheduleBytes (l : List Window) : List Byte :=
  l.flatMap (fun w => leBytes 2 w.openUs ++ leBytes 2 w.closeUs ++ leBytes 1 w.kind ++
    leBytes 1 (if w.kind = 0 then 0 else classCode w.cls) ++ leBytes 1 w.reserve ++ zeros 9)

/-- The schedule section accepted last, else the schedule in force (R368). -/
def lastSchedule (s : State) : List Byte :=
  match lastPending s false 0x10 with
  | some x => x.block
  | none => scheduleBytes s.part.schedule.toList

/-- A region of `n` bytes lies in class D memory (R347). -/
def inDMemory (s : State) (pa n : Nat) : Bool := inClassMemory s .d pa n

/-! ## Lengths -/

/-- CFG_LEN that a section must have; `b` holds the bytes of the block read for it. `none` when the block
is too short to say or the section does not exist. -/
def sectionLen (fuse : Bool) (sec : Nat) (b : List Byte) : Option Nat :=
  if fuse then
    if sec = 1 then some 1024 else if sec = 2 then some 4096 else if sec = 3 then some 280576
    else if sec = 4 ∨ sec = 5 then some 512 else if sec = 6 then some 128
    else if sec = 7 ∧ 12 ≤ b.length then some (field b 8 4)
    else none
  else
    if sec = 1 ∨ sec = 0x13 then some 64 else if sec = 2 then some 160
    else if sec = 3 ∧ 2 ≤ b.length then some (64 + 48 * field b 0 2)
    else if sec = 4 ∧ 12 ≤ b.length ∧ field b 8 4 ≤ 65536 then some (field b 8 4)
    else if sec = 0x10 ∨ sec = 0x11 then some 128 else if sec = 0x12 then some 525312
    else if 0x20 ≤ sec ∧ sec ≤ 0x2E ∧ 4 ≤ b.length then some (64 + 16 * field b 0 2 + 128 * field b 2 2)
    else if 0x30 ≤ sec ∧ sec ≤ 0x3E then some 16384
    else none

/-- The section exists (R275, R301). -/
def sectionKnown (fuse : Bool) (sec : Nat) : Bool :=
  if fuse then decide (1 ≤ sec) && decide (sec ≤ 7)
  else (decide (1 ≤ sec) && decide (sec ≤ 4)) || (decide (0x10 ≤ sec) && decide (sec ≤ 0x13)) ||
    (decide (0x20 ≤ sec) && decide (sec ≤ 0x2E)) || (decide (0x30 ≤ sec) && decide (sec ≤ 0x3E))

/-! ## FUSE-CONFIG -/

/-- An entry that its field at `sel` marks unused must be all zero: one breach, in which that field and every nonzero
one of `fields`, given as (offset, size), take part; it names the highest of their offsets (R535; DEDUCED, log 68). -/
def mustBeZero (b : List Byte) (o sel : Nat) (fields : List (Nat × Nat)) : List Viol :=
  let bad := fields.filter (fun f => field b (o + f.1) f.2 != 0)
  chk (!bad.isEmpty) stFieldRange (blockPos (o + (bad.map (fun f => f.1)).foldl max sel))

/-- All-ones of the fields of an unused entry, given as (offset, size), is a reserved encoding all the same (R15). -/
def noOnesIn (b : List Byte) (o : Nat) (fields : List (Nat × Nat)) : List Viol :=
  fields.flatMap (fun f => noOnes (blockPos (o + f.1)) (field b (o + f.1) f.2) (8 * f.2))

/-- Sensor entry `i` (R277). -/
def sensorViols (b : List Byte) (i : Nat) : List Viol :=
  let o := 32 * i
  let f (off n : Nat) : Nat := field b (o + off) n
  let at_ (off : Nat) : Nat := blockPos (o + off)
  let ty := f 0 1
  let cam := isCamera ty
  let lidar := ty == 3
  if 6 < ty then [⟨stFieldReserved, at_ 0, at_ 0⟩]
  else
    resv b (o + 21) 1 ++ resv b (o + 29) 1 ++
    (if ty = 0 then
      noOnesIn b o [(1, 1), (2, 1), (4, 4), (12, 4), (16, 4), (22, 2), (24, 2), (26, 2), (28, 1), (30, 2)] ++
        mustBeZero b o 0 [(1, 1), (2, 1), (3, 1), (4, 4), (8, 4), (12, 4), (16, 4), (20, 1), (22, 2), (24, 2), (26, 2), (28, 1), (30, 2)]
    else
      lim (at_ 1) (f 1 1) 0 (if cam then 15 else if ty = 5 then 0 else 3) 8 ++
        lim (at_ 2) (f 2 1) 0 (if cam then 15 else if lidar then 1 else 0) 8 ++
        lim (at_ 3) (f 3 1) 1 255 8 ++ lim (at_ 4) (f 4 4) 1 200000 32 ++
        chk (!cam && f 8 4 != 0) stFieldRange (at_ 8) ++
        (if cam then lim (at_ 12) (f 12 4) 1000 1000000 32 else lim (at_ 12) (f 12 4) 0 0 32) ++
        lim (at_ 16) (f 16 4) 0 100000 32 ++ lim (at_ 20) (f 20 1) 1 255 8 ++
        (if lidar then noOnes (at_ 22) (f 22 2) 16 ++ noOnes (at_ 24) (f 24 2) 16 ++ noOnes (at_ 26) (f 26 2) 16 ++
            lim (at_ 28) (f 28 1) (if f 2 1 = 1 then 12 else 6) 64 8 ++ noOnes (at_ 30) (f 30 2) 16
         else lim (at_ 22) (f 22 2) 0 0 16 ++ noOnesIn b o [(24, 2), (26, 2), (28, 1), (30, 2)]))

/-- Rules between entries of a sensor table: each later entry against the earlier ones (R277). -/
def sensorPairs (b : List Byte) : List Viol :=
  (List.range 32).flatMap (fun j => (List.range j).flatMap (fun i =>
    let f (k off n : Nat) : Nat := field b (32 * k + off) n
    let ti := f i 0 1
    let tj := f j 0 1
    let at_ (off : Nat) : Nat := blockPos (32 * j + off)
    let port := f i 1 1 == f j 1 1
    let spi (t : Nat) : Bool := t == 4 || t == 6
    chk (isCamera ti && isCamera tj && port && f i 12 4 != f j 12 4) stFieldRange (at_ 12) ++
      chk (isCamera ti && isCamera tj && port && f i 2 1 == f j 2 1) stFieldRange (at_ 2) ++
      chk (ti == 3 && tj == 3 && port && f i 22 2 == f j 22 2) stFieldRange (at_ 22) ++
      chk (spi ti && spi tj && port) stFieldRange (at_ 1) ++
      chk (ti == 5 && tj == 5) stFieldRange (at_ 0)))

/-- Calibration entry `i` (R278). -/
def calibrationViols (b : List Byte) (i : Nat) : List Viol :=
  let o := 128 * i
  let lut := field b (o + 68) 1
  chk (decide (31 < lut) && lut != 0xFF) stFieldRange (blockPos (o + 68)) ++ resv b (o + 69) 3 ++ resv b (o + 104) 24

/-- Distortion slot `i` (R278). -/
def distortionViols (b : List Byte) (i : Nat) : List Viol :=
  let o := 8768 * i
  noOnes (blockPos o) (field b o 2) 16 ++ noOnes (blockPos (o + 2)) (field b (o + 2) 2) 16 ++
    resv b (o + 4) 4 ++ resv b (o + 8720) 48

/-- Ingest ring entry `i` (R279, R347). R279 gives the all-zero entry to a sensor of TYPE 0; here every sensor may have one,
and then no ring (DESIGN CHOICE, log 151). -/
def ringViols (s : State) (b : List Byte) (i : Nat) : List Viol :=
  let o := 16 * i
  let base := field b o 6
  let size := field b (o + 8) 4
  let slots := field b (o + 12) 2
  if allZero (slice b o 16) then []
  else
    resv b (o + 6) 2 ++
      (if sensorType (sensorTable s) i = 0 then
        mustBeZero b o 0 [(0, 6), (8, 4), (12, 2), (14, 2)] else []) ++
      chk (base % 64 != 0 || !regionOk s base (size * slots) || !inDMemory s base (max 1 (size * slots))) stFieldRange (blockPos o) ++
      lim (blockPos (o + 8)) size 192 0x400_0000 32 ++ chk (size % 64 != 0 && size != 0xFFFFFFFF) stFieldRange (blockPos (o + 8)) ++
      lim (blockPos (o + 12)) slots 2 1024 16 ++ syncViol s .d (blockPos (o + 14)) (field b (o + 14) 2)

/-- The class B or D whose range holds an object. -/
def producerClass (s : State) (id : Nat) : Option Class :=
  if inSyncRange s.part .d id then some .d else if inSyncRange s.part .b id then some .b else none

/-- Perception channel entry `i` (R280, R347). Where SYNC_ID names no producing class, SLOTS_ADDR is held to the rules
that need none. -/
def channelViols (s : State) (b : List Byte) (i : Nat) : List Viol :=
  let o := 16 * i
  let sensor := field b o 1
  let sync := field b (o + 2) 2
  let slots := field b (o + 4) 6
  if allZero (slice b o 16) then []
  else
    (if 31 < sensor then lim (blockPos o) sensor 0 31 8
     else chk (!isCamera (sensorType (sensorTable s) sensor)) stFieldRange (blockPos o)) ++
      resv b (o + 1) 1 ++ resv b (o + 10) 2 ++
      chkDet (producerClass s sync).isNone stSyncRange (blockPos (o + 2)) sync ++
      chk (slots % 64 != 0 || !regionOk s slots 0x2_0000 ||
        ((producerClass s sync).map (fun c => !inClassMemory s c slots 0x2_0000)).getD false) stFieldRange (blockPos (o + 4)) ++
      lim (blockPos (o + 12)) (field b (o + 12) 4) 1 200000 32

/-- An output region of section 0x06: aligned, in class D memory (R347). -/
def outputRegion (s : State) (b : List Byte) (off align n : Nat) : List Viol :=
  let a := field b off 6
  addr8 b off ++ chk (a % align != 0 || !regionOk s a n || !inDMemory s a n) stFieldRange (blockPos off)

/-- Section 0x06 (Outputs and parameters). -/
def outputViols (s : State) (b : List Byte) : List Viol :=
  outputRegion s b 0 0x20_0000 0xA0_0000 ++ outputRegion s b 8 64 295040 ++ outputRegion s b 16 64 1024 ++
    syncViol s .d (blockPos 24) (field b 24 2) ++ lim (blockPos 28) (field b 28 2) 0 256 16 ++
    lim (blockPos 30) (field b 30 2) 1 0xFFFF 16 ++ lim (blockPos 32) (field b 32 4) 1000 1000000 32 ++
    (if field b 36 4 = 0xFFFFFFFF then [⟨stFieldReserved, blockPos 36, blockPos 36⟩]
     else chk (!fpAbove0 (field b 36 4)) stFieldRange (blockPos 36)) ++ resv b 40 88

/-- Steps of a recipe: (offset, OP, SENSOR). -/
def recipeSteps (b : List Byte) : List (Nat × Nat × Nat) :=
  let d := imgData b
  (List.range (d.2 / 16)).map (fun i => (d.1 + 16 * i, field b (d.1 + 16 * i) 1, field b (d.1 + 16 * i + 1) 1))

/-- Format rules of a recipe in the order of R282. -/
def recipeRules (s : State) (b : List Byte) (len : Nat) : List (List Nat) :=
  let d := imgData b
  let st := recipeSteps b
  let tail (op : Nat) : Bool := op == 3 || decide (5 ≤ op)
  let stop := d.1 + d.2
  let once : List Nat := [3, 5, 6, 7, 8]
  planImage b len 3 ++
  [badAt (d.2 % 16 != 0 || d.2 == 0 || decide (4096 < d.2)) (field b 24 4 + 4),
   st.flatMap (fun e => badAt (!allZero (slice b (e.1 + 2) 14)) (e.1 + 2)),
   st.flatMap (fun e => badAt (e.2.1 == 0 || decide (8 < e.2.1)) e.1 ++ badAt (!tail e.2.1 && decide (31 < e.2.2)) (e.1 + 1)),
   (withEarlier [] st).flatMap (fun p =>
     badAt (p.1.2.1 == 1 && p.2.any (fun e => e.2.1 == 1 && e.2.2 == p.1.2.2)) (p.1.1 + 1)) ++
     badAt ((List.range 32).any (fun i => sensorType (sensorTable s) i != 0 && !st.any (fun e => e.2.1 == 1 && e.2.2 == i))) stop,
   (withEarlier [] st).flatMap (fun p =>
     badAt (tail p.1.2.1 && p.2.any (fun e => e.2.1 == p.1.2.1)) p.1.1 ++
       badAt (tail p.1.2.1 && p.2.any (fun e => tail e.2.1 && decide (p.1.2.1 < e.2.1))) p.1.1 ++
       badAt (!tail p.1.2.1 && p.2.any (fun e => tail e.2.1)) p.1.1) ++
     badAt (once.any (fun op => !st.any (fun e => e.2.1 == op))) stop,
   st.flatMap (fun e =>
     let ty := sensorType (sensorTable s) e.2.2
     badAt (e.2.1 == 2 && ty != 3 && ty != 0) (e.1 + 1)),
   st.flatMap (fun e => badAt (tail e.2.1 && e.2.2 != 0) (e.1 + 1))]

/-- The checks of a FUSE-CONFIG block of the right length. -/
def fuseViols (s : State) (sec : Nat) (b : List Byte) : List Viol :=
  if sec = 1 then (List.range 32).flatMap (sensorViols b) ++ sensorPairs b
  else if sec = 2 then (List.range 32).flatMap (calibrationViols b)
  else if sec = 3 then (List.range 32).flatMap (distortionViols b)
  else if sec = 4 then (List.range 32).flatMap (ringViols s b)
  else if sec = 5 then (List.range 32).flatMap (channelViols s b)
  else if sec = 6 then outputViols s b
  else imageViols b b.length (recipeRules s b b.length)

/-! ## PLAN-CONFIG -/

/-- Section 0x01 (R304, R347). -/
def publicationViols (s : State) (b : List Byte) : List Viol :=
  let base := field b 0 6
  let q := field b 6 1
  let sa := field b 8 6
  let host (a : Nat) : Bool := match placeOf a with
    | .host _ => true
    | _ => false
  chk (base % 1024 != 0 || !regionOk s base 0x4000 || !(host base || inDMemory s base 0x4000)) stFieldRange (blockPos 0) ++
    chk (decide (63 < q) || (queueOf s (queueId q)).cls != .d) stFieldRange (blockPos 6) ++
    chk (field b 7 1 / 2 != 0) stFieldReserved (blockPos 7) ++
    chk (sa % 64 != 0 || !regionOk s sa 64 || !inDMemory s sa 64) stFieldRange (blockPos 8) ++
    lim (blockPos 14) (field b 14 1) 50 200 8 ++ lim (blockPos 15) (field b 15 1) 1 8 8 ++
    lim (blockPos 16) (field b 16 4) 100 100000 32 ++ lim (blockPos 20) (field b 20 2) 10 100 16 ++ resv b 22 42

/-- DECEL and DELAY of stop entry `i` (R320). -/
def stopDecel (b : List Byte) (i : Nat) : Nat := field b (32 + 8 * i) 2
def stopDelay (b : List Byte) (i : Nat) : Nat := field b (34 + 8 * i) 2

/-- Section 0x02 (R320). -/
def stopViols (b : List Byte) : List Viol :=
  chk (field b 6 2 == 0) stFieldRange (blockPos 6) ++ noOnes (blockPos 12) (field b 12 2) 16 ++
    noOnes (blockPos 14) (field b 14 2) 16 ++ resv b 18 14 ++
    chk (stopDecel b 0 == 0) stFieldRange (blockPos 32) ++
    (List.range 16).flatMap (fun i =>
      let o := 32 + 8 * i
      noOnes (blockPos o) (stopDecel b i) 16 ++ resv b (o + 4) 4 ++
        chk (stopDecel b i == 0 && stopDelay b i != 0) stFieldRange (blockPos (o + 2)) ++
        chk (i != 0 && stopDecel b i != 0 && decide (stopDecel b i ≤ stopDecel b (i - 1))) stFieldRange (blockPos o) ++
        chk (i != 0 && stopDecel b i != 0 && stopDecel b (i - 1) == 0) stFieldRange (blockPos o))

/-- Section 0x03 (R312). -/
def meshViols (b : List Byte) : List Viol :=
  let n := field b 0 2
  lim (blockPos 0) n 0 4096 16 ++ resv b 2 62 ++
    (List.range (min n 4096)).flatMap (fun i => resv b (64 + 48 * i + 36) 12)

/-- Step records of a search program: its data's offset and number of steps (R323). -/
def programSteps (b : List Byte) : List Nat :=
  let d := imgData b
  (List.range (d.2 / 16)).map (fun i => d.1 + 16 * i)

/-- Format rules of a search program in the order of R323: the section, the records' reserved bytes, then the table's
rows, its dashes and the reserved OPs. -/
def programRules (b : List Byte) (len : Nat) : List (List Nat) :=
  let size := (imgData b).2
  let st := programSteps b
  let op (o : Nat) : Nat := field b o 1
  let a (o : Nat) : Nat := field b (o + 1) 1
  let bb (o : Nat) : Nat := field b (o + 2) 2
  let c (o : Nat) : Nat := field b (o + 4) 4
  let d (o : Nat) : Nat := field b (o + 8) 4
  let each (f : Nat → Nat → List Nat) : List Nat := st.zipIdx.flatMap (fun e => f e.1 e.2)
  planImage b len 4 ++
  [badAt (size % 16 != 0 || size == 0 || decide (1024 < size)) (field b 24 4 + 4),
   each (fun o _ => badAt (field b (o + 12) 4 != 0) (o + 12)),
   each (fun o _ => badAt (op o == 1 && decide (8191 < bb o)) (o + 2)),
   each (fun o _ => badAt (op o == 1 && decide (8192 < c o)) (o + 4)),
   each (fun o _ => badAt (op o == 2 && (a o == 0 || decide (64 < a o))) (o + 1)),
   each (fun o _ => badAt (op o == 2 && (bb o == 0 || decide (4096 < bb o))) (o + 2)),
   each (fun o _ => badAt (op o == 2 && c o == 0xFFFFFFFF) (o + 4)),
   each (fun o _ => badAt (op o == 2 && decide (1 < d o)) (o + 8)),
   each (fun o i => badAt (op o == 3 && (a o == 0 || decide (st.length - 1 - i < a o))) (o + 1)),
   each (fun o _ => badAt (op o != 2 && op o != 3 && a o != 0) (o + 1) ++
     badAt (op o != 1 && op o != 2 && bb o != 0) (o + 2) ++ badAt (op o != 1 && op o != 2 && c o != 0) (o + 4) ++
     badAt (op o != 2 && d o != 0) (o + 8)),
   each (fun o _ => badAt (op o == 0 || decide (4 < op o)) o)]

/-- Node record and edge record offsets in a region block (R306). -/
def nodeOff (i : Nat) : Nat := 64 + 16 * i
def edgeOff (nodes j : Nat) : Nat := 64 + 16 * nodes + 128 * j

/-- Region block (R306 to R308). -/
def regionViols (b : List Byte) : List Viol :=
  let nn := field b 0 2
  let ne := field b 2 2
  let nodes := min nn 4096
  let edges := min ne 8192
  let from_ (j : Nat) : Nat := field b (edgeOff nn j) 2
  let to_ (j : Nat) : Nat := field b (edgeOff nn j + 2) 2
  let time (i : Nat) : Nat := field b (nodeOff i) 2
  let first (i : Nat) : Nat := field b (nodeOff i + 2) 2
  let outs (i : Nat) : Nat := field b (nodeOff i + 4) 2
  lim (blockPos 0) nn 1 4096 16 ++ lim (blockPos 2) ne 0 8192 16 ++ chk (field b 4 2 == 0) stFieldRange (blockPos 4) ++
    resv b 6 2 ++ resv b 16 48 ++
    chk (((List.range nodes).map outs).sum != ne) stFieldRange (blockPos 2) ++
    (List.range nodes).flatMap (fun i =>
      let o := nodeOff i
      noOnes (blockPos (o + 2)) (first i) 16 ++ lim (blockPos (o + 4)) (outs i) 0 8192 16 ++ resv b (o + 6) 2 ++
        chk (outs i != 0 && decide (ne < first i + outs i)) stFieldRange (blockPos (o + 4)) ++
        (match ((List.range (outs i)).filter (fun k =>
            decide (first i + outs i ≤ ne) && decide (first i + k < edges) && from_ (first i + k) != i)).getLast? with
          | some k => chk true stFieldRange (blockPos (edgeOff nn (first i + k)))
          | none => [])) ++
    (List.range edges).flatMap (fun j =>
      let o := edgeOff nn j
      lim (blockPos o) (from_ j) 0 (nn - 1) 16 ++ lim (blockPos (o + 2)) (to_ j) 0 (nn - 1) 16 ++
        chk (j != 0 && decide (from_ j < from_ (j - 1))) stFieldRange (blockPos o) ++
        chk (decide (from_ j < nn) && decide (to_ j < nn) && decide (time (to_ j) ≤ time (from_ j))) stFieldRange (blockPos (o + 2)) ++
        chk (field b (o + 6) 2 != 0) stFieldReserved (blockPos (o + 4)) ++ noOnes (blockPos (o + 8)) (field b (o + 8) 4) 32 ++
        resv b (o + 12) 4 ++ resv b (o + 100) 28 ++
        (List.range 8).flatMap (fun k =>
          let p := o + 16 + 10 * k
          noOnes (blockPos (p + 6)) (field b (p + 6) 2) 16 ++
            (if field b (p + 6) 2 = 0 then mustBeZero b p 6 [(0, 2), (2, 2), (4, 2), (8, 2)] else [])))

/-- Fields of entry `i` of a schedule block: OPEN_US, CLOSE_US, KIND, CLASS, RESERVE (R344). -/
def winOpen (b : List Byte) (i : Nat) : Nat := field b (16 * i) 2
def winClose (b : List Byte) (i : Nat) : Nat := field b (16 * i + 2) 2
def winKind (b : List Byte) (i : Nat) : Nat := field b (16 * i + 4) 1
def winClass (b : List Byte) (i : Nat) : Nat := field b (16 * i + 5) 1
def winReserve (b : List Byte) (i : Nat) : Nat := field b (16 * i + 6) 1

/-- Schedule block (R344, R345). -/
def scheduleViols (b : List Byte) : List Viol :=
  let stage (i : Nat) : Bool := decide (2 ≤ winKind b i) && decide (winKind b i ≤ 4)
  let find (k : Nat) : Option Nat := (List.range 8).find? (fun i => winKind b i == k)
  (List.range 8).flatMap (fun i =>
    let o := 16 * i
    let k := winKind b i
    chk (decide (5 < k)) stFieldReserved (blockPos (o + 4)) ++ resv b (o + 7) 9 ++
      chk (decide (2 < winClass b i)) stFieldReserved (blockPos (o + 5)) ++ lim (blockPos o) (winOpen b i) 0 999 16 ++
      (if k = 0 then
        lim (blockPos (o + 2)) (winClose b i) 0 1000 16 ++ lim (blockPos (o + 6)) (winReserve b i) 0 0 8 ++
          mustBeZero b o 4 [(0, 2), (2, 2), (5, 1), (6, 1)]
       else
        lim (blockPos (o + 2)) (winClose b i) (winOpen b i + 1) 1000 16 ++
          chk ((stage i && winClass b i != 2) || (k == 5 && winClass b i == 0)) stFieldRange (blockPos (o + 5)) ++
          lim (blockPos (o + 6)) (winReserve b i) 0 (if k = 5 then 64 else 0) 8) ++
      (List.range i).flatMap (fun j =>
        chk (stage i && winKind b j == k) stFieldRange (blockPos (o + 4)) ++
          chk (stage i && stage j && winKind b j != k && decide (winOpen b i < winClose b j) && decide (winOpen b j < winClose b i))
            stFieldRange (blockPos (o + 2)))) ++
    [2, 3, 4].flatMap (fun k => chk (find k).isNone stFieldRange (blockPos 0x80)) ++
    (match find 3, find 4 with
     | some m, some p =>
       chk (decide (winOpen b p < winClose b m)) stFieldRange (blockPos (if m < p then 16 * p else 16 * m + 2)) ++
         chk (decide (winClose b p < winOpen b p + 20)) stFieldRange (blockPos (16 * p + 2))
     | _, _ => [])

/-- An enabled watchdog entry agrees with window `i` of a schedule (R368). -/
def wdAgrees (p : Partition) (sch : List Byte) (i openUs closeUs sync : Nat) : Bool :=
  let k := winKind sch i
  let c := winClass sch i
  k != 0 && k != 5 && !(k == 1 && c == 0) && decide (winOpen sch i ≤ openUs) && decide (closeUs ≤ winClose sch i) &&
    decide (openUs < closeUs) && (if k = 1 then inSyncRange p (classOfD c) sync else sync == 0)

/-- Watchdog block (R368). -/
def watchdogViols (s : State) (b : List Byte) : List Viol :=
  let sch := lastSchedule s
  (List.range 8).flatMap (fun i =>
    let o := 16 * i
    let on := field b (o + 4) 1
    let k := winKind sch i
    let c := winClass sch i
    let sync := field b (o + 6) 2
    chk (decide (1 < on)) stFieldReserved (blockPos (o + 4)) ++ resv b (o + 5) 1 ++ resv b (o + 8) 8 ++
      noOnesIn b o [(0, 2), (2, 2)] ++
      (if on = 0 then mustBeZero b o 4 [(0, 2), (2, 2), (6, 2)]
       else
        chk (k == 0 || k == 5 || (k == 1 && c == 0)) stFieldRange (blockPos (o + 4)) ++
          chk (decide (field b o 2 < winOpen sch i)) stFieldRange (blockPos o) ++
          chk (decide (winClose sch i < field b (o + 2) 2) || decide (field b (o + 2) 2 ≤ field b o 2)) stFieldRange (blockPos (o + 2)) ++
          (if k = 1 then syncViol s (classOfD c) (blockPos (o + 6)) sync
           else chk (sync != 0) stFieldRange (blockPos (o + 6)))))

/-- Golden block (R380). The manual does not say whether ENTRY, GOLDEN_SHELF and ELEM_BYTES of an entry whose VALID is 0
are checked: they are not (DESIGN CHOICE, log 150). -/
def goldenViols (b : List Byte) : List Viol :=
  let valid (i : Nat) : Bool := bit (field b (32 * i) 2) 15
  (List.range 32).flatMap (fun i =>
    let o := 32 * i
    let e := field b (o + 6) 1
    chk (bits (field b o 2) 14 10 != 0) stFieldReserved (blockPos o) ++ resv b (o + 7) 1 ++ resv b (o + 16) 16 ++
      (if valid i then
        noOnesIn b o [(2, 2), (4, 2)] ++ chk (e == 0xFF) stFieldReserved (blockPos (o + 6)) ++
          chk (e != 1 && e != 2 && e != 4 && e != 0xFF) stFieldRange (blockPos (o + 6)) ++
          (List.range i).flatMap (fun j =>
            chk (valid j && field b (32 * j) 2 % 1024 == field b o 2 % 1024) stFieldRange (blockPos o))
       else []))

/-- CAN FD block (R365). -/
def canViols (b : List Byte) : List Viol :=
  let ext := field b 2 1
  let top := if ext = 1 then 0x1FFFFFFF else 0x7FF
  let id (k : Nat) : Nat := field b (4 + 4 * k) 4
  chk (decide (1 < field b 0 1)) stFieldReserved (blockPos 0) ++ chk (decide (2 < field b 1 1)) stFieldReserved (blockPos 1) ++
    chk (decide (1 < ext)) stFieldReserved (blockPos 2) ++ chk (field b 3 1 / 4 != 0) stFieldReserved (blockPos 3) ++
    (List.range 4).flatMap (fun k =>
      lim (blockPos (4 + 4 * k)) (id k) 0 top 32 ++
        (List.range k).flatMap (fun j => chk (id j == id k) stFieldRange (blockPos (4 + 4 * k)))) ++ resv b 20 44

/-- The checks of a PLAN-CONFIG block of the right length. -/
def planViols (s : State) (sec : Nat) (b : List Byte) : List Viol :=
  if sec = 1 then publicationViols s b
  else if sec = 2 then stopViols b
  else if sec = 3 then meshViols b
  else if sec = 4 then imageViols b b.length (programRules b b.length)
  else if sec = 0x10 then scheduleViols b
  else if sec = 0x11 then watchdogViols s b
  else if sec = 0x12 then goldenViols b
  else if sec = 0x13 then canViols b
  else if 0x20 ≤ sec ∧ sec ≤ 0x2E then regionViols b
  else []

end Sys2Proof.Machine
end

