-- ==== Sys2Proof/Machine/MazeGeom.lean ====
section
/-! DEFINITION. Geometry of the Maze and of the Fusion Engine (R278, R285, R300, R312, R316, R321, R329): time bins,
distances to boxes, balls and triangles in exact integers, sines in fixed point, the stop generator's spheres in exact
fractions, pose changes in exact binary fractions. -/

namespace Sys2Proof.Machine

/-- A sphere: centre, radius in 0.01 m, time in 0.1 ms (R300). -/
structure Sphere where
  x : Int
  y : Int
  z : Int
  r : Nat
  t : Nat
  deriving DecidableEq, Repr

/-! ## Sine and cosine in units of 2⁻⁸⁰ -/

def fxOne : Int := (2 : Int) ^ 80

/-- π / 2. -/
def fxQuarter : Int := 1898976236818169290393997

def fxMul (a b : Int) : Int := a * b / fxOne

/-- Sine of an angle from 0 to π / 2, by its series. -/
def fxSinSeries (x : Int) : Int :=
  let q := fxMul x x
  fxMul x ((List.range 20).foldr (fun (k : Nat) acc => fxOne - fxMul q acc / ((2 * k + 2) * (2 * k + 3) : Nat)) fxOne)

/-- Cosine of an angle from 0 to π / 2, by its series. -/
def fxCosSeries (x : Int) : Int :=
  let q := fxMul x x
  (List.range 20).foldr (fun (k : Nat) acc => fxOne - fxMul q acc / ((2 * k + 1) * (2 * k + 2) : Nat)) fxOne

/-- Cosine and sine of `q` quarter turns and a rest below π / 2. -/
def fxTurn (q : Int) (r : Int) : Int × Int :=
  let c := fxCosSeries r
  let s := fxSinSeries r
  let k := q % 4
  if k = 0 then (c, s) else if k = 1 then (-s, c) else if k = 2 then (-c, -s) else (s, -c)

/-- Cosine and sine of an angle in radians × 2⁸⁰. -/
def fxCosSin (x : Int) : Int × Int := fxTurn (x / fxQuarter) (x % fxQuarter)

/-- Cosine and sine of an angle in units of 2π / 65,536. -/
def fxAngle (u : Int) : Int × Int :=
  let v := u % 65536
  fxTurn (v / 16384) (v % 16384 * fxQuarter / 16384)

/-! ## Bins (R300, R329) -/

/-- The bins that a sphere's time tests, with the neighbours within `spread` ns of a bin edge. -/
def sphereBins (width t spread : Nat) : List Nat :=
  let w := 10 * max 1 width
  let raw := t / w
  let low := if spread != 0 && decide (0 < raw) && decide ((t - raw * w) * 100000 ≤ spread) then [raw - 1] else []
  let high := if spread != 0 && decide (((raw + 1) * w - t) * 100000 ≤ spread) then [raw + 1] else []
  (raw :: low ++ high).map (fun b => min b 31)

/-! ## Distances -/

/-- A vector or point. -/
structure V3 where
  x : Int
  y : Int
  z : Int
  deriving DecidableEq, Repr

def V3.sub (a b : V3) : V3 := ⟨a.x - b.x, a.y - b.y, a.z - b.z⟩
def V3.dot (a b : V3) : Int := a.x * b.x + a.y * b.y + a.z * b.z
def V3.cross (a b : V3) : V3 := ⟨a.y * b.z - a.z * b.y, a.z * b.x - a.x * b.z, a.x * b.y - a.y * b.x⟩

/-- A point lies within a distance, given as its square, of a segment. -/
def nearSegmentSq (p a b : V3) (rr : Int) : Bool :=
  let ab := b.sub a
  let ap := p.sub a
  let l := ab.dot ab
  let t := ap.dot ab
  if t ≤ 0 then decide (ap.dot ap ≤ rr)
  else if l ≤ t then decide ((p.sub b).dot (p.sub b) ≤ rr)
  else decide (ap.dot ap * l - t * t ≤ rr * l)

/-- A point lies within `r` of a segment. -/
def nearSegment (p a b : V3) (r : Int) : Bool := nearSegmentSq p a b (r * r)

/-- A point lies within `r` of a triangle. -/
def nearTriangle (p a b c : V3) (r : Int) : Bool :=
  let n := (b.sub a).cross (c.sub a)
  let nn := n.dot n
  let side (o q : V3) : Bool := decide (0 ≤ ((q.sub o).cross (p.sub o)).dot n)
  let d := (p.sub a).dot n
  (nn != 0 && side a b && side b c && side c a && decide (d * d ≤ r * r * nn)) ||
    nearSegment p a b r || nearSegment p b c r || nearSegment p c a r

/-- A point lies within `r` (in units of 2⁻⁸⁰) of a box turned by `yaw` about z. -/
def nearBox (p c : V3) (hx hy hz : Nat) (yaw : Int) (r : Int) : Bool :=
  let d := p.sub c
  let cs := fxAngle yaw
  let qx := d.x * cs.1 + d.y * cs.2
  let qy := d.y * cs.1 - d.x * cs.2
  let past (q : Int) (h : Nat) : Int := max 0 ((q.natAbs : Int) - h * fxOne)
  let ex := past qx hx
  let ey := past qy hy
  let ez := past (d.z * fxOne) hz
  decide (ex * ex + ey * ey + ez * ez ≤ r * r)

/-- A signed coordinate of a record. -/
def coord (l : List Byte) (off : Nat) : Int := signedOf 16 (field l off 2)

def point (l : List Byte) (off : Nat) : V3 := ⟨coord l off, coord l (off + 2), coord l (off + 4)⟩

/-- A record within COUNT that hits every sphere: a reserved KIND, or a nonzero reserved field (R316). -/
def recordBroken (l : List Byte) : Bool :=
  let k := field l 0 1
  decide (3 < k) || (k != 0 && (field l 1 1 / 2 != 0 || field l 2 2 != 0 ||
    !allZero (if k = 1 then slice l 22 10 else if k = 2 then slice l 16 16 else slice l 26 6)))

/-- The sphere's centre lies within `r` of the record's solid, the box's bound widened by `slack` units of
2⁻⁸⁰ toward hitting. -/
def nearSolid (l : List Byte) (p : V3) (r : Nat) (slack : Int) : Bool :=
  let k := field l 0 1
  if k = 1 then
    nearBox p (point l 8) (field l 14 2) (field l 16 2) (field l 18 2) (field l 20 2 : Nat) (r * fxOne + slack)
  else if k = 2 then
    let d := p.sub (point l 8)
    let rr : Int := (r + field l 14 2 : Nat)
    decide (d.dot d ≤ rr * rr)
  else nearTriangle p (point l 8) (point l 14) (point l 20) r

/-- Error bound of the fixed-point turn of a box, in units of 2⁻⁸⁰. -/
def boxSlack : Int := (2 : Int) ^ 40

/-- How a sphere meets a record (R316): a certain hit, or one the checker may also report because the
distance exceeds RADIUS by at most 0.02 m. -/
def sphereMeets (width grow spread : Nat) (sp : Sphere) (l : List Byte) (may : Bool) : Bool :=
  let p : V3 := ⟨sp.x, sp.y, sp.z⟩
  let r := sp.r + grow
  if field l 0 1 = 0 then false
  else if recordBroken l then true
  else if !(sphereBins width sp.t spread).any (fun b => bit (field l 4 4) b) then false
  else nearSolid l p (if may then r + 2 else r) boxSlack

/-- Whether any sphere of a slot meets any record. -/
def anyHit (width grow spread : Nat) (sph : List Sphere) (recs : List (List Byte)) (may : Bool) : Bool :=
  sph.any (fun p => recs.any (fun l => sphereMeets width grow spread p l may))

/-! ## Exact coordinates

A length is a whole number of nanometres times a scale; a finite float is exact in units of 2⁻¹⁴⁹. -/

def fpUnit : Int := (2 : Int) ^ 149

/-- A finite float in units of 2⁻¹⁴⁹. -/
def fixFp (f : FloatFmt) (code : Nat) : Option Int :=
  match fdecode f code with
  | .fin neg m e => some (scaled neg m e (-149))
  | _ => none

/-- FP32 words as whole numbers, when all are finite. -/
def fixWords : List Nat → Option (List Int)
  | [] => some []
  | w :: l =>
    match fixFp fmtFP32 w, fixWords l with
    | some a, some r => some (a :: r)
    | _, _ => none

/-- `n` FP32 words of a record. -/
def words32 (b : List Byte) (off n : Nat) : List Nat := (List.range n).map (fun k => field b (off + 4 * k) 4)

def V3.add (a b : V3) : V3 := ⟨a.x + b.x, a.y + b.y, a.z + b.z⟩
def V3.scale (k : Int) (a : V3) : V3 := ⟨k * a.x, k * a.y, k * a.z⟩

/-- A 3 × 4 transform: rows in units of 2⁻¹⁴⁹, translation in 2⁻¹⁴⁹ nm. -/
structure Affine where
  r0 : V3
  r1 : V3
  r2 : V3
  t  : V3
  deriving DecidableEq, Repr

/-- Twelve FP32 words, row by row, the translations in metres (R278). -/
def affineOf (l : List Nat) : Option Affine :=
  match fixWords l with
  | some [a, b, c, d, e, f, g, h, i, j, k, m] =>
    some ⟨⟨a, b, c⟩, ⟨e, f, g⟩, ⟨i, j, k⟩, ⟨1000000000 * d, 1000000000 * h, 1000000000 * m⟩⟩
  | _ => none

/-- The transform that leaves every point in place. -/
def affineId : Affine := ⟨⟨fpUnit, 0, 0⟩, ⟨0, fpUnit, 0⟩, ⟨0, 0, fpUnit⟩, ⟨0, 0, 0⟩⟩

/-- Applies a transform to a point in units of 1 / `k` nm; the result is in units of 2⁻¹⁴⁹ / `k`. -/
def Affine.apply (a : Affine) (k : Int) (p : V3) : V3 :=
  (⟨a.r0.dot p, a.r1.dot p, a.r2.dot p⟩ : V3).add (a.t.scale k)

/-- The inverse of a pose of seven FP32 words (R297: position, unit quaternion w, x, y, z) applied to a point in 2⁻¹⁴⁹ nm:
the transpose of the quaternion's rotation on p − t, in units of 2⁻⁴⁴⁷ nm. -/
def unpose (pose : List Nat) (p : V3) : Option V3 :=
  match fixWords pose with
  | some [tx, ty, tz, w, x, y, z] =>
    let one := fpUnit * fpUnit
    let d := p.sub ⟨1000000000 * tx, 1000000000 * ty, 1000000000 * tz⟩
    let c0 : V3 := ⟨one - 2 * (y * y + z * z), 2 * (x * y + w * z), 2 * (x * z - w * y)⟩
    let c1 : V3 := ⟨2 * (x * y - w * z), one - 2 * (x * x + z * z), 2 * (y * z + w * x)⟩
    let c2 : V3 := ⟨2 * (x * z + w * y), 2 * (y * z - w * x), one - 2 * (x * x + y * y)⟩
    some ⟨c0.dot d, c1.dot d, c2.dot d⟩
  | _ => none

/-- A triangle and a box of half sizes `h` about the origin are parted by an axis. -/
def parted (a b c h n : V3) : Bool :=
  let r := h.x * n.x.natAbs + h.y * n.y.natAbs + h.z * n.z.natAbs
  let p := a.dot n
  let q := b.dot n
  let s := c.dot n
  decide (r < min p (min q s)) || decide (max p (max q s) < -r)

/-- A triangle meets a box of centre `ctr` and half sizes `h`: none of the thirteen axes parts them. -/
def touchesBox (a b c ctr h : V3) : Bool :=
  let a := a.sub ctr
  let b := b.sub ctr
  let c := c.sub ctr
  let e : List V3 := [b.sub a, c.sub b, a.sub c]
  let u : List V3 := [⟨1, 0, 0⟩, ⟨0, 1, 0⟩, ⟨0, 0, 1⟩]
  !(u ++ [(b.sub a).cross (c.sub a)] ++ u.flatMap (fun x => e.map (fun y => x.cross y))).any (parted a b c h)

/-! ## Solids and grid cells (R293, R295)

A solid turned in space is the sum of the segments ± `g` of its generators; swept along a move, the move is one more. -/

/-- The cross products of the pairs of a list. -/
def crossPairs : List V3 → List V3
  | [] => []
  | a :: l => l.map a.cross ++ crossPairs l

/-- A point lies in the sum of the segments of generators that span space: no plane along two of them parts it. -/
def inSum (d : V3) (gens : List V3) : Bool :=
  (crossPairs gens).all (fun n => decide ((d.dot n).natAbs ≤ (gens.map (fun g => (g.dot n).natAbs)).sum))

/-- The half sides of a 0.2 m cube in units of 1 / `k` nm. -/
def cubeSides (k : Int) : List V3 := [⟨100000000 * k, 0, 0⟩, ⟨0, 100000000 * k, 0⟩, ⟨0, 0, 100000000 * k⟩]

/-- A ball of radius `r` that moves by ± `m` in the plane meets a cube at `d` from its middle: its centre comes within `r`
of the cube, whose outline with the move is bounded by the segments along each of three sides. -/
def ballMeets (d : V3) (r : Int) (m : V3) (k : Int) : Bool :=
  let e := 100000000 * k
  let gap : Int := max 0 ((d.z.natAbs : Int) - e)
  let rr := r * r - gap * gap
  let p : V3 := ⟨d.x, d.y, 0⟩
  let ex : V3 := ⟨e, 0, 0⟩
  let ey : V3 := ⟨0, e, 0⟩
  let sides : List (V3 × V3 × V3) := [(ex, ey, m), (ey, ex, m), (m, ex, ey)]
  let signs : List (Int × Int) := [(1, 1), (1, -1), (-1, 1), (-1, -1)]
  decide (gap ≤ r) && (inSum p (cubeSides k ++ [m]) ||
    sides.any (fun s => signs.any (fun q =>
      let c := (s.2.1.scale q.1).add (s.2.2.scale q.2)
      nearSegmentSq p (c.sub s.1) (c.add s.1) rr)))

/-- A ball of radius `r` about the origin holds the whole cube at `d`. -/
def ballHolds (d : V3) (r k : Int) : Bool :=
  let far (x : Int) : Int := x.natAbs + 100000000 * k
  decide (0 ≤ r) && decide (far d.x * far d.x + far d.y * far d.y + far d.z * far d.z ≤ r * r)

/-- A box about the origin, half sizes `hx`, `hy`, `hz` and turned about z by an angle of cosine `c` and sine `s` × 2⁸⁰,
holds the whole cube at `d`. -/
def boxHolds (d : V3) (hx hy hz c s k : Int) : Bool :=
  let e := 100000000 * k
  let w : Int := e * (c.natAbs + s.natAbs : Nat)
  decide ((d.x * c + d.y * s).natAbs + w ≤ hx * fxOne) && decide ((d.y * c - d.x * s).natAbs + w ≤ hy * fxOne) &&
    decide (d.z.natAbs + e ≤ hz)

/-! ## The stop generator (R321) -/

/-- Nearest whole number of a fixed-point value, ties away from zero. -/
def fxRound (v : Int) : Int :=
  let a : Int := v.natAbs
  let q := (a + fxOne / 2) / fxOne
  if v < 0 then -q else q

/-- The numbers of a stop entry: DECEL, DELAY, v0 in 0.01 m/s, κ in 2⁻¹⁵ m⁻¹, α in 2π / 65,536. -/
structure StopCase where
  decel : Nat
  delay : Nat
  v0    : Int
  kappa : Int
  alpha : Int
  deriving DecidableEq, Repr

/-- 7 × decel × ts in 0.1 ms, with ts = delay + |v0| / decel. -/
def stopSpan (e : StopCase) : Nat := e.delay * e.decel + 100000 * e.v0.natAbs

/-- s(t) at the numerator `tn` of t over 7 × decel, in 0.01 m as a numerator over `stopDen`. -/
def stopPath (e : StopCase) (tn : Nat) : Int :=
  let x : Int := (tn - 7 * e.decel * e.delay : Nat)
  e.v0 * tn * 1400000 - (if e.v0 < 0 then -1 else 1) * (x * x)

/-- Denominator of `stopPath`. -/
def stopDen (e : StopCase) : Nat := 98 * e.decel * 1000000000

/-- Smallest whole number not below n / d. -/
def ceilDiv (n d : Nat) : Nat := (n + d - 1) / d

/-- Place and heading after a path of numerator `sn`: p in 0.01 m × 2⁸⁰, cosine and sine of ψ. -/
def stopPose (e : StopCase) (sn : Int) : Int × Int × Int × Int :=
  let den : Int := stopDen e
  if e.kappa = 0 then (sn * fxOne / den, 0, fxOne, 0)
  else
    let psi := e.kappa * sn * fxOne / (32768 * 100 * den)
    let cs := fxCosSin psi
    (cs.2 * 3276800 / e.kappa, (fxOne - cs.1) * 3276800 / e.kappa, cs.1, cs.2)

/-- Step `k` of a stop: its radius term in 0.01 m as numerator over twice `stopDen`, and its time. -/
def stopStep (e : StopCase) (k : Nat) : Nat :=
  if k < 7 then (stopPath e ((k + 1) * stopSpan e) - stopPath e (k * stopSpan e)).natAbs else 0

/-- A radius with the step term, rounded up (R321). -/
def stopRadius (e : StopCase) (k r : Nat) : Nat := ceilDiv (2 * r * stopDen e + stopStep e k) (2 * stopDen e)

/-- Sphere time: rounded down to 0.1 ms, 0xFFFF for later times (R300). -/
def stopTime (e : StopCase) (k : Nat) : Nat := min 0xFFFF (k * stopSpan e / (7 * e.decel))

/-- The body spheres of an entry under stop table `b`. -/
def bodySpheres (b : List Byte) (e : StopCase) : List Sphere :=
  (List.range 8).map (fun k =>
    let p := stopPose e (stopPath e (k * stopSpan e))
    let c := point b 0
    ⟨fxRound (p.1 + p.2.2.1 * c.x - p.2.2.2 * c.y), fxRound (p.2.1 + p.2.2.2 * c.x + p.2.2.1 * c.y), c.z,
      stopRadius e k (field b 6 2), stopTime e k⟩)

/-- The implement spheres of an entry; none without an implement. -/
def implSpheres (b : List Byte) (e : StopCase) : List Sphere :=
  if field b 14 2 = 0 then []
  else (List.range 8).map (fun k =>
    let p := stopPose e (stopPath e (k * stopSpan e))
    let hx := coord b 8
    let hy := coord b 10
    let a := fxAngle e.alpha
    let ca := fxMul p.2.2.1 a.1 - fxMul p.2.2.2 a.2
    let sa := fxMul p.2.2.2 a.1 + fxMul p.2.2.1 a.2
    let d : Int := field b 12 2
    ⟨fxRound (p.1 + p.2.2.1 * hx - p.2.2.2 * hy - ca * d), fxRound (p.2.1 + p.2.2.2 * hx + p.2.2.1 * hy - sa * d),
      coord b 16, stopRadius e k (field b 14 2), stopTime e k⟩)

/-- The spheres of an edge record: unused ones have RADIUS 0 (R307). -/
def edgeSpheres (l : List Byte) : List Sphere :=
  ((List.range 8).map (fun k =>
    let o := 16 + 10 * k
    (⟨coord l o, coord l (o + 2), coord l (o + 4), field l (o + 6) 2, field l (o + 8) 2⟩ : Sphere))).filter
    (fun p => p.r != 0)

end Sys2Proof.Machine
end

