-- ==== Sys2Proof/Machine/Sundial.lean ====
section
/-! DEFINITION. Sundial: its sources, steps and slewing (R265 to R269), the time bus and the replicas
(R270, R271). -/

namespace Sys2Proof.Machine

/-- Some queue is the plan queue: Sundial never steps (R267). -/
def planQueueExists (s : State) : Bool := s.gh.queues.any (fun e => e.2.planQueue)

def sunSource (s : State) : Nat := bits s.sun.cfg.toNat 1 0
def sunPort (s : State) : Nat := bits s.sun.cfg.toNat 3 2

/-- The package disciplines to its pair leader, and ignores SOURCE (R266). -/
def pairDisciplined (s : State) : Bool := s.ln.pairUp && !s.ln.leader

/-- Sundial stays in HOLDOVER: the hub runs on its internal oscillator (R268, R419). -/
def heldOver (s : State) : Bool := s.sun.state == .holdover && s.rs.reduced

/-- The state after a write of SD_CFG (R265, R266): a change of SOURCE starts its discipline. SOURCE 0 has no
correction. -/
def writeSdCfg (s : State) (v : BitVec 9) : State :=
  let changed := decide (bits v.toNat 1 0 ≠ sunSource s)
  let free := decide (bits v.toNat 1 0 = 0)
  let st := if !changed ∨ pairDisciplined s ∨ heldOver s then s.sun.state
    else if free then .freeRun
    else if s.sun.timeSet then .acquiring else .unset
  { s with sun := { s.sun with cfg := v, state := st, inRange := if changed then 0 else s.sun.inRange,
                               timeSet := s.sun.timeSet || (changed && free),
                               ppb := if free ∧ !pairDisciplined s ∧ !heldOver s then 0 else s.sun.ppb } }

/-- SD_SOURCE_WRITE: a write of SD_CFG by the physical function that changes SOURCE (R265). -/
def execSdSourceWrite (f : FnId) (v : Word32) (s : State) : Host.Outcome State Fault Refusal :=
  .next (if f.val = 0 ∧ hostReaches s f ∧ bits v.toNat 1 0 ≠ sunSource s then writeSdCfg s (v.setWidth 9) else s)

/-- Sundial steps to a time in ns; an UNSET Sundial is then ACQUIRING (R265). -/
def stepTo (s : State) (ns : Nat) : State :=
  { s with sun := { s.sun with ns := ns % 2 ^ 64, frac := 0, timeSet := true,
                               state := if s.sun.state = .unset then .acquiring else s.sun.state } }

/-- SD_SET: the written seconds apply at once under SOURCE 0 and at the next PPS edge under SOURCE 2 or 3;
ignored once a plan queue exists (R267). -/
def execSdSet (f : FnId) (v : Word64) (s : State) : Host.Outcome State Fault Refusal :=
  .next (
    if f.val ≠ 0 ∨ !hostReaches s f ∨ planQueueExists s ∨ pairDisciplined s then s
    else if sunSource s = 0 then stepTo s ((v.toNat % 2 ^ 48) * 1000000000)
    else if 2 ≤ sunSource s then { s with sun := { s.sun with pendingSet := some (v.setWidth 48) } }
    else s)

/-- A measured offset as OFFSET_NS holds it (SD_STATUS). -/
def offsetReg (o : Int) : Word32 := BitVec.ofInt 32 (max (-0x7FFFFFFF) (min 0x7FFFFFFF o))

/-- The state of Sundial after an update from its source: UNSET until it first steps (R265), LOCKED after 16 updates in
range (R269). -/
def updatedState (st : SunState) (stepped : Bool) (n : Nat) : SunState :=
  if st = .unset ∧ !stepped then .unset
  else if 16 ≤ n then .locked
  else if st = .holdover then .holdover
  else .acquiring

/-- One update from the source in force: `off` is Sundial time less source time (R265, R267, R269). With a plan queue
Sundial never steps; with none an UNSET Sundial steps, and the manual leaves any other free to step. The slewing rate
within ±500 ppm is free too (DESIGN CHOICE, log 70). On the internal oscillator Sundial stays in HOLDOVER with its last
correction (R268). -/
def sourceUpdate (s : State) (off : Int) : State :=
  if heldOver s then { s with sun := { s.sun with offsetNs := offsetReg off, inRange := 0 } }
  else
    let prev := s.sun.offsetNs.toInt
    let big (o : Int) : Bool := decide (10000000 < o) || decide (o < -10000000)
    let near := decide (-1000 ≤ off) && decide (off ≤ 1000)
    let plan := planQueueExists s
    let may := !plan && (s.sun.state == .unset || freeValue s % 2 == 1)
    let ppb : Int := (freeValue (drawFree s) % 1000001 : Nat) - 500000
    let n := if near then s.sun.inRange + 1 else 0
    let s1 := drawFree (drawFree s)
    let s2 := { s1 with sun := { s1.sun with
      offsetNs := offsetReg off, inRange := n, state := updatedState s.sun.state may n, timeSet := s.sun.timeSet || may,
      offsetFault := s1.sun.offsetFault || (plan && big off && big prev),
      ppb := if may then s1.sun.ppb else BitVec.ofInt 32 ppb } }
    if may && off != 0 then { s2 with sun := { s2.sun with ns := ((s2.sun.ns : Int) - off).toNat } } else s2

/-- gPTP on the slave port is synchronised. -/
def gptpUp (s : State) : Bool := s.sun.gptpSync.getLsbD (sunPort s)

/-- PPS_EDGE: the edge of the selected polarity is stamped; it applies a waiting SD_SET, or disciplines
Sundial under SOURCE 2, and under SOURCE 3 while gPTP is lost (R266, R267, R272). -/
def execPpsEdge (rising : Bool) (t : Nat) (s : State) : Host.Outcome State Fault Refusal :=
  .next (
    let s := atTime t s
    if rising = s.sun.cfg.getLsbD 8 then s
    else
      let s1 := { s with sun := { s.sun with ppsStamp := some (now s), lastPps := some (now s) } }
      if pairDisciplined s1 ∨ sunSource s1 < 2 then s1
      else
        match s1.sun.pendingSet with
        | some v =>
          if planQueueExists s1 then { s1 with sun := { s1.sun with pendingSet := none } }
          else
            let s2 := stepTo s1 (v.toNat * 1000000000)
            { s2 with sun := { s2.sun with pendingSet := none, ppsStamp := some s2.sun.ns, lastPps := some s2.sun.ns } }
        | none =>
          if s1.sun.state = .unset ∨ (sunSource s1 = 3 ∧ gptpUp s1) then s1
          else
            let r := now s1 % 1000000000
            sourceUpdate s1 (if r < 500000000 then (r : Int) else (r : Int) - 1000000000))

/-- GPTP_SYNC: a sync exchange on a port; on the slave port under SOURCE 1 or 3 it updates Sundial (R269). -/
def execGptpSync (port : Fin 4) (offset : Int) (t : Nat) (s : State) : Host.Outcome State Fault Refusal :=
  .next (
    let s := atTime t s
    -- in reduced mode the Ethernet MACs are down (R419)
    if s.rs.reduced then s else
    let s1 := { s with sun := { s.sun with gptpSync := s.sun.gptpSync ||| BitVec.ofNat 4 (2 ^ port.val) } }
    if !pairDisciplined s1 ∧ (sunSource s1 = 1 ∨ sunSource s1 = 3) ∧ sunPort s1 = port.val then
      sourceUpdate s1 offset
    else s1)

/-- Sundial enters HOLDOVER (R268). -/
def holdover (s : State) : State :=
  if s.sun.state = .unset ∨ s.sun.state = .holdover then s
  else { s with sun := { s.sun with state := .holdover, sourceLost := true, inRange := 0 } }

/-- The hub's reference is lost: Sundial is in HOLDOVER whatever it was, an UNSET one too, and stays there as long as the
hub runs on its oscillator (R268; DEDUCED for UNSET, log 161). -/
def referenceHoldover (s : State) : State :=
  { s with sun := { s.sun with state := .holdover, sourceLost := true, inRange := 0 } }

/-- SOURCE_LOST: gPTP or PPS is lost; Sundial enters HOLDOVER when the selected source is (R266, R268). -/
def execSourceLost (src : TimeSource) (s : State) : Host.Outcome State Fault Refusal :=
  .next (
    let n := sunSource s
    let s1 := match src with
      | .gptp => { s with sun := { s.sun with gptpSync := s.sun.gptpSync &&& ~~~ (BitVec.ofNat 4 (2 ^ sunPort s)) } }
      | .pps => { s with sun := { s.sun with lastPps := none } }
    let lost := match src with
      | .gptp => n == 1 || (n == 3 && s1.sun.lastPps.isNone)
      | .pps => n == 2 || (n == 3 && !gptpUp s1)
    if !pairDisciplined s1 && lost then holdover s1 else s1)

/-! ## Replicas (R270, R271) -/

def setReplica (s : State) (d : Nat) (x : ReplicaState) : State :=
  { s with sun := { s.sun with replicas := tabPut s.sun.replicas d x } }

/-- A die's timebase clock runs: the die is in service and its forwarded clock is present (R419). -/
def timebaseRuns (s : State) (d : Nat) : Bool := dieState s d == .service && !s.rs.clockOut.getLsbD d

/-- A sync message corrects a die's replica: it then holds Sundial time within ±8 ns, by a free deviation (R270; DESIGN
CHOICE, log 145). -/
def correctReplica (s : State) (d : Nat) : State :=
  let s1 := drawFree s
  { s1 with sun := { s1.sun with deviation := tabSet 0 s1.sun.deviation d ((freeValue s % 17 : Nat) - 8) } }

/-- TIME_BUS_SYNC: a sync message reaches a die and corrects its replica (R270); a stopped replica whose clock is back
resynchronises. -/
def execTimeBusSync (die : DieId) (t : Nat) (s : State) : Host.Outcome State Fault Refusal :=
  .next (
    let s := atTime t s
    if die.val = 4 ∨ !timebaseRuns s die.val then s
    else
      let s1 := correctReplica s die.val
      if replicaOf s1 die.val = .stopped then setReplica s1 die.val .resync else s1)

/-- REPLICA_STOPPED: a replica's clock stops or it misses four sync messages; its stamps are invalid and
the stop is reported (R271, cause 0x12). -/
def stopReplica (s : State) (d : Nat) : State :=
  if d = 4 ∨ replicaOf s d = .stopped then s
  else
    let s1 := setReplica s d .stopped
    let s2 := { s1 with sun := { s1.sun with stoppedEver := s1.sun.stoppedEver ||| BitVec.ofNat 6 (2 ^ d) } }
    openReport s2 d (unitId d 12 0) 0x12 none

def execReplicaStopped (die : DieId) (t : Nat) (s : State) : Host.Outcome State Fault Refusal :=
  .next (stopReplica (atTime t s) die.val)

/-- REPLICA_RESYNC: a replica whose clock has returned reaches SYNC (R271). -/
def execReplicaResync (die : DieId) (s : State) : Host.Outcome State Fault Refusal :=
  .next (if die.val ≠ 4 ∧ timebaseRuns s die.val ∧ replicaOf s die.val ≠ .sync then setReplica s die.val .sync else s)

end Sys2Proof.Machine
end

