-- ==== Sys2Proof/Machine/Sensors.lean ====
section
/-! DEFINITION. Sensor ingress: stamps (R272, R273), validity (R274), ingest rings (R279), classification
(R284), frozen frames (R286) and the snapshot (R283). -/

namespace Sys2Proof.Machine

def feSection (s : State) (n : Nat) : List Byte := tabGet [] s.fe.config n

def sensorOf (s : State) (i : Nat) : Sensor := tabGet sensorReset s.fe.sensors i

def setSensor (s : State) (i : Nat) (x : Sensor) : State :=
  { s with fe := { s.fe with sensors := tabPut s.fe.sensors i x } }

/-- Sensor table fields in force (R277). -/
def stType (s : State) (i : Nat) : Nat := sensorType (feSection s 1) i
def stField (s : State) (i off n : Nat) : Nat := field (feSection s 1) (32 * i + off) n

/-- TIME_OFFSET_NS of a sensor (R278). -/
def timeOffset (s : State) (i : Nat) : Int := signedOf 32 (field (feSection s 2) (128 * i + 64) 4)

/-! ## Writes of the Fusion Engine and the Maze -/

/-- The die from which a master of BW_MASTER_SELECT issues: the Maze its own, the others the hub. -/
def masterDie (m : Fin 6) : Nat := if m = 3 then 5 else 4

/-- The unit that reports a master's uncorrectable reads (R298, R335, R395): the Maze, the Gatehouse for what it writes
itself (0), the Fusion Engine. -/
def masterUnit (m : Fin 6) : BitVec 16 := if m = 3 then unitId 5 6 0 else if m = 0 then unitId 4 8 0 else unitId 4 7 0

/-- A master reaches a region: it is present, with a route to it (R219, R242). -/
def masterReaches (s : State) (m : Fin 6) (pa n : Nat) : Bool :=
  regionOk s pa n && (pathRoute s (masterDie m) (match placeOf pa with
    | .lpddr k _ => k.val
    | _ => 5)).hops != 0xFF

/-- One write request of a master. One to an address that is absent is discarded (R219); so is one whose
read-modify-write meets a bad granule, and the master reports it (R225, R226, R298). -/
def hubRequest (s : State) (m : Fin 6) (pa : Nat) (l : List Byte) : State :=
  if !masterReaches s m pa l.length then s
  else
    match placeOf pa, partialGranule s pa l.length with
    | .lpddr _ _, some g => openReport (noteUncorrectable s g false) (masterDie m) (masterUnit m) 0x08 none
    | _, _ => paWrites s pa l

/-- The requests of at most 256 B that a write takes (R351). -/
def requestsFrom : Nat → Nat → List Byte → List (Nat × List Byte)
  | 0, _, _ => []
  | fuel + 1, pa, l => if l.isEmpty then [] else (pa, l.take 256) :: requestsFrom fuel (pa + 256) (l.drop 256)

def requestsOf (pa : Nat) (l : List Byte) : List (Nat × List Byte) := requestsFrom (l.length / 256 + 1) pa l

/-- A master's write, request by request. -/
def hubWrites (s : State) (m : Fin 6) (pa : Nat) (l : List Byte) : State :=
  (requestsOf pa l).foldl (fun a r => hubRequest a m r.1 r.2) s

/-- The 128 B header of an ingest slot (R279). -/
def slotHeader (i stamp frac arrival flags frame len n : Nat) (strips : List Word32) : List Byte :=
  leBytes 8 stamp ++ leBytes 2 frac ++ leBytes 2 flags ++ leBytes 1 i ++ [0] ++ leBytes 2 frame ++ leBytes 8 arrival ++
    leBytes 4 len ++ leBytes 4 n ++ zeros 32 ++ slice (strips.flatMap (fun w => leBytes 4 w.toNat)) 0 64

/-- Issues the Fusion Engine's write requests until its count pauses (R348 to R352); what is left waits. -/
def issueRequests : List (Nat × List Byte) → State → State × List (Nat × List Byte)
  | [], s => (s, [])
  | r :: l, s =>
    if masterPaused s 2 r.1 then (s, r :: l)
    else issueRequests l (hubRequest (countMaster s 2 r.2.length) 2 r.1 r.2)

/-- The ring entry of a sensor (R279). -/
def ringEntry (s : State) (i : Nat) : List Byte := slice (feSection s 4) (16 * i) 16

/-- Writes a sample's header after its data and increments WRITE_SYNC; without a ring entry nothing is written. -/
def ringHeader (s : State) (h : HeldSample) (arrival flags : Nat) : State :=
  let e := ringEntry s h.sensor
  if allZero e then s
  else
    let s1 := hubWrites (countMaster s 2 128) 2 h.slot
      (slotHeader h.sensor h.stamp h.frac arrival (flags + (if h.cut then 32 else 0)) h.frame h.length (sensorOf s h.sensor).n
        h.strips)
    applySync s1 [⟨false, BitVec.ofNat 16 (field e 14 2), 1⟩]

/-- A sample whose data is written arrives: its class under R284, its header, its counts and its place in the next
snapshot. -/
def finishSample (s : State) (h : HeldSample) : State :=
  let i := h.sensor
  let stamp := h.stamp
  let arrival := if h.waited then now s else h.arrival
  let bad := h.bad
  let corrupt := h.corrupt
  let frozen := h.frozen
  let x := sensorOf s i
  let maxLat := stField s i 4 4 * 1000
  let invalid := bad || decide (arrival + 1000 < stamp) || s.sun.state == .unset
  let stale := !invalid && decide (maxLat < arrival - stamp)
  let boundary := (stamp + 999999) / 1000000 * 1000000
  let late := !invalid && !stale && decide (boundary < arrival)
  let flags := b2n invalid + 2 * b2n frozen + 4 * b2n corrupt + 8 * b2n late + 16 * b2n stale
  let s1 := ringHeader s h arrival flags
  let run := if stale then satInc x.staleRun else 0
  let hit := stale && decide (stField s i 20 1 ≤ run.toNat)
  let frun := if frozen then x.frozenRun + 1 else 0
  setSensor s1 i { x with
    n := x.n + 1,
    staleRun := if hit then 0 else run,
    marked := x.marked || hit || frozen,
    confidence := BitVec.ofNat 4 (x.confidence.toNat - (if frozen && decide (3 ≤ frun) then 15 else if frozen then 4 else 0)
      - (if hit then 2 else 0)),
    frozenRun := frun,
    late := if late then satInc x.late else x.late,
    stale := if stale then satInc x.stale else x.stale,
    frozen := if frozen then satInc x.frozen else x.frozen,
    invalid := if invalid then satInc x.invalid else x.invalid,
    evLate := x.evLate + b2n late, evStale := x.evStale + b2n stale, evFrozen := x.evFrozen + b2n frozen,
    evInvalid := x.evInvalid + b2n invalid,
    samples := if invalid || stale || corrupt then x.samples else (stamp, arrival, x.n) :: x.samples }

/-- Writes the samples that wait until the Fusion Engine's count pauses: each one's data, then its header. -/
def pumpHeld : List HeldSample → State → State × List HeldSample
  | [], s => (s, [])
  | h :: l, s =>
    match issueRequests h.requests s with
    | (s1, []) =>
      if !allZero (ringEntry s1 h.sensor) && masterPaused s1 2 h.slot then (s1, { h with requests := [], waited := true } :: l)
      else pumpHeld l (finishSample s1 h)
    | (s1, r) => (s1, { h with requests := r, waited := true } :: l)

def pumpSamples (s : State) : State :=
  match pumpHeld s.fe.held s with
  | (s1, l) => { s1 with fe := { s1.fe with held := l } }

/-- Takes a received sample of a sensor, whose stamp has the fraction `frac`: it goes into its ring slot behind the samples
that wait (R279, R351). -/
def takeSample (s : State) (i stamp frac arrival : Nat) (bad corrupt frozen : Bool) (frame : Nat) (strips : List Word32)
    (payload : List Byte) : State :=
  let e := ringEntry s i
  let size := field e 8 4
  let data := payload.take (size - 128)
  let slot := field e 0 6 + ((sensorOf s i).n + (s.fe.held.filter (fun h => h.sensor == i)).length) % field e 12 2 * size
  let h : HeldSample := ⟨i, stamp, frac, arrival, bad, corrupt, frozen, frame, strips,
    if allZero e then [] else requestsOf (slot + 128) data, slot, data.length, decide (data.length < payload.length), false⟩
  pumpSamples { s with fe := { s.fe with held := s.fe.held ++ [h] } }

/-- The sensors of a condition, lowest first. -/
def sensorsWhere (_s : State) (p : Nat → Bool) : List Nat := (List.range 32).filter p

/-- CAMERA_TRIGGER: the hub drives a trigger edge at a multiple of the period (R273). Each camera on the port matches
the trigger to a frame of its own (DEDUCED, log 146). -/
def execCameraTrigger (port : Fin 16) (t : Nat) (s : State) : Host.Outcome State Fault Refusal :=
  .next (
    let s := atTime t s
    let l := sensorsWhere s (fun i => isCamera (stType s i) && stField s i 1 1 == port.val &&
      t % (stField s i 12 4 * 1000) == 0)
    if l.isEmpty then s
    else
      let s1 := { s with sun := { s.sun with triggers := tabPut s.sun.triggers port.val t } }
      l.foldl (fun a i => setSensor a i { sensorOf a i with pendTrig := (sensorOf a i).pendTrig ++ [t] }) s1)

/-- A frame is frozen against the previous one (R286). -/
def frameFrozen (x : Sensor) (f : CameraSample) (stamp : Nat) : Bool :=
  match x.lastStamp with
  | none => false
  | some prev =>
    let n := f.frameNumber.toNat
    let next := n == x.frameNo + 1 || (n == 1 && x.frameNo == x.largestNo)
    x.strips == f.strips || (n != 0 && !next) || decide (stamp ≤ prev)

/-- CAMERA_FRAME (R272, R273, R279, R286). -/
def execCameraFrame (fr : CameraSample) (s : State) : Host.Outcome State Fault Refusal :=
  .next (
    let s := atTime fr.arrival s
    match (sensorsWhere s (fun i => isCamera (stType s i) && stField s i 1 1 == fr.port.val &&
        stField s i 2 1 == fr.channel.toNat)).head? with
    | none => s
    | some i =>
      let x := sensorOf s i
      let maxLat := stField s i 4 4 * 1000
      let trig := x.pendTrig.find? (fun p => decide (p ≤ fr.frameStart) && decide (fr.frameStart - p ≤ maxLat))
      let centre := signedOf 32 (stField s i 8 4)
      let stamp := match trig, x.lastStamp with
        | some p, _ => ((p : Int) + centre + timeOffset s i).toNat
        | none, some prev => prev
        | none, none => freeValue s % 2 ^ 64
      let s0 := if trig.isNone && x.lastStamp.isNone then drawFree s else s
      let frozen := frameFrozen x fr stamp
      let y := { x with
        pendTrig := match trig with
          | some p => x.pendTrig.filter (fun q => decide (p < q))
          | none => x.pendTrig,
        strips := fr.strips, frameNo := fr.frameNumber.toNat, largestNo := max x.largestNo fr.frameNumber.toNat,
        lastStamp := some stamp }
      takeSample (setSensor s0 i y) i stamp 0 fr.arrival false fr.corrupt frozen fr.frameNumber.toNat fr.strips fr.payload)

/-- A big-endian number. -/
def beNat (l : List Byte) : Nat := leNat l.reverse

/-- LIDAR_PACKET: the packet's own PTP timestamp stamps it; it is invalid while its port's gPTP is not
synchronised, which the packet's receipt may find (R272, R274). Where the packet ends before its timestamp the stamp is free. In reduced mode the Ethernet
MACs are down (R419). -/
def execLidarPacket (pk : LidarSample) (s : State) : Host.Outcome State Fault Refusal :=
  .next (
    let s := atTime pk.arrival s
    if s.rs.reduced then s else
    let s := if pk.gptpSynced then s
      else { s with sun := { s.sun with gptpSync := s.sun.gptpSync &&& ~~~ (BitVec.ofNat 4 (2 ^ pk.port.val)) } }
    match (sensorsWhere s (fun i => stType s i == 3 && stField s i 1 1 == pk.port.val &&
        stField s i 22 2 == pk.udpPort.toNat)).head? with
    | none => s
    | some i =>
      let o := stField s i 24 2
      let short := decide (pk.payload.length < o + 10)
      let time := if short then freeValue s % 2 ^ 64
        else beNat (slice pk.payload o 6) * 1000000000 + beNat (slice pk.payload (o + 6) 4)
      let stamp := ((time : Int) + timeOffset s i).toNat
      takeSample (if short then drawFree s else s) i stamp 0 pk.arrival (!s.sun.gptpSync.getLsbD pk.port.val)
        false false 0 [] pk.payload)

/-- SPI_DATA_READY: an IMU or odometry sample, stamped at its data-ready edge (R272), whose fraction is free (log 142). -/
def execSpiDataReady (port : Fin 4) (bytes : List Byte) (edge arrival : Nat) (s : State) : Host.Outcome State Fault Refusal :=
  .next (
    let s := atTime arrival s
    match (sensorsWhere s (fun i => (stType s i == 4 || stType s i == 6) && stField s i 1 1 == port.val)).head? with
    | none => s
    | some i => takeSample s i ((edge : Int) + timeOffset s i).toNat (Config.subNs edge).toNat arrival false false
        false 0 [] bytes)

/-- GNSS_FIX: stamped at the PPS edge of its epoch; before any edge the stamp is free (R272) (DESIGN CHOICE, log 73). The
edge's fraction is free (log 142). -/
def execGnssFix (bytes : List Byte) (arrival : Nat) (s : State) : Host.Outcome State Fault Refusal :=
  .next (
    let s := atTime arrival s
    match (sensorsWhere s (fun i => stType s i == 5)).head? with
    | none => s
    | some i =>
      let edge := s.sun.ppsStamp.getD (freeValue s % 2 ^ 64)
      let s1 := if s.sun.ppsStamp.isNone then drawFree s else s
      takeSample s1 i ((edge : Int) + timeOffset s i).toNat (Config.subNs edge).toNat arrival false false false 0 [] bytes)

/-- A sensor's history keeps the samples that its ring still holds (R279). -/
def pruneSamples (s : State) (i : Nat) : State :=
  let x := sensorOf s i
  let slots := max 1 (field (feSection s 4) (16 * i + 12) 2)
  if x.samples.all (fun p => decide (x.n ≤ p.2.2 + slots)) then s
  else setSensor s i { x with samples := x.samples.filter (fun p => decide (x.n ≤ p.2.2 + slots)) }

/-- The snapshot of a plan cycle boundary: every sample that has arrived, and each perception channel's
counter (R283). -/
def takeSnapshot (s : State) (tc : Nat) : State :=
  let s := (List.range 32).foldl pruneSamples s
  let snap := (sensorsWhere s (fun i => stType s i != 0)).map (fun i =>
    (i, (sensorOf s i).samples.filter (fun p => decide (p.2.1 ≤ tc))))
  let sync := (List.range 32).map (fun i => (i, syncGet s (field (feSection s 5) (16 * i + 2) 2)))
  { s with fe := { s.fe with snapAt := some tc, snap := snap, snapSync := sync } }

end Sys2Proof.Machine
end

