-- ==== Sys2Proof/Machine/Align.lean ====
section
/-! DEFINITION. What a fusion cycle takes from its streams (R278, R280 to R282, R284, R285, R287, R298): samples that can be
read, perception outputs and their detections, absence, aligned values, and the grid cells that a sensor's aligned data
occupies. -/

namespace Sys2Proof.Machine

/-- The outputs and parameters in force (section 0x06). -/
def outField (s : State) (off n : Nat) : Nat := field (feSection s 6) off n

/-- The recipe in force has a step for a configured sensor (R282). -/
def hasStep (s : State) (op i : Nat) : Bool :=
  stType s i != 0 && (recipeSteps (feSection s 7)).any (fun e => e.2.1 == op && e.2.2 == i)

/-! ## Samples (R283, R298) -/

/-- The ring slot of sample `n` of a sensor: address and size. -/
def ringSlot (s : State) (i n : Nat) : Nat × Nat :=
  let e := ringEntry s i
  (field e 0 6 + (n % max 1 (field e 12 2)) * field e 8 4, field e 8 4)

/-- A sample of the snapshot cannot be read: its slot holds a bad granule, or the command says so of the
sensor's newest. -/
def sampleBad (s : State) (inp : FusionInput) (i : Nat) (p : Nat × Nat × Nat) : Bool :=
  let sl := ringSlot s i p.2.2
  (badGranule s sl.1 (max 1 sl.2)).isSome ||
    (inp.unreadable.any (fun x => x.val == i) && (tabGet [] s.fe.snap i).head? == some p)

/-- Samples of the snapshot that can be read. -/
def goodSamples (s : State) (inp : FusionInput) (i : Nat) : List (Nat × Nat × Nat) :=
  (tabGet [] s.fe.snap i).filter (fun p => !sampleBad s inp i p)

/-- Counts an INVALID input of a sensor and reports it to the hub die's aggregator (R298). -/
def countUnreadable (s : State) (i a : Nat) : State :=
  let x := sensorOf s i
  let s1 := setSensor s i { x with invalid := satInc x.invalid, evInvalid := x.evInvalid + 1 }
  let s2 := match badGranule s a 64 with
    | some g => noteUncorrectable s1 g false
    | none => s1
  openReport s2 4 (masterUnit 2) 0x08 none

/-- Counts each unreadable sample of the snapshot once and drops it from the sensor's history (R298). -/
def dropUnreadable (s : State) (inp : FusionInput) : State :=
  (List.range 32).foldl (fun a i =>
    let bad := (tabGet [] s.fe.snap i).filter (sampleBad s inp i)
    let a1 := bad.foldl (fun a p => countUnreadable a i (ringSlot s i p.2.2).1) a
    if bad.isEmpty then a1
    else setSensor a1 i { sensorOf a1 i with samples := (sensorOf a1 i).samples.filter (fun p => !bad.contains p) }) s

/-! ## Perception channels (R280, R281, R284) -/

/-- The output slot that a channel uses this cycle: its address. -/
def channelSlot (s : State) (k : Nat) : Option Nat :=
  let e := slice (feSection s 5) (16 * k) 16
  let v := (tabGet 0 s.fe.snapSync k).toNat
  if allZero e ∨ v = 0 then none else some (field e 4 6 + ((v - 1) % 4) * 32768)

/-- How a channel's output stands: its sensor's stamp when it is used, or the reason it is INVALID. -/
inductive Output where
  | unused
  | stale
  | invalid
  | unreadable (a : Nat)
  | used (stamp : Nat)
  deriving DecidableEq, Repr

def channelOutput (s : State) (tc k : Nat) : Output :=
  match channelSlot s k with
  | none => .unused
  | some a =>
    let h := paReads s a 64
    let count := field h 8 2
    if (badGranule s a 64).isSome then .unreadable a
    else if 1022 < count then .invalid
    else if (badGranule s a (64 + 32 * count)).isSome then .unreadable a
    else if field (feSection s 5) (16 * k + 12) 4 * 1000 + field h 0 8 < tc then .stale
    else .used (field h 0 8)

/-- The camera of a channel. -/
def channelSensor (s : State) (k : Nat) : Nat := field (feSection s 5) (16 * k) 1

/-- Stamps of the outputs used for a camera. -/
def outputStamps (s : State) (tc i : Nat) : List Nat :=
  (List.range 32).filterMap (fun k =>
    if channelSensor s k = i then
      match channelOutput s tc k with
      | .used st => some st
      | _ => none
    else none)

/-- Counts the outputs that are INVALID this cycle. -/
def countOutputs (s : State) (tc : Nat) : State :=
  (List.range 32).foldl (fun a k =>
    let i := channelSensor a k
    match channelOutput s tc k with
    | .invalid =>
      let x := sensorOf a i
      setSensor a i { x with invalid := satInc x.invalid, evInvalid := x.evInvalid + 1 }
    | .unreadable ad => countUnreadable a i ad
    | _ => a) s

/-- A detection (R280): centre, half sizes, yaw and velocity in metres, radians and m/s × 2¹⁴⁹ in the camera frame, when
finite; class and confidence. -/
structure Detection where
  centre : Option (List Int)
  half   : Option (List Int)
  yaw    : Option Int
  vx     : Option Int
  vy     : Option Int
  cls    : Byte
  conf   : Nat
  deriving DecidableEq, Repr

/-- Detection `j` of the output slot at `a`. -/
def detectionAt (s : State) (a j : Nat) : Detection :=
  let d := paReads s (a + 64 + 32 * j) 32
  let h (k : Nat) : Option Int := fixFp fmtFP16 (field d (12 + 2 * k) 2)
  ⟨fixWords (words32 d 0 3), ([0, 1, 2] : List Nat).mapM h, fixFp fmtFP16 (field d 18 2), fixFp fmtFP16 (field d 20 2),
    fixFp fmtFP16 (field d 22 2), (slice d 24 1).headD 0, field d 25 1 % 16⟩

/-- Detections that a slot holds. -/
def detectionCount (s : State) (a : Nat) : Nat := field (paReads s a 64) 8 2

/-! ## The reads of a cycle (R283, R348) -/

/-- The requests of at most 256 B of a read. -/
def readsOf (pa n : Nat) : List (Nat × Nat) :=
  (List.range ((n + 255) / 256)).map (fun k => (pa + 256 * k, min 256 (n - 256 * k)))

/-- What a cycle reads of its snapshot: the slot of each sample of a sensor other than a camera that has arrived since the
boundary before, and each perception output that a channel names (DEDUCED, log 60). -/
def cycleReads (s : State) (tc : Nat) : List (Nat × Nat) :=
  (List.range 32).flatMap (fun i =>
    if isCamera (stType s i) || allZero (ringEntry s i) then []
    else ((tabGet [] s.fe.snap i).filter (fun p => decide (tc < p.2.1 + 1000000))).flatMap (fun p =>
      let a := (ringSlot s i p.2.2).1
      readsOf a (128 + field (paReads s (a + 24) 4) 0 4))) ++
  (List.range 32).flatMap (fun k =>
    match channelSlot s k with
    | none => []
    | some a => readsOf a (64 + 32 * min 1022 (detectionCount s a)))

/-- Issues reads of the Fusion Engine until its count pauses. -/
def issueReads : List (Nat × Nat) → State → State × List (Nat × Nat)
  | [], s => (s, [])
  | r :: l, s => if masterPaused s 2 r.1 then (s, r :: l) else issueReads l (countMaster s 2 r.2)

def pumpReads (s : State) : State :=
  match issueReads s.fe.reading s with
  | (s1, l) => { s1 with fe := { s1.fe with reading := l } }

/-! ## Absence (R285) -/

/-- Stamps of a sensor's stream in the snapshot. -/
def streamStamps (s : State) (inp : FusionInput) (tc i : Nat) : List Nat :=
  if isCamera (stType s i) then outputStamps s tc i else (goodSamples s inp i).map (fun p => p.1)

/-- The stream has no value at the common instant. -/
def absentStream (s : State) (inp : FusionInput) (tc i : Nat) : Bool :=
  let l := streamStamps s inp tc i
  let extrap := stField s i 16 4 * 1000
  !hasStep s 1 i ||
    (match (l.filter (fun p => decide (p ≤ tc))).max? with
     | none => true
     | some a => !(l.any (fun p => decide (tc < p)) || (extrap != 0 && decide (tc - a ≤ extrap))))

/-! ## The camera model (R278) -/

/-- The displacement that a distortion slot holds at point (i, j): dx and dy in pixels × 2¹⁴⁹. -/
def lutPoint (lut : List Byte) (i j : Nat) : Option (List Int) :=
  fixWords (words32 lut (8 + 8 * (33 * min j 32 + min i 32)) 2)

/-- The bilinear displacement at an ideal pixel (u, v) of an image, between the four surrounding points (R278). -/
def lutShift (lut : List Byte) (u v : Frac) : Option (Frac × Frac) :=
  let w : Int := field lut 0 2
  let h : Int := field lut 2 2
  if w = 0 ∨ h = 0 then none
  else
    let i := 32 * u.num / (w * u.den)
    let j := 32 * v.num / (h * v.den)
    let fx := 32 * u.num - i * (w * u.den)
    let fy := 32 * v.num - j * (h * v.den)
    let gx := w * u.den - fx
    let gy := h * v.den - fy
    match lutPoint lut i.toNat j.toNat, lutPoint lut (i.toNat + 1) j.toNat, lutPoint lut i.toNat (j.toNat + 1),
        lutPoint lut (i.toNat + 1) (j.toNat + 1) with
    | some [ax, ay], some [bx, b_y], some [cx, cy], some [dx, dy] =>
      let mix (a b c d : Int) : Frac :=
        ⟨gy * (gx * a + fx * b) + fy * (gx * c + fx * d), (w.toNat * u.den) * (h.toNat * v.den) * 2 ^ 149⟩
      some (mix ax bx cx dx, mix ay b_y cy dy)
    | _, _, _, _ => none

/-- Sum of two fractions. -/
def plusFrac (a b : Frac) : Frac := ⟨a.num * b.den + b.num * a.den, a.den * b.den⟩

/-- The pixel of a camera-frame point (R278): `intr` holds fx, fy, cx and cy, `p` the point, all × 2¹⁴⁹; nothing when z ≤ 0
or the pixel lies off the image of `w` × `h` pixels. -/
def pixelOf (intr : List Int) (lut : Option (List Byte)) (w h : Nat) (p : V3) : Option (Frac × Frac) :=
  match intr with
  | [fx, fy, cx, cy] =>
    if p.z ≤ 0 then none
    else
      let den := p.z.toNat * 2 ^ 149
      let u : Frac := ⟨fx * p.x + cx * p.z, den⟩
      let v : Frac := ⟨fy * p.y + cy * p.z, den⟩
      let on (q : Frac) (n : Nat) : Bool := decide (0 ≤ q.num) && decide (q.num < n * q.den)
      let px := match lut with
        | none => some (u, v)
        | some l => if on u w && on v h then (lutShift l u v).map (fun (d : Frac × Frac) => (plusFrac u d.1, plusFrac v d.2)) else none
      px.filter (fun q => on q.1 w && on q.2 h)
  | _ => none

/-- A camera's pixel for a point in its frame under the calibration in force, its image sized by its distortion slot. -/
def cameraPixel (s : State) (i : Nat) (p : V3) : Option (Frac × Frac) :=
  let c := slice (feSection s 2) (128 * i) 128
  let k := field c 68 1
  let lut := slice (feSection s 3) (8768 * k) 8768
  match fixWords (words32 c 48 4) with
  | none => none
  | some l =>
    if k < 32 then pixelOf l (some lut) (field lut 0 2) (field lut 2 2) p else pixelOf l none (2 ^ 32) (2 ^ 32) p

/-! ## Aligned data (R272, R278, R285) -/

/-- EXTRINSIC of a sensor. -/
def extrinsicOf (s : State) (i : Nat) : Option Affine := affineOf (words32 (feSection s 2) (128 * i) 12)

/-- The grid cell of a machine-frame point in units of 1 / `k` nm (R293). -/
def cellOf (s : State) (k : Int) (p : V3) : Option Nat :=
  let ix := (p.x + 25600000000 * k) / (200000000 * k)
  let iy := (p.y + 25600000000 * k) / (200000000 * k)
  let iz := (p.z - signedOf 16 (outField s 26 2) * 1000000 * k) / (200000000 * k)
  if 0 ≤ ix ∧ ix < 256 ∧ 0 ≤ iy ∧ iy < 256 ∧ 0 ≤ iz ∧ iz < 16 then some ((iz.toNat * 256 + iy.toNat) * 256 + ix.toNat)
  else none

/-- The middle of grid cell `i` in units of 1 / `k` nm (R293). -/
def cellMiddle (s : State) (k : Int) (i : Nat) : V3 :=
  ⟨(200000000 * (i % 256 : Nat) - 25500000000) * k, (200000000 * (i / 256 % 256 : Nat) - 25500000000) * k,
    (signedOf 16 (outField s 26 2) * 1000000 + 200000000 * (i / 65536 : Nat) + 100000000) * k⟩

/-- Grid cells within `ext` of a point on each axis, in units of 1 / `k` nm: the ones in which a solid is sought. -/
def cellsNear (s : State) (k : Int) (ctr ext : V3) : List Nat :=
  let near (c e : Int) (mid : Nat → Int) (n : Nat) : List Nat :=
    (List.range n).filter (fun i => decide ((mid i - c).natAbs ≤ e + 100000000 * k))
  (near ctr.z ext.z (fun i => (cellMiddle s k (65536 * i)).z) 16).flatMap (fun iz =>
    (near ctr.y ext.y (fun i => (cellMiddle s k (256 * i)).y) 256).flatMap (fun iy =>
      (near ctr.x ext.x (fun i => (cellMiddle s k i).x) 256).map (fun ix => (iz * 256 + iy) * 256 + ix)))

/-- How far the generators of a solid reach on each axis. -/
def reachOf (gens : List V3) : V3 :=
  gens.foldl (fun a g => ⟨a.x + g.x.natAbs, a.y + g.y.natAbs, a.z + g.z.natAbs⟩) ⟨0, 0, 0⟩

/-- Grid cells that a solid of generators `gens` about `ctr` meets; a touch counts (DESIGN CHOICE, log 163). -/
def solidCells (s : State) (k : Int) (ctr : V3) (gens : List V3) : List Nat :=
  (cellsNear s k ctr (reachOf gens)).filter (fun i => inSum ((cellMiddle s k i).sub ctr) (cubeSides k ++ gens))

/-- The newest sample of a stream with a stamp at or before the common instant. -/
def newestAt (s : State) (inp : FusionInput) (tc i : Nat) : Option (Nat × Nat × Nat) :=
  let l := (goodSamples s inp i).filter (fun p => decide (p.1 ≤ tc))
  l.find? (fun p => some p.1 == (l.map (fun q => q.1)).max?)

/-- The pose change inverse(pose(T_c)) · pose(tp) that EGO gives for a point time; none listed, none made. -/
def poseChange (inp : FusionInput) (tp : Nat) : Option Affine :=
  match inp.changes.find? (fun c => c.1 == tp) with
  | some c => affineOf (c.2.map (fun w => w.toNat))
  | none => some affineId

/-- Point `j` of a lidar packet's payload in its frame, in 2⁻¹⁴⁹ nm: three INT16 at 4 mm, or three FP32 in metres (R277). -/
def lidarPoint (s : State) (i : Nat) (b : List Byte) (j : Nat) : Option V3 :=
  let o := stField s i 26 2 + j * stField s i 28 1
  if stField s i 2 1 = 0 then
    let c (k : Nat) : Int := signedOf 16 (field b (o + 2 * k) 2) * 4000000 * fpUnit
    some ⟨c 0, c 1, c 2⟩
  else
    match fixWords (words32 b o 3) with
    | some [x, y, z] => some ⟨1000000000 * x, 1000000000 * y, 1000000000 * z⟩
    | _ => none

/-- The points that a payload of `n` bytes holds. -/
def lidarCount (s : State) (i n : Nat) : Nat :=
  let size := if stField s i 2 1 = 0 then 6 else 12
  let o := stField s i 26 2
  if n < o + size then 0 else (n - o - size) / max 1 (stField s i 28 1) + 1

/-- Cells of the aligned points of a lidar's newest packet: point j has the time of the packet and j spacings, and moves
to the common instant by the ego pose change (R272, R285). -/
def lidarCells (s : State) (inp : FusionInput) (tc i : Nat) : List Nat :=
  match newestAt s inp tc i, extrinsicOf s i with
  | some p, some ext =>
    let a := (ringSlot s i p.2.2).1
    let n := field (paReads s (a + 24) 4) 0 4
    let b := paReads s (a + 128) n
    (List.range (lidarCount s i n)).filterMap (fun j =>
      match lidarPoint s i b j, poseChange inp (p.1 + j * stField s i 30 2) with
      | some q, some ch => cellOf s (fpUnit * fpUnit * fpUnit) (ch.apply (fpUnit * fpUnit) (ext.apply fpUnit q))
      | _, _ => none)
  | _, _ => []

/-- A detection's centre at the common instant in 2⁻²⁹⁸ nm of the machine frame: it moves at its own velocity, then by
EXTRINSIC. -/
def detectionPoint (s : State) (i tc stamp : Nat) (d : Detection) : Option V3 :=
  match d.centre, d.vx, d.vy, extrinsicOf s i with
  | some [x, y, z], some vx, some vy, some ext =>
    let dt : Int := (tc : Int) - stamp
    some (ext.apply fpUnit ⟨1000000000 * x + vx * dt, 1000000000 * y + vy * dt, 1000000000 * z⟩)
  | _, _, _, _ => none

/-- The cell of a detection's centre. -/
def detectionCell (s : State) (i tc stamp : Nat) (d : Detection) : Option Nat :=
  (detectionPoint s i tc stamp d).bind (cellOf s (fpUnit * fpUnit))

/-- The cells of a detection's box, turned by its yaw about the z axis of its frame (DESIGN CHOICE, log 163), in 2⁻³⁷⁸ nm. -/
def detectionCells (s : State) (i tc stamp : Nat) (d : Detection) : List Nat :=
  match detectionPoint s i tc stamp d, d.half, d.yaw, extrinsicOf s i with
  | some p, some [hx, hy, hz], some yaw, some ext =>
    let cs := fxCosSin (yaw * fxOne / fpUnit)
    let turned (v : V3) : V3 := V3.scale 1000000000 ⟨ext.r0.dot v, ext.r1.dot v, ext.r2.dot v⟩
    solidCells s (fpUnit * fpUnit * fxOne) (p.scale fxOne)
      [turned ⟨hx * cs.1, hx * cs.2, 0⟩, turned ⟨-(hy * cs.2), hy * cs.1, 0⟩, turned ⟨0, 0, hz * fxOne⟩]
  | _, _, _, _ => []

/-- Cells of the aligned detections of a camera. -/
def cameraCells (s : State) (tc i : Nat) : List Nat :=
  (List.range 32).flatMap (fun k =>
    match channelOutput s tc k, channelSlot s k with
    | .used st, some a =>
      if channelSensor s k = i then
        (List.range (detectionCount s a)).flatMap (fun j => detectionCells s i tc st (detectionAt s a j))
      else []
    | _, _ => [])

/-- What RASTER takes of a sensor: the cells and bins that its aligned data occupies. Lidar points and the boxes of
detections are placed here, in bin 0; the manual does not say what else of a sample occupies a cell or a later bin: that
comes with the command (DESIGN CHOICE, log 74). -/
def sensorCells (s : State) (inp : FusionInput) (tc i : Nat) : List (Nat × Word32) :=
  if !hasStep s 4 i || absentStream s inp tc i then []
  else
    let given := (inp.data.filter (fun d => d.1.val == i)).map (fun d => (d.2.1, d.2.2))
    if stType s i = 3 then (lidarCells s inp tc i).map (fun c => (c, 1)) ++ given.map (fun g => (g.1, g.2 &&& ~~~ 1))
    else if isCamera (stType s i) then (cameraCells s tc i).map (fun c => (c, 1)) ++ given
    else given

/-! ## Ego-motion (R285, R287 to R289) -/

/-- A REGISTER step names a lidar whose sweep of a stamp is in the snapshot. -/
def registers (s : State) (inp : FusionInput) (stamp : Option Nat) : Bool :=
  (List.range 32).any (fun i => hasStep s 2 i && stType s i == 3 &&
    (goodSamples s inp i).any (fun p => stamp.all (fun t => p.1 == t)))

/-- The sweep stamp of a registration accepted this cycle. -/
def acceptedSweep (s : State) (inp : FusionInput) : Option Nat :=
  inp.acceptedSweep.filter (fun t => registers s inp (some t))

/-- REG_REJECTED. -/
def rejectedSweeps (s : State) (inp : FusionInput) : Nat := if registers s inp none then inp.regRejected else 0

/-- Speed of an odometry sample in µm/s. -/
def odoAt (inp : FusionInput) (stamp : Nat) : Int :=
  match inp.vOdo.find? (fun v => v.1 == stamp) with
  | some v => v.2
  | none => 0

/-- v_odo at the common instant as a fraction of µm/s: between the bracketing samples, or held (R285); nothing while no
odometry stream has a value. -/
def odometry (s : State) (inp : FusionInput) (tc : Nat) : Option Frac :=
  match (List.range 32).find? (fun i => stType s i == 6 && !absentStream s inp tc i) with
  | none => none
  | some i =>
    let l := (goodSamples s inp i).map (fun p => p.1)
    match (l.filter (fun p => decide (p ≤ tc))).max?, (l.filter (fun p => decide (tc < p))).min? with
    | some a, some b => some ⟨odoAt inp a * (b - a : Nat) + (odoAt inp b - odoAt inp a) * (tc - a : Nat), b - a⟩
    | some a, none => some ⟨odoAt inp a, 1⟩
    | none, _ => none

end Sys2Proof.Machine
end

