-- ==== Sys2Proof/Machine/Fusion.lean ====
section
/-! DEFINITION. A fusion cycle's votes and ego status (R287 to R292): the static map, footprints, the decision of each
region, vote states and confidences, the slip. -/

namespace Sys2Proof.Machine

/-! ## The road-map store's place (R305) and the static map (R290, R312) -/

def mzSection (s : State) (n : Nat) : List Byte := tabGet [] s.mz.config n

/-- Base of the road-map store (R305). -/
def storeBase : Nat := 0x6000_2000_0000

def storeRead (s : State) (off n : Nat) : List Byte := memReads s.mem (storeBase + off) n

/-- Base of a region slot within the store. -/
def regionBase (r : Nat) : Nat := r * 0x20_0000

/-- A static triangle in the machine frame, its corners in units of 2⁻⁴⁴⁷ nm. -/
structure Facet where
  a : V3
  b : V3
  c : V3
  deriving DecidableEq, Repr

/-- Unit of a facet's coordinates. -/
def facetUnit : Int := fpUnit * fpUnit * fpUnit

/-- A corner of a mesh triangle in the machine frame under a map pose. -/
def facetCorner (pose : List Nat) (t : List Byte) (k : Nat) : Option V3 :=
  match fixWords (words32 t (12 * k) 3) with
  | some [x, y, z] => unpose pose ⟨1000000000 * x, 1000000000 * y, 1000000000 * z⟩
  | _ => none

/-- An uncorrectable 8 B word of the store or a bank lies in a range (R335). -/
def mazeBad (s : State) (a n : Nat) : Bool := s.tl.badWords.any (fun w => decide (w < a + n) && decide (a < w + 8))

/-- Reports an uncorrectable read of the store or a bank to the Maze die's aggregator (R335). The manual
gives no cause code for it: CAUSE is free (DESIGN CHOICE, log 81). -/
def storeReport (s : State) : State :=
  openReport (drawFree s) 5 (unitId 5 6 0) (freeValue s % 256) none

/-- A mesh record, or the meshes' header, cannot be read. R335's table has no row for them: the read is reported, and a
record that cannot be read gives no facet (DESIGN CHOICE, log 153). -/
def meshBad (s : State) (i : Nat) : Bool :=
  mazeBad s (storeBase + 0x1E2_0000) 2 || mazeBad s (storeBase + 0x1E2_0000 + 64 + 48 * i) 48

/-- The static meshes in the machine frame; none while the map pose is not known (DESIGN CHOICE, log 144). -/
def staticFacets (s : State) (inp : FusionInput) : List Facet :=
  match inp.mapPose with
  | none => []
  | some pose =>
    let m := mzSection s 3
    ((List.range (field m 0 2)).filter (fun i => !meshBad s i)).filterMap (fun i =>
      let t := slice m (64 + 48 * i) 48
      let p := pose.map (fun w => w.toNat)
      match facetCorner p t 0, facetCorner p t 1, facetCorner p t 2 with
      | some a, some b, some c => some ⟨a, b, c⟩
      | _, _, _ => none)

/-- A facet comes into a column of the grid at any height. -/
def inColumn (s : State) (f : Facet) (ix iy : Nat) : Bool :=
  let at_ (nm : Int) : Int := nm * facetUnit
  let zb := signedOf 16 (outField s 26 2) * 1000000
  touchesBox f.a f.b f.c
    ⟨at_ (200000000 * ix - 25500000000), at_ (200000000 * iy - 25500000000), at_ (zb + 1600000000)⟩
    ⟨at_ 100000000, at_ 100000000, at_ 1600000000⟩

/-- A mask of the columns of a region: bit 16 × (iy mod 16) + (ix mod 16). -/
def columnMask (r : Nat) (p : Nat → Nat → Bool) : BitVec 256 :=
  BitVec.ofNat 256 (((List.range 256).map (fun c =>
    if p (r % 16 * 16 + c % 16) (r / 16 * 16 + c / 16) then 2 ^ c else 0)).sum)

/-- The static map's footprint in a region (R290). -/
def staticFootprint (s : State) (facets : List Facet) (r : Nat) : BitVec 256 :=
  columnMask r (fun ix iy => facets.any (fun f => inColumn s f ix iy))

/-! ## Voting (R290, R291) -/

/-- A sensor's data in a cycle, by sensor. -/
abbrev CellData := List (Nat × List (Nat × Word32))

def cellsOf (data : CellData) (i : Nat) : List (Nat × Word32) :=
  match data.find? (fun d => d.1 == i) with
  | some d => d.2
  | none => []

/-- A sensor's footprint in a region: the columns that its data occupies in bin 0. -/
def footprint (data : CellData) (i r : Nat) : BitVec 256 :=
  let l := (cellsOf data i).filter (fun c => c.2.getLsbD 0)
  columnMask r (fun ix iy => l.any (fun c => c.1 % 256 == ix && c.1 / 256 % 256 == iy))

/-- Columns set in a mask. -/
def countBits (b : BitVec 256) : Nat := ((List.range 256).filter (fun i => b.getLsbD i)).length

/-- Two footprints agree. -/
def agree (tol : Nat) (a b : BitVec 256) : Bool := decide (countBits (a ^^^ b) ≤ tol)

/-- A sensor's data may enter the outputs: its stream has a value, its confidence is above 0 and it is not VOTED_OUT
(R290, R292). -/
def contributes (s : State) (inp : FusionInput) (tc i : Nat) : Bool :=
  !absentStream s inp tc i && (sensorOf s i).confidence != 0 && (sensorOf s i).vote != 2

/-- Voters of a region in increasing number. -/
def voters (s : State) (inp : FusionInput) (tc r : Nat) : List Nat :=
  (List.range 32).filter (fun i => bit (field (feSection s 2) (128 * i + 72) 32) r && contributes s inp tc i)

/-- What VOTE decides in a region: the voters, those that disagree with consensus, those masked, the pair
under contradiction, and the footprint used. -/
structure RegionVote where
  region   : Nat
  voters   : List Nat
  disagree : List Nat
  masked   : List Nat
  clash    : Option (Nat × Nat)
  result   : BitVec 256
  deriving DecidableEq, Repr

def joinBits (l : List (BitVec 256)) : BitVec 256 := l.foldl (fun a b => a ||| b) 0

def voteRegion (s : State) (inp : FusionInput) (data : CellData) (facets : List Facet) (tc r : Nat) : RegionVote :=
  let tol := outField s 28 2
  let vs := voters s inp tc r
  let fp (i : Nat) : BitVec 256 := footprint data i r
  let used (l : List Nat) : BitVec 256 := joinBits (l.map fp)
  match vs with
  | [a, b] =>
    if agree tol (fp a) (fp b) then ⟨r, vs, [], [], none, used vs⟩
    else
      let ref := tabGet 0 s.fe.previous r ||| staticFootprint s facets r
      match agree tol (fp a) ref, agree tol (fp b) ref with
      | true, false => ⟨r, vs, [], [b], none, fp a⟩
      | false, true => ⟨r, vs, [], [a], none, fp b⟩
      | _, _ => ⟨r, vs, [], [a, b], some (a, b), BitVec.allOnes 256⟩
  | _ =>
    if vs.length < 3 then ⟨r, vs, [], [], none, used vs⟩
    else
      let bad := vs.filter (fun i =>
        let others := vs.filter (fun j => j != i && !agree tol (fp i) (fp j))
        others.any (fun j => others.any (fun k => decide (j < k) && agree tol (fp j) (fp k))))
      ⟨r, vs, bad, [], none, used (vs.filter (fun i => !bad.contains i))⟩

/-- The vote state, confidence and clean run of a sensor after the cycle's votes (R291, R292). -/
def voteSensor (votes : List RegionVote) (i voteCycles : Nat) (x : Sensor) : Sensor :=
  let took := votes.any (fun v => decide (3 ≤ v.voters.length) && v.voters.contains i)
  let bad := votes.any (fun v => v.disagree.contains i)
  let masks := (votes.filter (fun v => v.masked.contains i)).length
  let run := satInc x.disagree
  let y : Sensor :=
    if x.vote = 2 ∨ !took then x
    else if bad then { x with disagree := run, vote := if voteCycles ≤ run.toNat then 2 else 1 }
    else { x with disagree := 0, vote := 0 }
  let conf := x.confidence.toNat - masks
  let clean := if x.marked || masks != 0 then 0 else x.clean + 1
  { y with confidence := BitVec.ofNat 4 (if clean = 64 then min 15 (conf + 1) else conf),
           clean := if clean = 64 then 0 else clean, marked := false }

/-- Applies a region's contradiction to FE_CONTRADICTION. -/
def noteClash (s : State) (v : RegionVote) : State :=
  match v.clash with
  | none => s
  | some (a, b) =>
    { s with fe := { s.fe with conCount := satInc s.fe.conCount, conRegion := BitVec.ofNat 8 v.region,
                               conA := BitVec.ofNat 5 a, conB := BitVec.ofNat 5 b, conValid := true } }

/-! ## Ego status and slip (R288, R289) -/

/-- Trace of the position covariance: entries (0,0), (1,1) and (2,2) of the upper triangle (R297). -/
def covTrace (inp : FusionInput) : Real :=
  let v (k : Nat) : Real := fdecode fmtFP32 (inp.covariance.getD k 0).toNat
  Real.add (Real.add (v 0) (v 6)) (v 11)

/-- EGO_STATUS: 0 REGISTERED, 1 PROPAGATED, 2 INVALID. -/
def egoStatus (s : State) (inp : FusionInput) (tc : Nat) : Nat :=
  let reg := match acceptedSweep s inp with
    | some t => some t
    | none => s.fe.lastReg
  match reg with
  | none => 2
  | some t =>
    if tc ≤ t + outField s 32 4 * 1000 then 0
    else if !(covTrace inp).isNan && decide (Real.cmp (covTrace inp) (fdecode fmtFP32 (outField s 36 4)) ≤ 0) then 1
    else 2

/-- The slip ratio as numerator and denominator: (v_odo − v_ego) / max(|v_odo|, 0.1 m/s) (R289); nothing while there is no
v_odo. -/
def slipFrac (s : State) (inp : FusionInput) (tc : Nat) : Option Frac :=
  (odometry s inp tc).map (fun v => ⟨v.num - inp.vEgo * v.den, max v.num.natAbs (100000 * v.den)⟩)

/-- The slip ratio exceeds SLIP_LIMIT (Q8.8). Without a v_odo the manual gives no ratio: a free choice (DESIGN CHOICE,
log 75). -/
def slipping (s : State) (inp : FusionInput) (tc : Nat) : Bool :=
  match slipFrac s inp tc with
  | some f => decide (outField s 30 2 * f.den < f.num.natAbs * 256)
  | none => (freeValue s).testBit 17

/-- SLIP and its run after a cycle. -/
def slipAfter (s : State) (inp : FusionInput) (tc : Nat) : State :=
  let now := slipping s inp tc
  let run := if now = s.fe.slip then 0 else s.fe.slipRun + 1
  if 10 ≤ run then { s with fe := { s.fe with slip := now, slipRun := 0 } }
  else { s with fe := { s.fe with slipRun := run } }

/-- SLIP_RATIO in Q8.8 as the record holds it. The manual states neither how the ratio rounds nor what one
outside Q8.8 gives: the last bit is a free choice, and an overflow is free (DESIGN CHOICE, log 75). -/
def slipRatio (s : State) (inp : FusionInput) (tc : Nat) : Nat :=
  match slipFrac s inp tc with
  | none => freeValue s % 65536
  | some f =>
    let n := f.num * 256
    let q := n / f.den + (if n % f.den = 0 then 0 else (freeValue s % 2 : Nat))
    if -32768 ≤ q ∧ q ≤ 32767 then wrapInt 16 q else freeValue s % 65536

end Sys2Proof.Machine
end

