-- ==== Sys2Proof/Machine/World.lean ====
section
/-! DEFINITION. A fusion cycle's outputs (R288, R290, R293 to R297, R312 to R315, R348): the grid, the object list, the world
epoch and the status record, and their writes. -/

namespace Sys2Proof.Machine

/-! ## Objects (R282, R294) -/

/-- The fresh detection of an object: its output is used, its sensor contributes, and VOTE has not kept that sensor's data
out of the region of its centre (R284, R290, R292). -/
def freshDetection (s : State) (inp : FusionInput) (votes : List RegionVote) (tc : Nat) (x : Track) : Option Detection :=
  match x.detection with
  | none => none
  | some (k, j) =>
    let i := channelSensor s k.val
    match channelOutput s tc k.val, channelSlot s k.val with
    | .used st, some a =>
      let d := detectionAt s a j
      let kept := match detectionCell s i tc st d with
        | some c => votes.any (fun v => v.region == c / 256 % 256 / 16 * 16 + c % 256 / 16 &&
            (v.disagree.contains i || v.masked.contains i))
        | none => false
      if j < detectionCount s a ∧ contributes s inp tc i ∧ !kept then some d else none
    | _, _ => none

/-- An object of a cycle: what TRACK makes of it, its fresh detection and its CLASS; with their bins, the grid cells that it
occupies and those that its solid covers. -/
structure Object where
  track   : Track
  fresh   : Bool
  cls     : Byte
  cells   : List (Nat × Word32)
  covered : List (Nat × Word32)
  deriving DecidableEq, Repr

/-- Unit of an object's lengths: 2⁻²²⁹ nm. -/
def objectUnit : Int := fpUnit * fxOne

/-- A half size or velocity of an object, × 2¹⁴⁹; its codes are finite (Track.wf). -/
def objectNum (w : BitVec 16) : Int := (fixFp fmtFP16 w.toNat).getD 0

/-- An object's move within half a bin, at its velocity: PLACEMENT is its place at the bin's centre (R294), and a cell is
occupied at any time in the bin (R293). -/
def halfMove (s : State) (x : Track) : V3 :=
  let w : Int := 500000 * field (mzSection s 1) 14 1 * fxOne
  ⟨objectNum x.velocity[(0 : Fin 2)] * w, objectNum x.velocity[(1 : Fin 2)] * w, 0⟩

/-- The middle of a place. -/
def placeMiddle (p : Placement) : V3 := V3.scale (50000000 * objectUnit) ⟨p.x.toInt, p.y.toInt, p.z.toInt⟩

/-- The cells that an object at a place meets over the place's bins (R293; log 163). -/
def placeCells (s : State) (x : Track) (p : Placement) : List Nat :=
  let h (k : Fin 3) : Int := 1000000000 * objectNum x.half[k]
  let m := halfMove s x
  let cs := fxAngle p.yaw.toNat
  if x.sphere then
    let r := h 0 * fxOne
    (cellsNear s objectUnit (placeMiddle p) ⟨r + m.x.natAbs, r + m.y.natAbs, r⟩).filter (fun i =>
      ballMeets ((cellMiddle s objectUnit i).sub (placeMiddle p)) r m objectUnit)
  else
    solidCells s objectUnit (placeMiddle p)
      [⟨h 0 * cs.1, h 0 * cs.2, 0⟩, ⟨-(h 1 * cs.2), h 1 * cs.1, 0⟩, ⟨0, 0, h 2 * fxOne⟩, m]

/-- An object's solid at a place holds the whole of a cell. -/
def placeCovers (s : State) (x : Track) (p : Placement) (i : Nat) : Bool :=
  let h (k : Fin 3) : Int := 1000000000 * objectNum x.half[k] * fxOne
  let d := (cellMiddle s objectUnit i).sub (placeMiddle p)
  let cs := fxAngle p.yaw.toNat
  if x.sphere then ballHolds d (h 0) objectUnit else boxHolds d (h 0) (h 1) (h 2) cs.1 cs.2 objectUnit

/-- The bins in which an object has a place. -/
def placeBins (x : Track) (p : Placement) : Nat :=
  ((x.place.take 32).zipIdx.map (fun e => if e.1 = p then 2 ^ e.2 else 0)).sum

/-- An object with its cells. -/
def placedObject (s : State) (x : Track) (fresh : Bool) (cls : Byte) : Object :=
  let places := (x.place.take 32).eraseDups.map (fun p => (p, placeCells s x p, BitVec.ofNat 32 (placeBins x p)))
  ⟨x, fresh, cls, places.flatMap (fun e => e.2.1.map (fun i => (i, e.2.2))),
    places.flatMap (fun e => (e.2.1.filter (placeCovers s x e.1)).map (fun i => (i, e.2.2)))⟩

/-- The objects: CLASS comes from the fresh detection, or from an earlier cycle's; one that has never had a detection is
none. -/
def objectsOf (s : State) (inp : FusionInput) (votes : List RegionVote) (tc : Nat) : List Object :=
  inp.tracks.filterMap (fun x =>
    match freshDetection s inp votes tc x, s.fe.tracks.find? (fun e => e.1 == x.id) with
    | some d, _ => some (placedObject s x true d.cls)
    | none, some e => some (placedObject s x false e.2)
    | none, none => none)

/-- The bins that a list of cells gives cell `i`. -/
def wordAt (l : List (Nat × Word32)) (i : Nat) : Word32 := (l.filter (fun c => c.1 == i)).foldl (fun a c => a ||| c.2) 0

/-- Bins of a cell that objects occupy. -/
def objectWord (objs : List Object) (i : Nat) : Word32 := wordAt (objs.flatMap (fun o => o.cells)) i

/-- Bins in which an object's solid covers a cell: the whole of it lies within the record's solid (R295; DEDUCED, log 171). -/
def coverWord (objs : List Object) (i : Nat) : Word32 := wordAt (objs.flatMap (fun o => o.covered)) i

/-- Squared distance of an object from the machine, by its first placement. -/
def objectRange (o : Object) : Int :=
  match o.track.place with
  | p :: _ => p.x.toInt * p.x.toInt + p.y.toInt * p.y.toInt + p.z.toInt * p.z.toInt
  | [] => 0

/-- The objects of the list: all, or the 512 nearest the machine (R294). -/
def listedObjects (objs : List Object) : List Object :=
  if objs.length ≤ 512 then objs else (objs.mergeSort (fun a b => decide (objectRange a ≤ objectRange b))).take 512

/-- An object touches a region under contradiction in bin 0. -/
def objectClash (votes : List RegionVote) (o : Object) : Bool :=
  o.cells.any (fun c => c.2.getLsbD 0 && votes.any (fun v =>
    v.clash.isSome && v.region == c.1 / 256 % 256 / 16 * 16 + c.1 % 256 / 16))

/-- An object's 288 B record (R294). CONTRADICTION marks one in a region under contradiction (DESIGN CHOICE, log 144). -/
def objectRecord (votes : List RegionVote) (o : Object) : List Byte :=
  let x := o.track
  let h (k : Fin 3) : Nat := if x.sphere && k != 0 then 0 else x.half[k].toNat
  leBytes 4 x.id.toNat ++ leBytes 1 (b2n x.sphere) ++ [o.cls] ++ leBytes 1 x.conf.toNat ++
    leBytes 1 (b2n (objectClash votes o) + (if o.fresh then 0 else 2)) ++ leBytes 2 (h 0) ++ leBytes 2 (h 1) ++
    leBytes 2 (h 2) ++ zeros 2 ++ leBytes 2 x.velocity[(0 : Fin 2)].toNat ++ leBytes 2 x.velocity[(1 : Fin 2)].toNat ++
    zeros 12 ++
    slice (x.place.flatMap (fun p => leBytes 2 p.x.toNat ++ leBytes 2 p.y.toNat ++ leBytes 2 p.z.toNat ++ leBytes 2 p.yaw.toNat))
      0 256

/-- The object list of R294. -/
def objectBytes (votes : List RegionVote) (objs : List Object) : List Byte :=
  let l := listedObjects objs
  slice (leBytes 2 l.length ++ zeros 62 ++ l.flatMap (objectRecord votes)) 0 147520

/-! ## The grid (R288, R290, R293) -/

/-- Vote region of a cell. -/
def cellRegion (i : Nat) : Nat := i / 256 % 256 / 16 * 16 + i % 256 / 16

/-- Sensors whose data a region's cells take: its voters but for those that disagree and those masked. -/
def usedVoters (v : RegionVote) : List Nat := v.voters.filter (fun i => !v.disagree.contains i && !v.masked.contains i)

/-- A grid cell's occupancy word and confidence byte: what the used voters and the objects occupy, under the highest
confidence of those voters (DEDUCED, log 143). -/
def gridCell (s : State) (data : CellData) (objs : List Object) (ego : Nat) (votes : List RegionVote) (i : Nat) :
    Word32 × Byte :=
  let v := (votes.find? (fun v => v.region == cellRegion i)).getD ⟨cellRegion i, [], [], [], none, 0⟩
  let full := BitVec.allOnes 32
  let word := ((usedVoters v).flatMap (fun k => (cellsOf data k).filter (fun c => c.1 == i))).foldl (fun a c => a ||| c.2)
    (objectWord objs i)
  let conf := ((usedVoters v).map (fun k => (sensorOf s k).confidence.toNat)).foldl max 0
  let cell : Word32 × Byte :=
    if v.voters.isEmpty then (full, 0x40)
    else if v.clash.isSome then (full, 0x31)
    else (word, BitVec.ofNat 8 (conf + (if v.masked.isEmpty then 0 else 0x20)))
  if ego = 2 then (full, cell.2 ||| 0x40) else cell

/-- The cells of the grid, in index order. -/
def gridCells (s : State) (data : CellData) (objs : List Object) (ego : Nat) (votes : List RegionVote) :
    List (Word32 × Byte) :=
  (List.range 0x10_0000).map (gridCell s data objs ego votes)

/-- The 5 MiB grid. -/
def gridBytes (cells : List (Word32 × Byte)) : List Byte :=
  cells.flatMap (fun c => leBytes 4 c.1.toNat) ++ cells.map (fun c => c.2)

/-! ## World records (R295, R312) -/

/-- A length num / den in a 16-bit field: a whole number, an inexact one rounded by free bit `k`; one outside the field is
free (DESIGN CHOICE, log 144). -/
def unitsOf (free k : Nat) (lo hi num den : Int) : Nat :=
  let q := num / den + (if num % den = 0 then 0 else (b2n (free.testBit k) : Nat))
  if lo ≤ q ∧ q ≤ hi then wrapInt 16 q else free / 2 ^ k % 65536

/-- A signed coordinate and an unsigned size in 0.01 m. -/
def coordUnits (free k : Nat) (num den : Int) : List Byte := leBytes 2 (unitsOf free k (-32768) 32767 num den)
def sizeUnits (free k : Nat) (h : BitVec 16) : List Byte :=
  leBytes 2 (match fixFp fmtFP16 h.toNat with
    | some v => unitsOf free k 0 65535 (100 * v) fpUnit
    | none => free / 2 ^ k % 65536)

/-- An object's records: one box or sphere for each place that it takes, with the bins that it takes it in. -/
def objectSolids (free : Nat) (o : Object) : List (List Byte) :=
  let x := o.track
  (x.place.take 32).eraseDups.map (fun p =>
    let c := coordUnits free 0 (5 * p.x.toInt) 1 ++ coordUnits free 1 (5 * p.y.toInt) 1 ++ coordUnits free 2 (5 * p.z.toInt) 1
    leBytes 1 (if x.sphere then 2 else 1) ++ zeros 3 ++ leBytes 4 (placeBins x p) ++ c ++
      (if x.sphere then sizeUnits free 3 x.half[(0 : Fin 3)] ++ zeros 16
       else sizeUnits free 3 x.half[(0 : Fin 3)] ++ sizeUnits free 4 x.half[(1 : Fin 3)] ++ sizeUnits free 5 x.half[(2 : Fin 3)] ++
        leBytes 2 p.yaw.toNat ++ zeros 10))

/-- Runs of equal words along x: first place, length, word. -/
def mergeRuns : List (Nat × Word32) → List (Nat × Nat × Word32)
  | [] => []
  | (x, w) :: l =>
    match mergeRuns l with
    | [] => [(x, 1, w)]
    | (y, n, v) :: r => if w = v then (x, n + 1, w) :: r else (x, 1, w) :: (y, n, v) :: r

/-- The bins of a block of `g` × `g` columns in a layer. -/
def blockWord (rest : Array Word32) (g bx b_y iz : Nat) : Word32 :=
  (List.range (g * g)).foldl (fun a k =>
    a ||| rest.getD ((iz * 256 + b_y * g + k / g) * 256 + bx * g + k % g) 0) 0

/-- The boxes of the cells that no object covers, at a merge level: blocks of `g` × `g` columns, merged along x (R295). -/
def cellBoxes (s : State) (free : Nat) (rest : Array Word32) (g : Nat) : List (List Byte) :=
  let zb := signedOf 16 (outField s 26 2)
  (List.range 16).flatMap (fun iz => (List.range (256 / g)).flatMap (fun b_y =>
    let row := (List.range (256 / g)).map (fun bx => (bx, blockWord rest g bx b_y iz))
    ((mergeRuns row).filter (fun r => r.2.2 != 0)).map (fun r =>
      leBytes 1 1 ++ zeros 3 ++ leBytes 4 r.2.2.toNat ++
        coordUnits free 0 (20 * g * r.1 + 10 * g * r.2.1 - 2560) 1 ++ coordUnits free 1 (20 * g * b_y + 10 * g - 2560) 1 ++
        coordUnits free 2 (zb + 200 * iz + 100) 10 ++ leBytes 2 (10 * g * r.2.1) ++ leBytes 2 (10 * g) ++ leBytes 2 10 ++
        zeros 12)))

/-- A vertex of a STATIC triangle record. -/
def vertexBytes (free k : Nat) (p : V3) : List Byte :=
  let u := 10000000 * facetUnit
  coordUnits free k p.x u ++ coordUnits free (k + 1) p.y u ++ coordUnits free (k + 2) p.z u

/-- REACH of the region that the newest consistent machine state names, in 0.01 m (R312); 0 when its header cannot be
read (R335; DESIGN CHOICE, log 153). -/
def staticReach (s : State) : Nat :=
  match s.mz.used with
  | some u =>
    if u.region < 15 ∧ !mazeBad s (storeBase + regionBase u.region) 8 then
      field (storeRead s (regionBase u.region) 64) 4 2
    else 0
  | none => 0

/-- What WORLD reads of the store cannot all be read: a mesh, or the region's REACH (R335). -/
def staticBad (s : State) : Bool :=
  (List.range (field (mzSection s 3) 0 2)).any (meshBad s) ||
    (match s.mz.used with
     | some u => decide (u.region < 15) && mazeBad s (storeBase + regionBase u.region) 8
     | none => false)

/-- The STATIC records: every static triangle within REACH of the machine, in all bins (R312). -/
def staticRecords (s : State) (free : Nat) (facets : List Facet) : List (List Byte) :=
  let r : Int := staticReach s * 10000000 * facetUnit
  (facets.filter (fun f => nearTriangle ⟨0, 0, 0⟩ f.a f.b f.c r)).map (fun f =>
    leBytes 1 3 ++ leBytes 1 1 ++ zeros 2 ++ leBytes 4 0xFFFFFFFF ++ vertexBytes free 0 f.a ++ vertexBytes free 3 f.b ++
      vertexBytes free 6 f.c ++ zeros 6)

/-- Room of a world bank in records (R313). -/
def bankRoom : Nat := 8192

/-- The merge level and records that WORLD writes: the finest level that fits beside the static triangles, the coarsest
otherwise, cut to the bank (R295; log 144). -/
def worldRecords (s : State) (facets : List Facet) (objs : List Object) (cells : List (Word32 × Byte)) :
    Nat × List (List Byte) :=
  let free := freeValue s
  let fixed := staticRecords s free facets ++ objs.flatMap (objectSolids free)
  let rest := (cells.zipIdx.map (fun c => c.1.1 &&& ~~~ (coverWord objs c.2))).toArray
  let g := (([1, 2, 4, 8] : List Nat).find? (fun g =>
    decide (fixed.length + (cellBoxes s free rest g).length ≤ bankRoom))).getD 16
  (g, (fixed ++ cellBoxes s free rest g).take bankRoom)

/-- Base of a world bank (R313). -/
def bankBase (b : Fin 2) : Nat := 0x6000_2200_0000 + b.val * 0x4_0000

def worldBankOf (s : State) (b : Fin 2) : WorldBank := if b = 0 then s.mz.bank0 else s.mz.bank1

def setWorldBank (s : State) (b : Fin 2) (x : WorldBank) : State :=
  if b = 0 then { s with mz := { s.mz with bank0 := x } } else { s with mz := { s.mz with bank1 := x } }

/-- A world record of a bank as one number. -/
def bankRecord (s : State) (b : Fin 2) (i : Nat) : List Byte := memReads s.mem (bankBase b + 32 * i) 32

/-- The records of a bank. -/
def bankRecords (s : State) (b : Fin 2) : List (List Byte) := (List.range (worldBankOf s b).count).map (bankRecord s b)

/-- The bank that holds the newest complete epoch. -/
def newestBank (s : State) : Option (Fin 2) :=
  if s.mz.newest = 0 then none
  else if 2 ≤ s.mz.bank0.state.toNat ∧ s.mz.bank0.epoch = s.mz.newest then some 0
  else if 2 ≤ s.mz.bank1.state.toNat ∧ s.mz.bank1.epoch = s.mz.newest then some 1
  else none

/-- The bank that WORLD takes (R313). -/
def worldBank (s : State) : Fin 2 :=
  if s.mz.bank0.state = 3 then 1
  else if s.mz.bank1.state = 3 then 0
  else if newestBank s = some 0 then 1
  else 0

/-- Writes an epoch and completes it (R313 to R315). -/
def writeEpoch (s : State) (recs : List (List Byte)) (speed : BitVec 16) (cyc : Nat) : State :=
  let b := worldBank s
  let old := (newestBank s).map (bankRecords s)
  let additions := match old with
    | none => true
    | some l => recs.any (fun r => !l.contains r)
  let base := bankBase b
  let top := base + 32 * recs.length
  let s1 := { s with
    mem := memWrites s.mem base recs.flatten,
    tl := { s.tl with badWords := s.tl.badWords.filter (fun w => decide (w < base) || decide (top ≤ w)) } }
  let e := s.mz.newest + 1
  let s2 := setWorldBank s1 b ⟨2, recs.length, e, additions, speed, cyc⟩
  { s2 with mz := { s2.mz with newest := e, newer := s2.mz.newer || (s2.mz.bound.isSome && additions) } }

/-- WORLD's step: no epoch while the Maze die is out of service (R295). FE_COARSEN counts the level. -/
def worldStep (s : State) (w : Nat × List (List Byte)) (speed : BitVec 16) (cyc : Nat) : State :=
  if dieState s 5 ≠ .service then s
  else
    let s1 := writeEpoch (if staticBad s then storeReport s else s) w.2 speed cyc
    { s1 with fe := { s1.fe with coarsen := if 1 < w.1 then satInc s1.fe.coarsen else s1.fe.coarsen,
                                 maxLevel := BitVec.ofNat 5 (max w.1 s1.fe.maxLevel.toNat) } }

/-! ## The status record (R296, R297) -/

/-- POSE: local pose, map pose, velocity and rate; the map pose's values are the canonical NaN while it is not known. -/
def poseBytes (inp : FusionInput) : List Byte :=
  let w (l : List Word32) (n : Nat) : List Byte := slice (l.flatMap (fun x => leBytes 4 x.toNat)) 0 (4 * n)
  let map_ := inp.mapPose.getD (List.replicate 7 (BitVec.ofNat 32 fmtFP32.nan))
  w (inp.pose.take 7) 7 ++ w map_ 7 ++ w (inp.pose.drop 7) 6 ++ zeros 16

/-- SENSOR of the record: confidence, vote state (3 when not configured) and absence. -/
def sensorWord (s : State) (absent : Bool) (i : Nat) : Nat :=
  let x := sensorOf s i
  x.confidence.toNat + 16 * (if stType s i = 0 then 3 else x.vote.toNat) + (if absent then 64 else 0)

/-- The 512 B status record. -/
def statusRecord (s : State) (inp : FusionInput) (tc ego slip level epoch clashes rejected : Nat) (absent : Nat → Bool) :
    List Byte :=
  let cov := slice (inp.covariance.flatMap (fun w => leBytes 4 w.toNat)) 0 84
  let flags := b2n s.fe.slip + (if clashes = 0 then 0 else 2) + (if s.sun.state = .locked then 0 else 4)
  let sat (n : Nat) : List Byte := leBytes 1 (min n 255)
  leBytes 8 (tc / 1000000) ++ leBytes 8 tc ++ leBytes 1 ego ++ leBytes 1 flags ++ leBytes 2 slip ++
    leBytes 1 level ++ sat clashes ++ leBytes 2 (min rejected 65535) ++ leBytes 8 epoch ++
    poseBytes inp ++ cov ++ zeros 44 ++
    (List.range 32).flatMap (fun i => leBytes 2 (sensorWord s (absent i) i)) ++
    (List.range 32).flatMap (fun i =>
      let x := sensorOf s i
      sat x.evLate ++ sat x.evStale ++ sat x.evFrozen ++ sat x.evInvalid) ++ zeros 64

/-- Clears each sensor's events of the cycle. -/
def clearEvents (s : State) : State :=
  { s with fe := { s.fe with sensors := s.fe.sensors.map (fun e =>
      (e.1, { e.2 with evLate := 0, evStale := 0, evFrozen := 0, evInvalid := 0 })) } }

/-! ## The cycle (R282, R296) -/

/-- VOTE's effects on the sensors: contradictions, vote states and confidences. -/
def applyVotes (s : State) (votes : List RegionVote) : State :=
  (List.range 32).foldl (fun a i =>
    if stType a i = 0 then a else setSensor a i (voteSensor votes i (stField a i 3 1) (sensorOf a i))) (votes.foldl noteClash s)

/-- EGO's estimate and the registration's marks. -/
def applyEgo (s : State) (inp : FusionInput) : State :=
  let got := acceptedSweep s inp
  { s with fe := { s.fe with
    lastReg := (match got with
      | some x => some x
      | none => s.fe.lastReg),
    localMap := if got.isSome then inp.localMap else s.fe.localMap,
    pose := inp.pose, mapPose := inp.mapPose, covariance := inp.covariance } }

/-- The steps of a cycle's recipe over its snapshot: the outputs that they queue, the world epoch, what they leave in the
sensors and the estimate. -/
def fuseCycle (s : State) (inp : FusionInput) (tc : Nat) : State :=
  let cyc := tc / 1000000
  let odd := cyc % 2
  let data := (List.range 32).map (fun i => (i, sensorCells s inp tc i))
  let facets := staticFacets s inp
  let votes := (List.range 256).map (voteRegion s inp data facets tc)
  let objs := objectsOf s inp votes tc
  let ego := egoStatus s inp tc
  let slip := slipRatio s inp tc
  let rejected := rejectedSweeps s inp
  let absent : Nat → Bool := absentStream s inp tc
  let s1 := applyVotes (countOutputs (dropUnreadable s inp) tc) votes
  let s2 := applyEgo (slipAfter (drawFree s1) inp tc) inp
  let s3 := { s2 with fe := { s2.fe with
    previous := (votes.filter (fun v => v.result != 0)).map (fun v => (v.region, v.result)),
    tracks := objs.map (fun o => (o.track.id, o.cls)) } }
  let cells := gridCells s3 data objs ego votes
  let w := worldRecords s3 facets objs cells
  let s4 := worldStep (drawFree s3) w inp.speed cyc
  let up := decide (dieState s 5 = .service)
  let clashes := (votes.filter (fun v => v.clash.isSome)).length
  let status := statusRecord s4 inp tc ego slip (if up then w.1 else 1) (if up then s4.mz.newest.toNat else 0) clashes
    rejected absent
  let s5 := clearEvents s4
  { s5 with fe := { s5.fe with
    snapAt := none,
    outgoing := some ⟨cyc, requestsOf (outField s 0 6 + odd * 0x50_0000) (gridBytes cells) ++
      requestsOf (outField s 8 6 + odd * 147520) (objectBytes votes objs) ++
      requestsOf (outField s 16 6 + odd * 512) status, status⟩ } }

/-- The cycle's outputs are all written: OUT_SYNC_ID is incremented, which completes the stage, and Belvedere A gets the
record (R296, R369). -/
def publishFusion (s : State) (o : Outgoing) : State :=
  let s1 := applySync s [⟨false, BitVec.ofNat 16 (outField s 24 2), 1⟩]
  let s2 := raiseStage s1 2 4 none (now s1)
  { s2 with fe := { s2.fe with cycle := BitVec.ofNat 32 o.cycle, outgoing := none },
            bv := { s2.bv with fusionRecord := o.record } }

/-- Writes what is left of a cycle's outputs, and publishes the cycle when nothing is. -/
def writeOutputs (s : State) : State :=
  match s.fe.outgoing with
  | none => s
  | some o =>
    match issueRequests o.requests s with
    | (s1, []) => publishFusion s1 o
    | (s1, l) => { s1 with fe := { s1.fe with outgoing := some { o with requests := l } } }

/-- What the Fusion Engine's regulator has held up goes on: samples, reads, outputs (R348 to R352). -/
def pumpFusion (s : State) : State := writeOutputs (pumpReads (pumpSamples s))

/-- FUSION_PUBLISH: the cycle's steps run over its snapshot, whose data is read first, and its outputs are written, the
status record last, and OUT_SYNC_ID is incremented (R296). Outputs of a cycle that its regulator has held up go on first. -/
def execFusionPublish (inp : FusionInput) (t : Nat) (s : State) : Host.Outcome State Fault Refusal :=
  .next (
    let s := atTime t s
    if s.fe.outgoing.isSome then writeOutputs s
    else
      match s.fe.state, s.fe.snapAt with
      | 2, some tc =>
        let s1 := pumpReads s
        if s1.fe.reading.isEmpty then writeOutputs (fuseCycle s1 inp tc) else s1
      | _, _ => s)

end Sys2Proof.Machine
end

