-- ==== Sys2Proof/Machine/MazeCore.lean ====
section
/-! DEFINITION. The Maze's reads of its store and banks (R305 to R313, R335), verdicts of its checkers
(R316, R317, R319, R336), the stops (R320 to R322), the selection of a cycle's result and its slot (R331,
R332, R334). -/

namespace Sys2Proof.Machine

/-! ## Configuration and store -/

/-- A field of section 0x01 (R304). -/
def mzParam (s : State) (off n : Nat) : Nat := field (mzSection s 1) off n

/-- The Maze is idle: a section it needs is not in force, or its die is out of service (R304, R411). -/
def mazeIdle (s : State) : Bool :=
  !(tabHas s.mz.config 1 && tabHas s.mz.config 2 && tabHas s.mz.config 4) || dieState s 5 != .service

/-- MODE.SAFETY. -/
def safetyMode (s : State) : Bool := bit (mzParam s 7 1) 0

/-- MAZE_IDLE of Belvedere B holds while the Maze is idle (R363). -/
def mazeIdleCause (s : State) : State :=
  if mazeIdle s then raiseCause s .b causeMazeIdle else clearCause s .b causeMazeIdle

def regionNodes (s : State) (r : Nat) : Nat := field (storeRead s (regionBase r) 4) 0 2
def regionEdges (s : State) (r : Nat) : Nat := field (storeRead s (regionBase r) 4) 2 2
def nodeRecord (s : State) (r n : Nat) : List Byte := storeRead s (regionBase r + 0x1000 + 16 * n) 16
def nodeCost (s : State) (r n : Nat) : Nat := field (storeRead s (regionBase r + 0x2_0000 + 4 * n) 4) 0 4
def edgeRecord (s : State) (r e : Nat) : List Byte := storeRead s (regionBase r + 0x10_0000 + 128 * e) 128

/-- The region slot of the cycle: that of the state read in it, when it is not stale (MZ_STATUS.REGION). -/
def cycleRegion (s : State) : Option Nat := if s.mz.region = 0xF then none else some s.mz.region.toNat

/-- The limits mask of an edge (R311). -/
def edgeMasked (u : MachineState) (e : List Byte) : Bool :=
  (List.range 4).any (fun k => !bit (u.masks.toNat / 2 ^ (16 * k)) (bits (field e 4 4) (4 * k + 3) (4 * k)))

/-- The words of a pass's upset can no longer be corrected (R335). -/
def upsetWords (s : State) (bad : MazeUpset) : State :=
  { s with tl := { s.tl with badWords := bad.words.filter (fun w => !s.tl.badWords.contains w) ++ s.tl.badWords } }

/-- The program ends on an uncorrectable read: the result falls to rows 4 and 5 (R335). -/
def breakProgram (s : State) : State :=
  storeReport { s with mz := { s.mz with running := false, chain := none } }

/-! ## Checkers -/

/-- Checker banks in service. -/
def banksIn (s : State) : List (Fin 2) :=
  ([0, 1] : List (Fin 2)).filter (fun b => if b = 0 then !s.mz.fenced0 else !s.mz.fenced1)

/-- Both banks check every slot. -/
def pairedBanks (s : State) : Bool := safetyMode s && (banksIn s).length == 2

/-- What one slot gets in a pass: the verdict, and whether the banks differ (R317, R319, R336). `j` is its
checker position in the pass, `hit` the true verdict, `bad` the checkers that a fault inverts. -/
def slotVerdict (s : State) (bad : List CheckerUpset) (j : Nat) (hit : Bool) : EdgeState × Bool :=
  let one (b : Fin 2) (k : Nat) : Bool := xor hit (bad.any (fun u => u.bank == b && u.checker == k))
  let st (blocked : Bool) : EdgeState := if blocked then .blocked else .valid
  if pairedBanks s then
    let v0 := one 0 j
    let v1 := one 1 j
    (st (v0 || v1), v0 != v1)
  else
    match banksIn s with
    | [b] => (st (one b (j % 4096)), false)
    | _ => (st (one (if j < 4096 then 0 else 1) (j % 4096)), false)

/-- A slot's true verdict in a pass: certain hits block it, hits within 0.02 m more are a free choice (DEDUCED, log 80). -/
def slotHit (s : State) (grow spread : Nat) (j : Nat) (sph : List Sphere) (recs : List (List Byte)) : Bool :=
  let w := mzParam s 14 1
  anyHit w grow spread sph recs false || (anyHit w grow spread sph recs true && (freeValue s).testBit j)

/-- A pass over slots (position, spheres) against a bank; an uncorrectable record blocks every slot (R335).
Gives the state after the mismatch is counted and reported, and the verdicts. -/
def runPass (s : State) (b : Fin 2) (grow spread : Nat) (slots : List (Nat × List Sphere)) (bad : List CheckerUpset) :
    State × List EdgeState :=
  let n := (worldBankOf s b).count
  let broken := mazeBad s (bankBase b) (32 * n)
  let recs := bankRecords s b
  let vs := slots.map (fun e => slotVerdict s bad e.1 (slotHit s grow spread e.1 e.2 recs))
  let diff := ((slots.zip vs).filter (fun e => e.2.2)).map (fun e => e.1.1)
  let s1 := drawFree { s with mz := { s.mz with passes := s.mz.passes + 1 } }
  let s2 := match diff.min? with
    | none => s1
    | some j =>
      let s2 := { s1 with mz := { s1.mz with mismatch := satInc s1.mz.mismatch, checker := BitVec.ofNat 13 j,
                                             mismatchValid := true } }
      let s3 := startTest (startTest s2 (unitId 5 5 0) 0 []) (unitId 5 5 1) 0 []
      openReport s3 5 (unitId 5 5 0) 0x0B none
  let s3 := if broken then storeReport s2 else s2
  (s3, vs.map (fun e => if broken then .blocked else e.1))

/-! ## Stops (R320 to R322) -/

/-- The stop table in force. -/
def stopTable (s : State) : List Byte := mzSection s 2

/-- Used entries of the stop table: entry 0 and those that follow with a DECEL. -/
def stopCount (b : List Byte) : Nat := ((List.range 16).filter (fun i => stopDecel b i != 0)).length

/-- Index of the maximum-deceleration stop. -/
def maxStop (s : State) : Nat := stopCount (stopTable s) - 1

/-- Forward speed of the bound epoch in 0.01 m/s. -/
def boundSpeed (s : State) : Int := s.mz.checkSpeed.toInt

def stopCase (s : State) (i : Nat) : StopCase :=
  ⟨stopDecel (stopTable s) i, stopDelay (stopTable s) i, boundSpeed s, s.mz.lastCurvature.toInt,
    s.mz.lastArticulation.toInt⟩

/-- The stop slots of R321: body in slot 2i, implement in slot 2i + 1. -/
def stopSlots (s : State) : List (Nat × List Sphere) :=
  (List.range (stopCount (stopTable s))).flatMap (fun i =>
    [(2 * i, bodySpheres (stopTable s) (stopCase s i)), (2 * i + 1, implSpheres (stopTable s) (stopCase s i))])

/-- The lowest clear entry by the verdicts of the stop slots (R321, R322). -/
def lowestClear (vs : List EdgeState) : Option Nat :=
  (List.range (vs.length / 2)).find? (fun i =>
    vs.getD (2 * i) .blocked == .valid && vs.getD (2 * i + 1) .blocked == .valid)

/-- The stop table cannot be read (R335). -/
def stopTableBad (s : State) : Bool := mazeBad s (storeBase + 0x1E1_0100) 160

/-- The STOP field: DECEL, DELAY, v0, CURVATURE, ARTICULATION; zero for the fixed command. -/
def stopField (s : State) (i : Nat) : List Byte :=
  if i = 0xFF then zeros 10
  else leBytes 2 (stopDecel (stopTable s) i) ++ leBytes 2 (stopDelay (stopTable s) i) ++
    leBytes 2 (if s.mz.bound.isSome then s.mz.checkSpeed.toNat else 0) ++ leBytes 2 s.mz.lastCurvature.toNat ++
    leBytes 2 s.mz.lastArticulation.toNat

/-- Chooses the held stop by a pass's verdicts (R322). -/
def holdStop (s : State) (vs : List EdgeState) : State :=
  let h := lowestClear vs
  { s with mz := { s.mz with stop := h, hazard := h.isNone, heldBytes := stopField s (h.getD (maxStop s)) } }

/-! ## The result (R331, R332, R334) -/

/-- Kinds of a result (R332). -/
def kindTrajectory : Nat := 0
def kindHeld : Nat := 1
def kindMax : Nat := 2

/-- What a cycle publishes: KIND, STOP_INDEX, FLAGS and whether it carries the chain. -/
structure Result where
  kind   : Nat
  index  : Nat
  flags  : Nat
  chain  : Option ChainHeld
  status : BitVec 16
  deriving DecidableEq, Repr

/-- The flags that rows 2 to 5 set where they apply. -/
def extraFlags (s : State) : Nat :=
  b2n s.mz.rechecked + (if s.mz.aged then 4 else 0) + (if s.mz.stale then 8 else 0) +
    (if safetyMode s && (banksIn s).length == 1 then 128 else 0)

/-- No stop can be checked: the Maze is idle, or both checker banks are fenced. The held stop is then the fixed command. -/
def noStops (s : State) : Bool := mazeIdle s || (banksIn s).isEmpty

/-- Row 1's conditions. -/
def rowOne (s : State) : Bool := noStops s || s.mz.searchFenced

/-- The result by R331's first row that applies; after a flow stop row 3 is not taken (R455). -/
def selectResult (s : State) : Result :=
  let f := extraFlags s
  let chain := match s.mz.chain with
    | some c => if s.mz.stale || s.mz.aged || s.pw.flowStop || (safetyMode s && !pairedBanks s) then none else some c
    | none => none
  if rowOne s then ⟨kindMax, 0xFF, 16, none, stMaxDecelStop⟩
  else if stopTableBad s then ⟨kindMax, 0xFF, f + 16, none, stMaxDecelStop⟩
  else if s.mz.bound.isNone then ⟨kindHeld, 0, f + 2, none, stHeldStop⟩
  else
    match chain, s.mz.stop with
    | some c, h => ⟨kindTrajectory, h.getD (maxStop s), f + (if h.isNone then 16 else 0) + (if c.isPartial then 64 else 0),
        some c, stOk⟩
    | none, some i => ⟨kindHeld, i, f, none, stHeldStop⟩
    | none, none => ⟨kindMax, maxStop s, f + 16, none, stMaxDecelStop⟩

/-- The result when a timing fault strikes: the held stop as it stands, with TIMING; before the stop pass
has ended the maximum-deceleration stop with HAZARD (R334). Where no stop can be checked, or the stop table cannot be read
(R335), that is the fixed command. -/
def timingResult (s : State) : Result :=
  let f := extraFlags s + 32
  if noStops s || stopTableBad s then ⟨kindMax, 0xFF, f + 16, none, stMaxDecelStop⟩
  else
    match s.mz.stop with
    | some i => if s.mz.stopPassDone then ⟨kindHeld, i, f, none, stHeldStop⟩
                else ⟨kindMax, maxStop s, f + 16, none, stMaxDecelStop⟩
    | none => ⟨kindMax, maxStop s, f + 16, none, stMaxDecelStop⟩

/-- The 1,024 B result slot of a cycle, COMMIT_NS left zero (R332). STATE_SEQ is that of the newest consistent state, which
the stops use (R310). -/
def resultSlot (s : State) (cyc : Nat) (r : Result) : List Byte :=
  let region := (cycleRegion s).getD 0xFF
  let edges := match r.chain with
    | some c => c.edges
    | none => []
  let c := r.chain.getD ⟨[], 0, 0, false⟩
  let recs := edges.flatMap (fun e =>
    let d := edgeRecord s region e
    leBytes 2 e ++ slice d 2 2 ++ slice d 96 4)
  let on := !rowOne s
  let seq := match s.mz.used with
    | some u => u.seq.toNat
    | none => 0
  leBytes 8 cyc ++ leBytes 8 (if on then s.mz.checkEpoch.toNat else 0) ++ leBytes 1 r.kind ++ leBytes 1 r.flags ++
    leBytes 1 region ++ leBytes 1 r.index ++ leBytes 1 edges.length ++ leBytes 1 (min 255 s.mz.passes) ++
    leBytes 2 c.expansions ++ leBytes 4 c.cost.toNat ++ zeros 4 ++ leBytes 8 (if on then s.mz.instant else 0) ++ zeros 8 ++
    leBytes 4 seq ++ zeros 12 ++ slice recs 0 512 ++ stopField s r.index ++ zeros 438

/-- A result that is to be selected reads the stop table, which may be the first read of the cycle to find it bad (R335). -/
def readStopTable (s : State) : State :=
  if !noStops s && stopTableBad s && !s.mz.tableSeen then storeReport { s with mz := { s.mz with tableSeen := true } } else s

/-- Belvedere B fixes the cycle's result on a timing fault (R334, R371): a slot not yet written whole is written anew. -/
def fixResult (s : State) : State :=
  if s.mz.fixed.isSome then s
  else
    let s := readStopTable s
    let r := timingResult s
    { s with mz := { s.mz with
      fixed := some (resultSlot s (now s / 1000000) r, r.status), slotHeld := none, slotSent := 0 } }

/-- The held stop as it stands, from one stop pass to the next, as Belvedere B drives it (R334, R361, R366): KIND, HAZARD,
STOP_INDEX and STOP. -/
def heldStop (s : State) : Nat × Bool × Nat × List Byte :=
  if noStops s || stopTableBad s then (kindMax, true, 0xFF, zeros 10)
  else
    let b := if s.mz.heldBytes.isEmpty then stopField s (maxStop s) else s.mz.heldBytes
    match s.mz.stop with
    | some i => (kindHeld, false, i, b)
    | none => (kindMax, true, maxStop s, b)

end Sys2Proof.Machine
end

