-- ==== Sys2Proof/Machine/Maze.lean ====
section
/-! DEFINITION. The Maze's plan cycle: the opening of its window (R310, R315, R322), the search program's
steps (R317, R324, R325, R327), publication with rechecks (R328 to R330) and the commit (R26, R56, R331 to
R333). -/

namespace Sys2Proof.Machine

/-- Number of a schedule window of a KIND and the window (R344). -/
def windowOfKind (s : State) (k : Nat) : Option Window := s.part.schedule.toList.find? (fun w => w.kind == k)

/-- The present cycle's opening instant of a window. -/
def opensAt (s : State) (w : Window) : Nat := s.mz.cycleAt + w.openUs * 1000

def closesAt (s : State) (w : Window) : Nat := s.mz.cycleAt + w.closeUs * 1000

/-- The present cycle's number. -/
def cycleNo (s : State) : Nat := s.mz.cycleAt / 1000000

/-- A bank that is BOUND is complete again (R315). -/
def releaseBank (s : State) : State :=
  match s.mz.bound with
  | none => s
  | some b => if (worldBankOf s b).state = 3 then setWorldBank s b { worldBankOf s b with state := 2 } else s

/-- Binds a complete bank and clears NEWER_ADDITIONS (R315). -/
def bindBank (s : State) (b : Fin 2) : State :=
  let s1 := setWorldBank (releaseBank s) b { worldBankOf s b with state := 3 }
  { s1 with mz := { s1.mz with bound := some b, newer := false } }

/-! ## The opening of the window -/

/-- Binds the newest complete epoch at the opening. -/
def bindNewest (s : State) : State :=
  match newestBank s with
  | none => s
  | some b =>
    let x := worldBankOf s b
    let s1 := bindBank s b
    { s1 with mz := { s1.mz with checkSpeed := x.speed, instant := x.cycle * 1000000,
                                 aged := decide (x.cycle + mzParam s 15 1 < cycleNo s) } }

/-- The state is stale for the cycle (R310). -/
def stale (s : State) : State := { s with mz := { s.mz with stale := true } }

/-- Takes a consistent machine state record (R309, R310). -/
def takeState (s : State) (b : List Byte) : State :=
  let u : MachineState := ⟨BitVec.ofNat 32 (field b 0 4), field b 4 1, field b 8 8, BitVec.ofNat 16 (field b 16 2),
    BitVec.ofNat 16 (field b 18 2), BitVec.ofNat 64 (field b 20 8)⟩
  let old := decide (u.stamp + mzParam s 16 4 * 1000 < s.mz.cycleAt)
  let no := decide (14 < u.region) || s.mz.loading.getLsbD u.region || !s.mz.loaded.getLsbD u.region
  { s with mz := { s.mz with
    used := some u, stale := old || no, region := if old || no then 0xF else BitVec.ofNat 4 u.region,
    lastCurvature := u.curvature, lastArticulation := u.articulation } }

/-- Reads the machine state record at `a` at most `n` times within 2 µs, an inconsistent read again (R310); `between`
are the stores of its writer that land before the second read and the later ones. A Maze whose regulator pauses it reads
nothing in time (R351; DEDUCED, log 82). -/
def readMachine (a : Nat) : Nat → List StateWrite → State → State
  | 0, _, s => stale s
  | n + 1, between, s =>
    if !masterReaches s 3 a 64 || masterPaused s 3 a then stale s
    else
      let s1 := correctGranules (countMaster s 3 64) a 64
      match badGranule s1 a 64 with
      | some g => stale (openReport (noteUncorrectable s1 g false) 5 (masterUnit 3) 0x08 none)
      | none =>
        let b := paReads s1 a 64
        if field b 0 4 = field b 60 4 then takeState s1 b
        else
          match between with
          | [] => readMachine a n [] s1
          | w :: l => readMachine a n l (paWrites s1 (a + (if w.upper then 32 else 0)) w.bytes)

/-- Stop generation and the stop pass against the bound epoch (R321, R322, R335). -/
def stopPass (s : State) (bad : List CheckerUpset) : State :=
  match s.mz.bound with
  | none => s
  | some b =>
    if (banksIn s).isEmpty then s
    else if stopTableBad s then readStopTable s
    else
      let r := runPass s b 0 0 (stopSlots s) bad
      let s1 := holdStop r.1 r.2
      { s1 with mz := { s1.mz with stopPassDone := true, checkEpoch := (worldBankOf s b).epoch } }

/-- A region's header cannot be read: NODES, EDGES and REACH lie in its first word, and the device reads no other
(R306). -/
def headerBad (s : State) (r : Nat) : Bool := mazeBad s (storeBase + regionBase r) 8

/-- Words of edge records that a step reads cannot all be read: `n` bytes from offset `off` of edges `lo` to `hi − 1`. -/
def edgesBad (s : State) (r lo hi off n : Nat) : Bool :=
  headerBad s r ||
    (List.range (hi - lo)).any (fun k => mazeBad s (storeBase + regionBase r + 0x10_0000 + 128 * (lo + k) + off) n)

/-- The mask step: an uncorrectable LIMITS read ends the program (R311, R335). -/
def maskStep (s : State) : State :=
  match cycleRegion s with
  | none => s
  | some r => if edgesBad s r 0 (regionEdges s r) 4 4 then breakProgram s else s

/-- MAZE_WINDOW_OPEN. -/
def execMazeWindowOpen (t : Nat) (x : MazeOpening) (s : State) : Host.Outcome State Fault Refusal :=
  .next (
    let s := upsetWords (atTime t s) x.bad
    match windowOfKind s 3 with
    | none => s
    | some w =>
      if mazeIdle s ∨ s.mz.opened.isSome ∨ s.mz.bound.isSome ∨ now s < opensAt s w ∨ closesAt s w ≤ now s then s
      else
        let s1 := readMachine (mzParam s 8 6) 4 x.between (bindNewest s)
        let s2 := { s1 with mz := { s1.mz with
          opened := some (now s), state := 2, pc := 0,
          running := s1.mz.bound.isSome && !s1.mz.stale && !s1.mz.aged && !rowOne s1 &&
            !(safetyMode s1 && !pairedBanks s1) } }
        let s3 := if s2.mz.running then maskStep s2 else s2
        stopPass s3 x.bad.checkers)

/-! ## The program -/

/-- The steps of the search program in force. -/
def programStep (s : State) : Option (List Byte) :=
  ((programSteps (mzSection s 4))[s.mz.pc]?).map (fun o => slice (mzSection s 4) o 16)

/-- The search program's storage cannot be read. -/
def programBad (s : State) : Bool := mazeBad s (storeBase + 0x1E0_0000) (mzSection s 4).length

/-- Moves to a later step; the program ends after its last (R324). -/
def nextStep (s : State) (n : Nat) : State :=
  let k := s.mz.pc + n
  { s with mz := { s.mz with pc := k, running := decide (k < (programSteps (mzSection s 4)).length) } }

/-- Most edges that a pass covers (R317, R336). -/
def passCap (s : State) : Nat := if safetyMode s ∨ (banksIn s).length < 2 then 4096 else 8192

/-- A PASS over edges `lo` to `hi − 1` of a region (R311, R316, R317). -/
def passEdges (s : State) (b : Fin 2) (u : MachineState) (r first lo hi : Nat) (bad : List CheckerUpset) : State :=
  let es := (List.range (hi - lo)).map (fun k => lo + k)
  let slots := es.map (fun e => (e - first, edgeSpheres (edgeRecord s r e)))
  let res := runPass s b 0 0 slots bad
  let put (t : Tab EdgeState) (e : Nat × EdgeState) : Tab EdgeState :=
    tabPut t e.1 (if edgeMasked u (edgeRecord s r e.1) then .blocked else e.2)
  let s1 := res.1
  { s1 with mz := { s1.mz with edges := (es.zip res.2).foldl put s1.mz.edges } }

/-- MAZE_PASS: the program's present step is a PASS (R317). -/
def execMazePass (bad : MazeUpset) (s : State) : Host.Outcome State Fault Refusal :=
  .next (
    let s := upsetWords s bad
    match s.mz.running, programStep s, s.mz.bound, s.mz.used with
    | true, some st, some b, some u =>
      if field st 0 1 ≠ 1 then s
      else if programBad s then breakProgram s
      else
        let r := u.region
        let n := regionEdges s r
        let first := field st 2 2
        let lo := min first n
        let hi := min (first + min (field st 4 4) (passCap s)) n
        if edgesBad s r lo hi 0 96 then breakProgram s
        else nextStep (passEdges s b u r first lo hi bad.checkers) 1
    | _, _, _, _ => s)

/-- A node that a search has reached: cost so far, the edge it came by, depth. -/
structure Reached where
  g      : Nat
  parent : Nat
  depth  : Nat
  deriving DecidableEq, Repr

/-- A search in progress (R325). -/
structure Search where
  reached  : Tab Reached
  opened   : List Nat
  closed   : List Nat
  expanded : Nat
  found    : Option Nat
  deriving DecidableEq, Repr

/-- H and GOAL of a node (R306). -/
def nodeH (s : State) (r n : Nat) : Nat := nodeCost s r n % 2 ^ 31
def nodeGoal (s : State) (r n : Nat) : Bool := n != 0 && bit (nodeCost s r n) 31

def reachedG (x : Search) (n : Nat) : Nat := (tabGet ⟨0, 0, 0⟩ x.reached n).g

/-- The open node of least g + h, ties to the lower node. -/
def popOpen (s : State) (r : Nat) (x : Search) : Option Nat :=
  let key (n : Nat) : Nat := (reachedG x n + nodeH s r n) * 4096 + n
  match (x.opened.map key).min? with
  | none => none
  | some k => some (k % 4096)

/-- Outgoing edges of a node. -/
def outEdges (s : State) (r n : Nat) : List Nat :=
  (List.range (field (nodeRecord s r n) 4 2)).map (fun k => field (nodeRecord s r n) 2 2 + k)

/-- Follows one edge from a node. -/
def relax (s : State) (r n d : Nat) (x : Search) (e : Nat) : Search :=
  if tabGet .unchecked s.mz.edges e ≠ .valid then x
  else
    let rec_ := edgeRecord s r e
    let dst := field rec_ 2 2
    let c := min 0xFFFFFFFF (reachedG x n + field rec_ 8 4)
    if tabHas x.reached dst && decide (reachedG x dst ≤ c) then x
    else { x with reached := tabPut x.reached dst ⟨c, e, d + 1⟩,
                  opened := if x.opened.contains dst then x.opened else dst :: x.opened }

/-- The search loop (R325): at most `fuel` expansions. -/
def searchLoop (s : State) (r maxDepth : Nat) : Nat → Search → Search
  | 0, x => x
  | fuel + 1, x =>
    match popOpen s r x with
    | none => x
    | some n =>
      let y := { x with opened := x.opened.filter (fun m => m != n) }
      if nodeGoal s r n then { y with found := some n }
      else
        let z := { y with expanded := y.expanded + 1, closed := n :: y.closed }
        let d := (tabGet ⟨0, 0, 0⟩ z.reached n).depth
        searchLoop s r maxDepth fuel (if d = maxDepth then z else (outEdges s r n).foldl (relax s r n d) z)

/-- The edges of the path to a node, by its parents. -/
def pathTo (s : State) (r : Nat) (x : Search) : Nat → Nat → List Nat
  | 0, _ => []
  | fuel + 1, n =>
    if n = 0 then []
    else
      let e := (tabGet ⟨0, 0, 0⟩ x.reached n).parent
      pathTo s r x fuel (field (edgeRecord s r e) 0 2) ++ [e]

/-- The PARTIAL choice: a closed node other than 0 of at least MIN_TIME, of least h, then g, then number. -/
def partialNode (s : State) (r minTime : Nat) (x : Search) : Option Nat :=
  let l := x.closed.filter (fun n => n != 0 && decide (minTime ≤ field (nodeRecord s r n) 0 2))
  let key (n : Nat) : Nat := (nodeH s r n * 2 ^ 32 + reachedG x n) * 4096 + n
  match (l.map key).min? with
  | none => none
  | some k => some (k % 4096)

/-- A word that the search read cannot be read (R306, R325): the header's, the cost of a reached node, the fields (not the
USER) of one that it expanded to its edges or, for a PARTIAL choice, of any closed one, and FROM, TO and COST of a VALID
edge. -/
def searchBad (s : State) (r maxDepth : Nat) (part : Bool) (x : Search) : Bool :=
  let base := storeBase + regionBase r
  let follows (n : Nat) : Bool := (tabGet ⟨0, 0, 0⟩ x.reached n).depth != maxDepth
  headerBad s r ||
    x.reached.any (fun e => mazeBad s (base + 0x2_0000 + 4 * e.1) 4) ||
    x.closed.any (fun n =>
      ((follows n || part) && mazeBad s (base + 0x1000 + 16 * n) 8) ||
        (follows n && (outEdges s r n).any (fun e =>
          tabGet .unchecked s.mz.edges e == .valid && mazeBad s (base + 0x10_0000 + 128 * e) 12)))

/-- MAZE_SEARCH: the program's present step is a SEARCH (R324, R325). -/
def execMazeSearch (s : State) : Host.Outcome State Fault Refusal :=
  .next (
    match s.mz.running, programStep s, s.mz.used with
    | true, some st, some u =>
      if field st 0 1 ≠ 2 then s
      else if programBad s then breakProgram s
      else
        let r := u.region
        let x := searchLoop s r (field st 1 1) (field st 2 2) ⟨[(0, ⟨0, 0, 0⟩)], [0], [], 0, none⟩
        let tries := x.found.isNone && bit (field st 8 4) 0
        let part := if tries then partialNode s r (field st 4 4) x else none
        if searchBad s r (field st 1 1) tries x then breakProgram s
        else
          let hit := match x.found with
            | some n => some n
            | none => part
          let s1 := match hit with
            | none => s
            | some n =>
              let held : ChainHeld := ⟨pathTo s r x 64 n, BitVec.ofNat 32 (reachedG x n), x.expanded, x.found.isNone⟩
              { s with mz := { s.mz with chain := some held } }
          nextStep s1 1
    | _, _, _ => s)

/-- MAZE_SKIP_IF_FOUND (R324). -/
def execMazeSkipIfFound (s : State) : Host.Outcome State Fault Refusal :=
  .next (
    match s.mz.running, programStep s with
    | true, some st =>
      if field st 0 1 ≠ 3 then s
      else if programBad s then breakProgram s
      else nextStep s (if s.mz.chain.isSome then 1 + field st 1 1 else 1)
    | _, _ => s)

/-- The program has ended at `at_`: the bank is released and the stage is complete (R315, R327), with its stamp (R369,
R370). -/
def stageDone (s : State) (at_ stamp : Nat) (closed : Bool) : State :=
  let ns := at_ - s.mz.opened.getD at_
  let s1 := releaseBank (raiseStage s 3 5 none stamp)
  { s1 with mz := { s1.mz with
      running := false, opened := none, state := 1,
      programMax := if s1.mz.programMax.toNat < ns then BitVec.ofNat 32 (min ns 0xFFFFFFFF) else s1.mz.programMax,
      closed := if closed then satInc s1.mz.closed else s1.mz.closed } }

/-- MAZE_END: END, or the end after the last step, or a program that is skipped or ended early (R324, R327). The Maze stamps
the completion from its die's replica (R370). -/
def execMazeEnd (t : Nat) (s : State) : Host.Outcome State Fault Refusal :=
  .next (
    let s := atTime t s
    let last := match s.mz.running, programStep s with
      | true, some st => field st 0 1 == 4
      | _, _ => true
    if s.mz.opened.isSome && last then stageDone s (now s) (replicaTime s 5) false else s)

/-- MAZE_WINDOW_CLOSE: the window's close ends the program; the completion carries the close instant (R327). -/
def execMazeWindowClose (t : Nat) (s : State) : Host.Outcome State Fault Refusal :=
  .next (
    let s := atTime t s
    match windowOfKind s 3 with
    | none => s
    | some w => if s.mz.opened.isSome && decide (closesAt s w ≤ now s) then stageDone s (closesAt s w) (closesAt s w) true else s)

/-! ## Publication -/

/-- Step 2 of R328 at the present time: commit, or bind the newest epoch for a recheck, also where the cycle's result is
fixed already. Without a bank, and in a cycle that has bound nothing, no pass can run (DEDUCED, log 83). -/
def decideRecheck (s : State) : State :=
  let stop (s : State) : State := { s with mz := { s.mz with rechecking := false } }
  if noStops s ∨ s.mz.bound.isNone ∨ !s.mz.newer then stop s
  else
    let left := match windowOfKind s 4 with
      | some w => closesAt s w - now s
      | none => 0
    if left < (mzParam s 20 2 + 8) * 1000 then
      let s1 := stop s
      { s1 with mz := { s1.mz with chain := none } }
    else
      match newestBank s with
      | none => stop s
      | some b =>
        let s1 := bindBank s b
        { s1 with mz := { s1.mz with rechecking := true } }

/-- The guarantee of R26 holds: section 0x01 has taken effect, and the device is neither asleep nor shut down. -/
def resultsDue (s : State) : Bool := s.mz.planQueue.isSome && packageUp s

/-- PUBLICATION_OPEN: steps 1 and 2 of R328. No plan result exists before section 0x01 takes effect (R26). -/
def execPublicationOpen (t : Nat) (s : State) : Host.Outcome State Fault Refusal :=
  .next (
    let s := atTime t s
    match windowOfKind s 4 with
    | none => s
    | some w =>
      if !resultsDue s ∨ s.mz.publishing ∨ now s < opensAt s w ∨ s.mz.committed = some (cycleNo s) then s
      else decideRecheck { s with mz := { s.mz with publishing := true, state := 3 } })

/-- Words of the held chain's edge records cannot be read: the program ends, and the result falls to rows 4 and 5
(R335). -/
def checkChain (s : State) (off n : Nat) : State :=
  match s.mz.chain, cycleRegion s with
  | some c, some r => if c.edges.any (fun e => edgesBad s r e (e + 1) off n) then breakProgram s else s
  | _, _ => s

/-- RECHECK_PASS: the recheck ends (R328 step 3, R329). Radii grow by |v0| × Δ, the instant of the bank bound
for it being Δ later than the plan instant. -/
def execRecheckPass (t : Nat) (bad : MazeUpset) (s : State) : Host.Outcome State Fault Refusal :=
  .next (
    let s := checkChain (upsetWords (atTime t s) bad) 0 96
    let s := if s.mz.rechecking then readStopTable s else s
    match s.mz.rechecking, s.mz.bound with
    | true, some b =>
      let bank := worldBankOf s b
      let dns := bank.cycle * 1000000 - s.mz.instant
      let grow := ceilDiv (s.mz.checkSpeed.toInt.natAbs * dns) 1000000000
      let region := (cycleRegion s).getD 0
      let chain := match s.mz.chain with
        | some c => c.edges
        | none => []
      let edges := chain.zipIdx.map (fun e => (32 + e.2, edgeSpheres (edgeRecord s region e.1)))
      let stops := if stopTableBad s then [] else stopSlots s
      let r := runPass s b grow dns (stops ++ edges) bad.checkers
      let sv := r.2.take stops.length
      let cv := r.2.drop stops.length
      let s1 := releaseBank (holdStop r.1 sv)
      decideRecheck { s1 with mz := { s1.mz with
        recheck := satInc s1.mz.recheck, rechecked := true, checkEpoch := bank.epoch, stopPassDone := true,
        chain := if cv.all (fun v => v == .valid) then s1.mz.chain else none } }
    | _, _ => s)

/-! ## The commit -/

/-- The Gatehouse generates and completes the cycle's item on the plan queue, or drops it when the queue is
full (R50, R56, R57, R68, R333). It publishes as ITEM_PUBLISH. The manual does not say what DESC of its journal entry holds,
there being no descriptor: zeros (DESIGN CHOICE, log 127); nor what a cycle does while the plan queue is not enabled, beyond
writing no record: no item, and PLAN_DROP stays (DESIGN CHOICE, log 128). -/
def planItem (s : State) (q : QueueId) (cyc : Nat) (st : BitVec 16) : State :=
  let x := queueOf s q
  if !x.enable ∨ (kilnsIn s).isEmpty ∨ !ghRuns s then s
  else if ringSize x ≤ queueLive s q then setQueue s q { x with planDrop := true }
  else
    let i : ItemId := ⟨q, x.nextSeq⟩
    let item : Item := {
      id := i, desc := zeros 64, block := [], plan := true, accepted := now s, stage := .accepted, taken := true,
      began := true, waits := 0, replays := 0, error := none, verdict := none, dropped := false, todo := [], ended := 0,
      batch := false, tabled := false, counted := false, spilled := false, paired := false, golden := .none,
      frame := BitVec.ofNat 32 cyc, busy := 0, other := 0, busyNs := 0, engine := none }
    let s1 := setQueue s q { x with
      nextSeq := x.nextSeq + 1, head := BitVec.ofNat 12 ((x.head.toNat + 1) % ringSize x) }
    let s2 := { s1 with gh := { s1.gh with items := s1.gh.items ++ [item] } }
    completeItem (noteEvent (journalWrite s2 i 0 (journalEntry s2 item)) item 0 0) i st (BitVec.ofNat 32 (cyc % 16))

/-- Counts a committed result in MZ_RESULTS. -/
def countResult (m : Maze) (st : BitVec 16) : Maze :=
  if st = stOk then { m with trajectory := satInc m.trajectory }
  else if st = stHeldStop then { m with held := satInc m.held }
  else { m with maxDecel := satInc m.maxDecel }

/-- The cycle's result, selected once (R331), or fixed by a timing fault (R334). -/
def cycleResult (s : State) : State :=
  if s.mz.slotHeld.isSome then s
  else
    let s := readStopTable (checkChain (checkChain s 0 8) 96 8)
    let r := selectResult s
    { s with mz := { s.mz with slotHeld := some (s.mz.fixed.getD (resultSlot s (cycleNo s) r, r.status)) } }

/-- Issues the requests of a slot's quarters until the Maze's regulator pauses it (R351). With the Maze out of reach the
Gatehouse writes the slot, unregulated (R348, R411). The answer tells whether all are out. -/
def sendSlot (m : Fin 6) (at_ : Nat) (slot : List Byte) : List Nat → State → State × Bool
  | [], s => (s, true)
  | k :: l, s =>
    if m = 3 ∧ masterPaused s 3 (at_ + 256 * k) then (s, false)
    else
      let s1 := hubRequest (if m = 3 then countMaster s 3 256 else s) m (at_ + 256 * k) (slice slot (256 * k) 256)
      sendSlot m at_ slot l { s1 with mz := { s1.mz with slotSent := s1.mz.slotSent + 1 } }

/-- PLAN_COMMIT: the result is selected, its slot written and the result committed to Belvedere B, which
sends its result frame; the plan item follows (R328, R331 to R333, R366). The quarter that holds COMMIT_NS goes last
(DESIGN CHOICE, log 152); a slot that the regulator holds up goes on at the next PLAN_COMMIT. -/
def execPlanCommit (t : Nat) (s : State) : Host.Outcome State Fault Refusal :=
  .next (
    let s := atTime t s
    let cyc := cycleNo s
    let at_ := s.mz.resultBase.toNat + cyc % 16 * 1024
    if !resultsDue s ∨ !s.mz.publishing ∨ s.mz.rechecking ∨ s.mz.committed = some cyc then s
    else
      let s := cycleResult s
      let res := s.mz.slotHeld.getD ([], 0)
      let slot := patch res.1 40 (leBytes 8 (now s))
      match sendSlot (if masterReaches s 3 at_ 1024 then 3 else 0) at_ slot ([1, 2, 3, 0].drop s.mz.slotSent) s with
      | (s1, false) => s1
      | (s1, true) =>
        let s1 := raiseStage s1 4 5 none (replicaTime s 5)
        let s2 := { s1 with mz := countResult { s1.mz with
          committed := some cyc, publishing := false, state := if mazeIdle s1 then 0 else 1,
          slotHeld := none, slotSent := 0, lastCycle := BitVec.ofNat 32 cyc } res.2 }
        let s3 := { s2 with bv := { s2.bv with commit := some (commitFrame slot) } }
        let s4 := resultFrame s3 (commitFrame slot)
        match s4.mz.planQueue with
        | some q => planItem s4 q cyc res.2
        | none => s4)

end Sys2Proof.Machine
end

