-- ==== Sys2Proof/Machine/PlanCycle.lean ====
section
/-! DEFINITION. The plan cycle boundary (R25, R57, R276, R283, R303, R305, R366, R368), schedule windows
(R346, R105, R385), the partition registers (R343), bandwidth regulators and their levels (R350 to R356). -/

namespace Sys2Proof.Machine

/-! ## Vacating tiles (R105) -/

/-- Posts VACATE to a tile that holds an instance and has no post. The manual does not say what CTX_ID, SLOT and STAGED of
TI_NEXT read for a VACATE: 0, 0 and 1 (DESIGN CHOICE, log 133). -/
def postVacate (s : State) (tl : TileId) : State :=
  let x := tileOf s tl
  if x.inst.isSome && x.next.isNone then
    setTile s tl { x with next := some { inst := none, ctx := 0, slot := 0, staged := some ⟨0, [], [], none⟩ } }
  else s

/-- Tiles that hold an instance satisfying a condition. -/
def tilesWhere (s : State) (p : InstanceId → CtxId → Bool) : List TileId :=
  ((List.range 256).map tileId).filter (fun tl =>
    match (tileOf s tl).inst with
    | some w => p w (tileOf s tl).ctx
    | none => false)

/-- The instance is a golden run. -/
def isGolden (s : State) (w : InstanceId) : Bool := ((findInst s w).map (fun i => i.golden)).getD false

/-- A tile that a golden window reserves gives up what it holds and what it is to take (R382): VACATE to one that holds
another instance, in place of a post not yet taken; a post to an empty or leaving tile is withdrawn. Golden runs stay. -/
def reserveTile (s : State) (tl : TileId) : State :=
  let x := tileOf s tl
  let golden (w : Option InstanceId) : Bool := (w.map (isGolden s)).getD false
  if golden x.inst then s
  else
    match x.next with
    | none => postVacate s tl
    | some p =>
      if p.inst.isNone || golden p.inst then s
      else if x.inst.isNone || x.leaving.isSome then cancelPost s tl
      else postVacate (setTile s tl { x with next := none }) tl

/-- A tile gives up its instance at the next yield point and takes no other: a post not yet taken is withdrawn (R428, R438). -/
def vacateTile (s : State) (tl : TileId) : State :=
  let s1 := match (tileOf s tl).next with
    | some p => if p.inst.isSome then cancelPost s tl else s
    | none => s
  postVacate s1 tl

/-- Posts VACATE to every tile whose context no longer has an open window (R105). -/
def vacateClosed (s : State) : State :=
  (tilesWhere s (fun w c => !isGolden s w && !windowOpenFor s (ctxOf s c))).foldl postVacate s

/-! ## Golden deferral (R385) -/

/-- Stops a golden run without fault: its chains go with it and its effects are discarded. -/
def dropGolden (s : State) (i : ItemId) : State :=
  let ws := (itemInsts s i).filter (fun w => w.golden)
  let s1 := setChains s (s.tl.chains.filter (fun x => !(x.golden && x.inst.item == i)))
  stopInsts s1 ws

/-- Defers an item whose golden run has not ended. One that follows a deferred item of its context completes with
ST_GOLDEN_MISMATCH and is reported with cause 0x06 (R385). -/
def deferItem (s : State) (i : ItemId) : State :=
  match findItem s i with
  | none => s
  | some x =>
    let c := dCtx x.desc
    let second := (ctxOf s c).lastDeferred
    let s1 := dropGolden s i
    let s2 := modItem s1 i (fun y => { y with golden := .deferred })
    let s3 := { s2 with bv := { s2.bv with goldDeferred := satInc s2.bv.goldDeferred, goldValid := true,
                                           goldCtx := BitVec.ofNat 10 c.val } }
    if second then
      let s5 := if x.stage = .done then
          let y := { x with golden := .deferred, verdict := some (stGoldenMismatch, x.frame) }
          journalWrite (modItem s3 i (fun _ => y)) i 72 (recordBytes (queueOf s3 i.queue) y stGoldenMismatch x.frame (now s3))
        else endItem (stopInsts s3 (itemInsts s3 i)) i stGoldenMismatch x.frame
      selfReport s5 4 (unitId 4 13 0) 0x06 (some c) stGoldenMismatch x.frame
    else modCtx s3 c (fun y => { y with lastDeferred := true })

/-- The golden run of an item belongs to a window that closes now: it runs in it, or it was to run in it. -/
def goldenOf (s : State) (w : WindowId) (opened : Nat) (x : Item) : Bool :=
  match x.golden with
  | .running v => v == w
  | .due => (ctxOf s (dCtx x.desc)).cls == s.part.schedule[w].cls && decide (x.accepted < opened)
  | _ => false

/-- The close of a golden window defers its runs and gives its tiles back (R382, R385). -/
def closeGolden (s : State) (w : WindowId) (opened : Nat) : State :=
  let l := (s.gh.items.filter (goldenOf s w opened)).map (fun x => x.id)
  let s1 := l.foldl deferItem s
  { s1 with bv := { s1.bv with reserved := s1.bv.reserved.filter (fun e => e.1 != w) } }

/-! ## Windows (R346) -/

/-- Window `w` is open at a phase of the cycle in ns. -/
def openAtPhase (x : Window) (ns : Nat) : Bool :=
  x.kind != 0 && decide (x.openUs * 1000 ≤ ns) && decide (ns < x.closeUs * 1000)

def setOpen (s : State) (w : WindowId) (on : Bool) : State :=
  let m := BitVec.ofNat 8 (2 ^ w.val)
  { s with part := { s.part with openMask := if on then s.part.openMask ||| m else s.part.openMask &&& ~~~ m } }

/-- WINDOW_OPEN: the window's contexts may rank and run. -/
def execWindowOpen (w : WindowId) (t : Nat) (s : State) : Host.Outcome State Fault Refusal :=
  .next (
    let s := atTime t s
    if openAtPhase s.part.schedule[w] (now s % 1000000) then setOpen s w true else s)

/-- WINDOW_CLOSE: a window that does not reopen in the same instant closes; its contexts' tiles are vacated,
a golden window's runs are deferred. -/
def execWindowClose (w : WindowId) (t : Nat) (s : State) : Host.Outcome State Fault Refusal :=
  .next (
    let s := atTime t s
    let x := s.part.schedule[w]
    if openAtPhase x (now s % 1000000) ∨ !s.part.openMask.getLsbD w.val then s
    else
      let s1 := setOpen s w false
      let s2 := if x.kind = 5 then closeGolden s1 w (now s - (x.closeUs - x.openUs) * 1000) else s1
      vacateClosed s2)

/-! ## Sections take effect -/

/-- Of the done sections that wait, the one of a number accepted last. -/
def latestOf (l : List PendingSection) (sec : Nat) : Option PendingSection :=
  (l.filter (fun x => x.secNo == sec)).foldl (fun a x => match a with
    | some y => if y.order < x.order then some x else some y
    | none => some x) none

/-- Writes bytes into the road-map store or the golden area, replacing what could not be read there. -/
def storeWrite (s : State) (pa : Nat) (l : List Byte) : State :=
  { s with
    mem := memWrites s.mem pa l,
    tl := { s.tl with badWords := s.tl.badWords.filter (fun w => decide (w + 8 ≤ pa) || decide (pa + l.length ≤ w)) } }

/-- A fusion section takes effect (R276). A new sensor table returns every entry's vote, confidence and
runs. -/
def fusionEffect (s : State) (sec : Nat) (b : List Byte) : State :=
  let s1 := { s with fe := { s.fe with config := tabPut s.fe.config sec b } }
  if sec = 1 then
    { s1 with fe := { s1.fe with sensors := s1.fe.sensors.map (fun e =>
        (e.1, { e.2 with vote := 0, confidence := 15, disagree := 0, staleRun := 0, frozenRun := 0, clean := 0 })) } }
  else s1

/-- Windows of a schedule block (R344). -/
def scheduleOf (b : List Byte) : Vector Window 8 :=
  Vector.ofFn (fun i => ⟨winOpen b i.val, winClose b i.val, winKind b i.val, classOfD (winClass b i.val), winReserve b i.val⟩)

/-- Watchdog entries of a block (R368). -/
def watchdogsOf (b : List Byte) : Vector WdEntry 8 :=
  Vector.ofFn (fun i => ⟨field b (16 * i.val) 2, field b (16 * i.val + 2) 2, field b (16 * i.val + 4) 1 == 1,
    BitVec.ofNat 16 (field b (16 * i.val + 6) 2)⟩)

/-- Turns off the watchdog entries in force that the schedule in force makes invalid (R368). -/
def dropWatchdogs (s : State) : State :=
  let sch := scheduleBytes s.part.schedule.toList
  let bad (i : Fin 8) : Bool :=
    let e := s.bv.wd[i]
    e.on && !wdAgrees s.part sch i.val e.openUs e.closeUs e.sync.toNat
  if (List.finRange 8).any bad then
    { s with bv := { s.bv with
        wd := Vector.ofFn (fun i => if bad i then ⟨0, 0, false, 0⟩ else s.bv.wd[i]), wdOff := true } }
  else s

/-- The schedule takes effect: windows open at the boundary are open, other windows' tiles are vacated. -/
def scheduleEffect (s : State) (b : List Byte) : State :=
  let sch := scheduleOf b
  let openNow := BitVec.ofNat 8 (((List.finRange 8).map (fun i => if openAtPhase sch[i] 0 then 2 ^ i.val else 0)).sum)
  let closing := (List.finRange 8).filter (fun i => s.part.openMask.getLsbD i.val && s.part.schedule[i].kind == 5)
  let s0 := closing.foldl (fun a i => closeGolden a i (now a)) s
  { s0 with part := { s0.part with schedule := sch, openMask := openNow } }

/-- Entries of a golden block (R380). -/
def goldenTable (b : List Byte) : List GoldenEntry :=
  ((List.range 32).filter (fun i => bit (field b (32 * i) 2) 15)).map (fun i =>
    ⟨ctxId (field b (32 * i) 2), field b (32 * i + 2) 2, field b (32 * i + 4) 2, field b (32 * i + 6) 1,
      BitVec.ofNat 64 (field b (32 * i + 8) 8), i⟩)

/-- Base of the golden area of Keep SRAM (R458). -/
def goldenArea : Nat := 0x6000_1020_0000

/-- The CAN configuration of a block (R365). -/
def canOf (b : List Byte) : CanConfig :=
  { nominal := BitVec.ofNat 8 (field b 0 1), data := BitVec.ofNat 8 (field b 1 1), extended := field b 2 1 == 1,
    enable := BitVec.ofNat 2 (field b 3 1), statusA := BitVec.ofNat 32 (field b 4 4),
    statusB := BitVec.ofNat 32 (field b 8 4), result := BitVec.ofNat 32 (field b 12 4),
    stop := BitVec.ofNat 32 (field b 16 4) }

/-- A queue leaves the plan queue role: no doorbell of it announces entries (R57). -/
def endPlanQueue (s : State) : State :=
  match s.mz.planQueue with
  | none => s
  | some q =>
    let x := queueOf s q
    let s1 := setQueue s q { x with planQueue := false, subIndex := x.head }
    { s1 with mz := { s1.mz with planQueue := none } }

/-- PLAN_QUEUE_ROLE_CHANGE: the queue that a section 0x01 names becomes the plan queue (R57). A descriptor
fetched and not accepted is not accepted. -/
def takePlanQueue (s : State) (q : QueueId) (base : Nat) : State :=
  let s1 := if s.mz.planQueue = some q then s else endPlanQueue s
  let x := queueOf s1 q
  let s2 := if x.planQueue then s1
    else setQueue s1 q { x with planQueue := true, fetched := none, block := [], fetchFailed := false }
  { s2 with mz := { s2.mz with planQueue := some q, resultBase := BitVec.ofNat 48 base } }

/-- The end of LOADING of a slot whose sections are all in effect. -/
def clearLoading (s : State) (sec : Nat) : State :=
  { s with mz := { s.mz with loading := s.mz.loading &&& ~~~ (BitVec.ofNat 15 (2 ^ (sec % 16))) } }

/-- A plan section takes effect (R303, R305). -/
def planEffect (s : State) (sec : Nat) (b : List Byte) : State :=
  let put (s : State) (b : List Byte) : State := { s with mz := { s.mz with config := tabPut s.mz.config sec b } }
  if sec = 1 then takePlanQueue (storeWrite (put s b) (storeBase + 0x1E1_0000) b) (queueId (field b 6 1)) (field b 0 6)
  else if sec = 2 then storeWrite (put s b) (storeBase + 0x1E1_0100) b
  else if sec = 3 then storeWrite (put s b) (storeBase + 0x1E2_0000) b
  else if sec = 4 then storeWrite (put s b) (storeBase + 0x1E0_0000) b
  else if sec = 0x10 then scheduleEffect (put s b) b
  else if sec = 0x11 then
    let s1 := put s b
    { s1 with bv := { s1.bv with wd := watchdogsOf b } }
  else if sec = 0x12 then
    let s1 := storeWrite (put s []) goldenArea b
    { s1 with bv := { s1.bv with golden := goldenTable b } }
  else if sec = 0x13 then
    let s1 := put s b
    { s1 with bv := { s1.bv with can := some (canOf b) } }
  else if 0x20 ≤ sec ∧ sec ≤ 0x2E then
    let base := storeBase + regionBase (sec - 0x20)
    let n := field b 0 2
    let s1 := storeWrite (put s []) base (slice b 0 64)
    let s2 := storeWrite s1 (base + 0x1000) (slice b 64 (16 * n))
    let s3 := storeWrite s2 (base + 0x10_0000) (b.drop (64 + 16 * n))
    clearLoading { s3 with mz := { s3.mz with loaded := s3.mz.loaded ||| BitVec.ofNat 15 (2 ^ (sec - 0x20)) } } sec
  else clearLoading (storeWrite (put s []) (storeBase + regionBase (sec - 0x30) + 0x2_0000) b) sec

/-- Every done fusion section takes effect, and its item may publish. -/
def fusionSections (s : State) : State :=
  let l := s.fe.waiting
  let s1 := { s with fe := { s.fe with waiting := [] } }
  ((List.range 8).filterMap (latestOf l)).foldl (fun a x => fusionEffect a x.secNo x.block) s1

/-- Every done plan section takes effect, in the order of section numbers. Where a schedule does, watchdog entries in force
under it that it makes invalid are off (R368). -/
def planSections (s : State) : State :=
  let l := s.mz.waiting
  let s1 := { s with mz := { s.mz with waiting := [] } }
  let s2 := ((List.range 64).filterMap (latestOf l)).foldl (fun a x => planEffect a x.secNo x.block) s1
  if l.any (fun x => x.secNo == 0x10) then dropWatchdogs s2 else s2

/-! ## The boundary -/

/-- The stage of a window is watched: its entry is on, and the Fusion Engine or the Maze is not idle where the
stage is theirs (R369). -/
def watched (s : State) (w : WindowId) : Bool :=
  let k := s.part.schedule[w].kind
  s.bv.wd[w].on && (k == 1 || (k == 2 && s.fe.state == 2) || ((k == 3 || k == 4) && !mazeIdle s))

/-- A window's stage is watched, has not been judged in the cycle that ends, and its deadline, WD_CLOSE_US and 200 ns
after the boundary, falls past the next boundary: WD_CLOSE_US is 1,000 (R344, R370). -/
def isOwed (s : State) (w : WindowId) : Bool :=
  watched s w && !s.bv.judged.getLsbD w.val && decide (1000 ≤ s.bv.wd[w].closeUs) && s.bv.lastBoundary.isSome

/-- The windows so owed, as a mask. -/
def owedWindows (s : State) : Byte :=
  BitVec.ofNat 8 (((List.finRange 8).map (fun i => if isOwed s i then 2 ^ i.val else 0)).sum)

/-- The Maze at the start of a cycle: nothing bound, no chain, every edge UNCHECKED. The held stop stands (R334). -/
def mazeCycle (s : State) (t : Nat) : State :=
  let s1 := releaseBank s
  { s1 with mz := { s1.mz with
      cycleAt := t, bound := none, aged := false, stale := false, edges := [], chain := none, stopPassDone := false,
      slotHeld := none, slotSent := 0, tableSeen := false, passes := 0, rechecked := false, rechecking := false, fixed := none, pc := 0,
      running := false, opened := none, publishing := false, checkEpoch := 0, checkSpeed := 0, instant := 0, region := 0xF,
      state := if mazeIdle s1 then 0 else 1 } }

/-- PLAN_CYCLE_BOUNDARY: at a whole millisecond of Sundial time (R25). None falls in S3 or S4 (R445). -/
def execPlanCycleBoundary (t : Nat) (s : State) : Host.Outcome State Fault Refusal :=
  .next (
    if t % 1000000 ≠ 0 ∨ t < now s ∨ 3 ≤ s.pw.sleepState.toNat ∨ s.rs.held ∨ s.bv.lastBoundary = some t then s
    else
      let s0 := atTime t s
      let s0 := if now s < t then { s0 with sun := { s0.sun with frac := 0 } } else s0
      let s1 := planSections (fusionSections s0)
      let ready := fusionNeeds.all (fun k => tabHas s1.fe.config k)
      let s2 := if ready then
          let s2 := takeSnapshot s1 t
          { s2 with fe := { s2.fe with state := 2, reading := cycleReads s2 t } }
        else s1
      let s3 := mazeIdleCause (mazeCycle s2 t)
      let s4 := { s3 with
        bv := { s3.bv with judged := 0, owed := owedWindows s0, lastBoundary := some t, resuming := s3.bv.resuming - 1,
                              stages := s3.bv.stages.filter (fun e => decide (t ≤ e.2.1 + 1000000)) },
        part := { s3.part with logged := [] } }
      let cyc := t / 1000000
      vacateClosed (statusFrame (statusFrame s4 .a cyc) .b cyc))

/-! ## Partition registers (R343) -/

/-- A partition is empty: no context of the class but FREE ones, no enabled queue, no allocated block. -/
def partitionEmpty (s : State) (c : Class) : Bool :=
  !s.gh.contexts.any (fun e => e.2.state != .free && e.2.cls == c) &&
    !s.gh.queues.any (fun e => e.2.enable && e.2.cls == c) &&
    !s.ms.blocks.any (fun e => match e.2 with
      | .owned _ l => if l ≤ 3 then inClassMemory s c e.1 0x20_0000 else c == .qm
      | .lent => c == .qm
      | .scrubbing => false)

/-- Range checks of GH_PART_SPLIT. -/
def splitBad (v : Word32) : Bool :=
  decide (160 < bits v.toNat 7 0 + bits v.toNat 15 8) || decide (127 < bits v.toNat 22 16 + bits v.toNat 30 24)

/-- Classes whose resources a new split changes: the classes whose shelf range or memory range moves. -/
def splitMoves (s : State) (v : Word32) (c : Class) : Bool :=
  let d := bits v.toNat 7 0 != s.part.dShelves.toNat
  let b := bits v.toNat 15 8 != s.part.bShelves.toNat
  let dm := bits v.toNat 22 16 != s.part.dMem.toNat
  let bm := bits v.toNat 30 24 != s.part.bMem.toNat
  match c with
  | .d => d || dm
  | .b => d || b || dm || bm
  | .qm => bits v.toNat 7 0 + bits v.toNat 15 8 != s.part.dShelves.toNat + s.part.bShelves.toNat ||
      bits v.toNat 22 16 + bits v.toNat 30 24 != s.part.dMem.toNat + s.part.bMem.toNat

/-- PART_SPLIT_WRITE. BUSY_ERR takes precedence over RANGE_ERR. -/
def execPartSplitWrite (f : FnId) (v : Word32) (s : State) : Host.Outcome State Fault Refusal :=
  .next (
    if !pfReaches s f then s
    else if classes.any (fun c => splitMoves s v c && !partitionEmpty s c) then
      { s with part := { s.part with busyErr := true } }
    else if splitBad v then { s with part := { s.part with rangeErr := true } }
    else { s with part := { s.part with
      dShelves := BitVec.ofNat 8 (bits v.toNat 7 0), bShelves := BitVec.ofNat 8 (bits v.toNat 15 8),
      dMem := BitVec.ofNat 7 (bits v.toNat 22 16), bMem := BitVec.ofNat 7 (bits v.toNat 30 24) } })

def setPartMap (p : Partition) (k : Class) (m : PartMap) : Partition :=
  match k with
  | .qm => { p with mapQm := m }
  | .b => { p with mapB := m }
  | .d => { p with mapD := m }

/-- Two sync ranges overlap; an empty range overlaps none (R340). -/
def rangesOverlap (a b : PartMap) : Bool :=
  decide (a.syncBase.toNat ≤ a.syncLast.toNat) && decide (b.syncBase.toNat ≤ b.syncLast.toNat) &&
    decide (a.syncBase.toNat ≤ b.syncLast.toNat) && decide (b.syncBase.toNat ≤ a.syncLast.toNat)

/-- PART_MAP_WRITE. A reserved FUNCTION keeps the field (R12). -/
def execPartMapWrite (f : FnId) (k : Class) (v : Word64) (s : State) : Host.Outcome State Fault Refusal :=
  .next (
    let old := partMap s.part k
    let fn := bits v.toNat 35 32
    let m : PartMap := ⟨v.setWidth 16, BitVec.ofNat 16 (bits v.toNat 31 16), if fn ≤ 8 then BitVec.ofNat 4 fn else old.function⟩
    if !pfReaches s f then s
    else if m ≠ old ∧ !partitionEmpty s k then { s with part := { s.part with busyErr := true } }
    else if classes.any (fun c => c != k && rangesOverlap m (partMap s.part c)) then
      { s with part := { s.part with rangeErr := true } }
    else { s with part := setPartMap s.part k m })

/-! ## Regulators -/

/-- Key, guarantee, class, BW_MISS.MASTER and context of a regulated count (R349). -/
def countOf (s : State) : MasterId → Nat × Nat × Class × Nat × Nat
  | .tile tl c => (tileKey tl c, (ctxOf s c).guarantee.toNat, (ctxOf s c).cls, tl.val, c.val)
  | .other m => (2 ^ 18 + m.val, s.part.masters[m].guarantee.toNat, s.part.masters[m].cls, 0x100 + m.val, 0)

/-- Die and unit of a regulator (R395): a tile's on its die, the Maze's on the Maze die, the rest on the hub. -/
def regulatorUnit : MasterId → Nat × BitVec 16
  | .tile tl _ => ((tileDie tl).val, unitId (tileDie tl).val 14 (tileLocal tl))
  | .other m => if m = 3 then (5, unitId 5 14 0x83) else (4, unitId 4 14 (0x80 + m.val))

/-- Handles one waiting master at a window's end: a count below its guarantee is a miss (R355, R356). -/
def noteMiss (s : State) (m : MasterId) : State :=
  let k := countOf s m
  if k.2.1 ≤ tabGet 0 s.part.counts k.1 then s
  else
    let s1 := { s with part := { s.part with
      miss := ⟨satInc s.part.miss.count, BitVec.ofNat 9 k.2.2.2.1, BitVec.ofNat 10 k.2.2.2.2, true⟩ } }
    let s2 := if s1.part.logged.contains k.2.2.2.1 then s1
      else
        let s2 := logEntry s1 0x0021 (leBytes 2 k.2.2.2.1 ++ leBytes 2 k.2.2.2.2 ++ leBytes 1 (classCode k.2.2.1))
        { s2 with part := { s2.part with logged := k.2.2.2.1 :: s2.part.logged } }
    if k.2.2.1 = .qm then s2
    else
      let u := regulatorUnit m
      openReport s2 u.1 u.2 0x11 (match m with
        | .tile _ c => some c
        | .other _ => none)

/-- REGULATOR_WINDOW: the misses of the ending window, then every count returns to zero (R350). `waiting`
names the masters whose request has waited at least 1 µs. -/
def execRegulatorWindow (t : Nat) (waiting : List MasterId) (s : State) : Host.Outcome State Fault Refusal :=
  .next (
    let s := atTime t s
    if now s % (s.part.bwWindow.toNat * 1000) ≠ 0 then s
    else
      let s1 := waiting.foldl noteMiss s
      pumpFusion { s1 with part := { s1.part with counts := [] } })

/-- The throttle level of an occupancy (R352). -/
def levelAt (p : Partition) (q : Nat) : BitVec 2 :=
  let h := p.bwHigh.toNat
  let st := p.bwStep.toNat
  if h + 2 * st < q then 3 else if h + st < q then 2 else if h < q then 1 else 0

/-- Key of an outbound queue's level. -/
def levelKey : OutQueue → Nat
  | .channel k ch => 8 * k.val + ch.val
  | .pcie => 32
  | .pergola => 33

/-- THROTTLE_LEVEL_CHANGE: a queue of 64 entries reaches an occupancy (R352). -/
def execThrottleLevelChange (qu : OutQueue) (occupancy : Nat) (s : State) : Host.Outcome State Fault Refusal :=
  .next (
    if 64 < occupancy then s
    else pumpFusion { s with part := { s.part with
      levels := tabSet 0 s.part.levels (levelKey qu) (levelAt s.part occupancy) } })

/-- Guarantees of the masters of a class, the one selected aside (R354). -/
def masterSum (s : State) (c : Class) (but : Nat) : Nat :=
  ((List.finRange 6).map (fun i => if s.part.masters[i].cls = c ∧ i.val ≠ but then s.part.masters[i].guarantee.toNat else 0)).sum

/-- Guarantees of the contexts of a class that are not FREE. -/
def contextSum (s : State) (c : Class) : Nat :=
  (s.gh.contexts.map (fun e => if e.2.state != .free && e.2.cls == c then e.2.guarantee.toNat else 0)).sum

/-- BW_CLASS_POOL of a class. -/
def classPool (s : State) (c : Class) : Nat := (s.part.pools.getD (classCode c) 0).toNat

def setMaster (s : State) (m : Fin 6) (x : Master) : State :=
  { s with part := { s.part with masters := s.part.masters.set m x } }

/-- The selected master; none for the reserved selections. -/
def selectedMaster (s : State) : Option (Fin 6) :=
  if h : s.part.bwSelect.toNat < 6 then some ⟨s.part.bwSelect.toNat, h⟩ else none

/-- BW_MASTER_GUARANTEE_WRITE: ignored past the pool or the master's limit (R354). -/
def execBwMasterGuaranteeWrite (f : FnId) (v : Word32) (s : State) : Host.Outcome State Fault Refusal :=
  .next (
    match selectedMaster s with
    | none => s
    | some m =>
      let x := s.part.masters[m]
      if !pfReaches s f ∨ x.limit.toNat < v.toNat ∨
          classPool s x.cls < contextSum s x.cls + masterSum s x.cls m.val + v.toNat then s
      else setMaster s m { x with guarantee := v })

/-- BW_MASTER_CLASS_WRITE: ignored for the Fusion Engine and the Maze, and when the guarantee would not fit
the new class's pool (R354). -/
def execBwMasterClassWrite (f : FnId) (v : Word32) (s : State) : Host.Outcome State Fault Refusal :=
  .next (
    match selectedMaster s, classOf (bits v.toNat 1 0) with
    | some m, some c =>
      let x := s.part.masters[m]
      if !pfReaches s f ∨ m = 2 ∨ m = 3 ∨
          classPool s c < contextSum s c + masterSum s c m.val + x.guarantee.toNat then s
      else setMaster s m { x with cls := c }
    | _, _ => s)

end Sys2Proof.Machine
end

