-- ==== Sys2Proof/Machine/Accept.lean ====
section
/-! DEFINITION. Acceptance of descriptors (R17, R18, R36 to R39, R43, R44, R46, R47, R50, R216, R233, R250 to
R253, R275, R302, R341, R354, R373, R381, R387, R513) and what acceptance does for each work type. -/

namespace Sys2Proof.Machine

/-! ## Checks of the descriptor (R36 to R39) -/

/-- Flags that a type allows (R37). -/
def flagsFor (ty : Nat) : Nat := if ty = 1 then 7 else if ty = 2 then 4 else 0

/-- Unused payload bytes of a type (R37, R38): (offset, size). -/
def unusedPayload (ty : Nat) : List (Nat × Nat) :=
  if ty = 1 then [(28, 4)] else if ty = 3 ∨ ty = 4 then [(22, 2), (29, 3)] else if ty = 5 ∨ ty = 7 then [(17, 15)]
  else if ty = 6 then [(22, 10)] else if ty = 8 then [(17, 1), (24, 8)] else []

/-- Rules on the fields that every type has. -/
def commonViols (s : State) (q : QueueId) (d : List Byte) : List Viol :=
  let ty := dType d
  let ch := field d 4 1
  let cn := field d 5 1
  let cls := bits ch 1 0
  let nw := bits cn 2 0
  let ns := bits cn 6 4
  let bad (off n : Nat) : List Viol := chk (!allZero (slice d off n)) stFieldReserved off
  chk (ty == 0 || decide (8 < ty)) stFieldReserved 0 ++
    chk (Nat.land (dFlags d) (255 - flagsFor ty) != 0) stFieldReserved 1 ++
    chk (dNamesCtx d && field d 2 2 / 1024 != 0) stFieldReserved 2 ++
    chk (cls == 3 || bits ch 3 2 != 0 || decide (3 < dHintDie d)) stFieldReserved 4 ++
    chk (bit cn 3 || bit cn 7) stFieldReserved 5 ++ lim 5 nw 0 4 3 ++ lim 5 ns 0 4 3 ++ bad 6 2 ++
    (unusedPayload ty).flatMap (fun e => bad (e.1) e.2) ++
    (List.range 4).flatMap (fun k => if nw ≤ k then bad (32 + 6 * k) 6 else []) ++
    (List.range 4).flatMap (fun k => if ns ≤ k then bad (56 + 2 * k) 2 else []) ++
    chkDet (cls != 3 && cls != classCode (queueOf s q).cls) stClassMismatch 4 0 ++
    (match classOf cls with
     | none => []
     | some c =>
       (if c = .qm then []
        else (List.range (min nw 4)).flatMap (fun k => syncViol s c (32 + 6 * k) (dWaitId d k))) ++
         (List.range (min ns 4)).flatMap (fun k => syncViol s c (56 + 2 * k) (dSignal d k)) ++
         (if ty = 8 then syncViol s c 18 (field d 18 2) else []))

/-- State code of R61. -/
def ctxCode : CtxState → Nat
  | .free => 0
  | .loading => 1
  | .ready => 2
  | .faulted => 3
  | .closing => 4

/-- The context that a RUN, COPY or CONTEXT-DESTROY names: its state (R62) and class (R78). -/
def contextViols (s : State) (d : List Byte) (ready : Bool) : List Viol :=
  let c := ctxOf s (dCtx d)
  chkDet (if ready then c.state != .ready else c.state == .free) stContextInvalid 2 (ctxCode c.state) ++
    chkDet (c.state != .free && bits (field d 4 1) 1 0 != 3 && dClass d != c.cls) stClassMismatch 2 0

/-- The RUN is a batch RUN (R250): ENTRY is a valid batch entry of its context, in whatever state that is. -/
def isBatch (s : State) (d : List Byte) : Bool :=
  let c := ctxOf s (dCtx d)
  dType d == 1 &&
    (List.range 4).any (fun n => bit c.batch.toNat (16 * n + 15) && bits c.batch.toNat (16 * n + 9) (16 * n) == field d 24 2)

/-- The batch header is to be read (R253). -/
def readsHeader (s : State) (d : List Byte) : Bool :=
  isBatch s d && field d 26 2 != 0 && decide (64 ≤ field d 22 2) && field d 16 6 % 64 == 0

/-- A block that a descriptor names, as read at acceptance. -/
inductive BlockRead where
  | unread
  | unreadable
  | bytes (b : List Byte)
  deriving DecidableEq, Repr

/-- Batch header (R252, R253). -/
def headerViols (b d : List Byte) : List Viol :=
  let n := field b 0 2
  let live := field b 16 4
  lim (blockPos 0) n 0 256 16 ++ chk (decide (1 < field b 2 1)) stFieldReserved (blockPos 2) ++
    lim (blockPos 3) (field b 3 1) 1 16 8 ++ lim (blockPos 4) (field b 4 2) 1 64 16 ++ resv b 6 2 ++ addr8 b 8 ++
    chk (field b 8 6 % 64 != 0) stFieldRange (blockPos 8) ++
    (if live = 0xFFFFFFFF then [⟨stFieldReserved, blockPos 16, blockPos 16⟩]
     else chk (live % 64 != 0 || decide (0xE800 < live % 65536)) stFieldRange (blockPos 16)) ++ resv b 20 44 ++
    chk (field b 2 1 == 0 && n != 0 && field d 26 2 != n) stFieldRange 26 ++
    chk (n != 0 && decide (0x1_0000_0000_0000 < field b 8 6 + 32 * n)) stSizeOverrun (blockPos 8)

/-- RUN (R37, R38, R250 to R253, R373, R381, R387). -/
def runViols (s : State) (d : List Byte) (blk : BlockRead) : List Viol :=
  let a := field d 16 6
  let len := field d 22 2
  let ctx := ctxOf s (dCtx d)
  let entries := if ctx.entries.isEmpty then 0xFFFF else ctx.entries.length
  let cls := bits (field d 4 1) 1 0
  let hdr := isBatch s d && field d 26 2 != 0
  chk (a % 64 != 0) stFieldRange 16 ++ lim 22 len 0 4096 16 ++
    chk (decide (len ≤ 4096) && decide (0x1_0000_0000_0000 < a + len)) stSizeOverrun 22 ++
    lim 24 (field d 24 2) 0 (entries - 1) 16 ++ lim 26 (field d 26 2) 0 65534 16 ++ contextViols s d true ++
    chkDet ((dPaired d || dGolden d) && cls == 0) stClassMismatch 1 0 ++
    chkDet (dPaired d && !s.bv.pairService) stClassMismatch 1 0 ++
    chkDet (dGolden d && !s.bv.golden.any (fun e => e.ctx == dCtx d)) stClassMismatch 1 0 ++
    chkDet (ctx.shadowed && !dPaired d) stClassMismatch 1 0 ++
    chkDet (dPaired d && !ctx.shadowed && ctx.state == .ready && decide (quotaRoom s ctx.cls < ctx.shelves)) stNoShelves 1
      (quotaRoom s ctx.cls) ++
    chk (hdr && decide (len < 64)) stFieldRange 22 ++
    (match blk with
     | .unread => []
     | .unreadable => chk hdr stFieldRange 16
     | .bytes b => if hdr then headerViols b d else [])

/-- COPY (R38). -/
def copyViols (s : State) (d : List Byte) : List Viol :=
  let a := copySrc d
  let b := copyDst d
  let n := copyLen d
  let top := 0x1_0000_0000_0000
  chk (n != 0 && (decide (top < a + n) || decide (top < b + n))) stSizeOverrun 28 ++
    chk (n != 0 && decide (a < b + n) && decide (b < a + n)) stFieldRange 16 ++ contextViols s d true

/-- Whether the CFG_ADDR, CFG_LEN and SECTION of a configuration descriptor let its block be read. -/
def configReads (s : State) (d : List Byte) : Bool :=
  sectionKnown (dType d == 3) (field d 28 1) && field d 24 4 != 0xFFFFFFFF && regionOk s (field d 16 6) (field d 24 4)

/-- FUSE-CONFIG and PLAN-CONFIG (R38, R216, R275, R301, R302, R534). Whether a block whose CFG_LEN is not its section's
length is checked for its own broken rules the manual does not say: here it is not, and ST_FIELD_RANGE at 24 is reported
(DESIGN CHOICE, log 124). -/
def configViols (s : State) (q : QueueId) (d : List Byte) (blk : BlockRead) : List Viol :=
  let fuse := dType d == 3
  let sec := field d 28 1
  let n := field d 24 4
  chkDet ((queueOf s q).cls != .d) stClassMismatch 4 0 ++ chk (!sectionKnown fuse sec) stFieldReserved 28 ++
    chk (n == 0xFFFFFFFF) stFieldReserved 24 ++
    chk (n != 0xFFFFFFFF && !regionOk s (field d 16 6) n) stFieldRange 16 ++
    (if configReads s d then
      match blk with
      | .unread => []
      | .unreadable => [⟨stFieldRange, 16, 16⟩]
      | .bytes b =>
        if sectionLen fuse sec (b.take 12) = some n then (if fuse then fuseViols s sec b else planViols s sec b)
        else [⟨stFieldRange, 24, 24⟩]
     else [])

/-- The creation block's rules (R43, R44, R216, R233, R354). -/
def createBlockViols (s : State) (d b : List Byte) : List Viol :=
  let ia := field b 0 6
  let il := field b 8 4
  let tt := field b 16 8
  let k := field b 24 1
  let shelves := field b 26 2
  let g := field b 32 4
  let l := field b 36 4
  let lenOk := decide (1 ≤ il) && decide (il ≤ 0x400_0000)
  let shelvesOk := decide (1 ≤ shelves) && decide (shelves ≤ 40960)
  addr8 b 0 ++ chk (field b 6 2 == 0 && !regionOk s ia (if lenOk then il else 1)) stFieldRange (blockPos 0) ++
    lim (blockPos 8) il 1 0x400_0000 32 ++ chk (decide (2 < k)) stFieldReserved (blockPos 24) ++
    chk (decide (3 < field b 25 1)) stFieldReserved (blockPos 25) ++ lim (blockPos 26) shelves 1 40960 16 ++
    chk (field b 28 1 == 0) stFieldRange (blockPos 28) ++
    (if shelvesOk then lim (blockPos 29) (field b 29 1) 0 (shelves - 1) 8 else []) ++
    noOnes (blockPos 30) (field b 30 2) 16 ++ chk (l == 0 || decide (l < g)) stFieldRange (blockPos 36) ++ resv b 40 24 ++
    (match classOf k with
     | none => []
     | some c =>
       chkDet (k != bits (field d 4 1) 1 0) stClassMismatch (blockPos 24) 0 ++
         chkDet (c != .qm && field b 12 4 == 0) stClassMismatch (blockPos 12) 0 ++
         chk (tt % 4096 != 0 || !regionOk s tt 4096 || !legalRange s c tt 4096) stFieldRange (blockPos 16) ++
         chk (decide (classPool s c < contextSum s c + masterSum s c 6 + g)) stFieldRange (blockPos 32) ++
         chkDet (shelvesOk && decide (quotaRoom s c < shelves)) stNoShelves (blockPos 26) (quotaRoom s c))

/-- CREATE_ADDR lets the creation block be read. -/
def createReads (s : State) (d : List Byte) : Bool := field d 16 6 % 64 == 0 && regionOk s (field d 16 6) 64

/-- CONTEXT-CREATE. -/
def createViols (s : State) (d : List Byte) (blk : BlockRead) : List Viol :=
  let c := ctxOf s (dCtx d)
  chkDet (c.state != .free) stContextBusy 2 (ctxCode c.state) ++ chk (!createReads s d) stFieldRange 16 ++
    (match blk with
     | .unread => []
     | .unreadable => [⟨stFieldRange, 16, 16⟩]
     | .bytes b => if createReads s d then createBlockViols s d b else [])

/-- Every rule that a descriptor breaks, with its block. -/
def descriptorViols (s : State) (q : QueueId) (d : List Byte) (blk : BlockRead) : List Viol :=
  let ty := dType d
  commonViols s q d ++
    (if ty = 1 then runViols s d blk
     else if ty = 2 then copyViols s d
     else if ty = 3 ∨ ty = 4 then configViols s q d blk
     else if ty = 5 then chk (decide (2 < field d 16 1)) stFieldReserved 16
     else if ty = 6 then createViols s d blk
     else if ty = 7 then chk (decide (1 < field d 16 1)) stFieldReserved 16 ++ contextViols s d false
     else if ty = 8 then chk (decide (1 < field d 16 1)) stFieldReserved 16
     else [])

/-! ## Reading at acceptance -/

/-- Reads a block at a device physical address; an uncorrectable granule is counted and latched (R226). -/
def readBlock (s : State) (pa n : Nat) : State × BlockRead :=
  match badGranule s pa n with
  | some g => (noteUncorrectable s g false, .unreadable)
  | none => (correctGranules s pa n, .bytes (paReads s pa n))

/-- Reads the block or batch header that a descriptor names. -/
def namedBlock (s : State) (d : List Byte) : State × BlockRead :=
  let ty := dType d
  if ty = 1 ∧ readsHeader s d then
    match gwReads (dCtx d) 2 s (field d 16 6) 64 with
    | (s1, .ok b) => (s1, .bytes b)
    | (s1, .error _) => (s1, .unreadable)
  else if (ty = 3 ∨ ty = 4) ∧ configReads s d then readBlock s (field d 16 6) (field d 24 4)
  else if ty = 6 ∧ createReads s d then readBlock s (field d 16 6) 64
  else (s, .unread)

/-- The read of the batch header that a RUN names is held (R505). -/
def headerHeld (s : State) (d : List Byte) : Bool :=
  dType d == 1 && readsHeader s d && gwHeld s (dCtx d) (field d 16 6) 64 false

/-- The bytes of a block as an item keeps them. -/
def blockBytes : BlockRead → List Byte
  | .bytes b => b
  | _ => []

/-- A kept block as acceptance sees it. -/
def keptBlock (b : List Byte) : BlockRead := if b.isEmpty then .unread else .bytes b

/-! ## Fetch, rejection, acceptance -/

/-- A new item of a queue at the present time; its type's row has yet to take it up. -/
def newItem (s : State) (q : QueueId) (d b : List Byte) : Item :=
  let ty := dType d
  { id := ⟨q, (queueOf s q).nextSeq⟩, desc := d, block := b, plan := false, accepted := now s, stage := .accepted,
    taken := ty == 5 || ty == 7 || ty == 8, began := false, waits := 0, replays := 0, error := none, verdict := none,
    dropped := false, todo := [], ended := 0, batch := ty == 1 && isBatch s d, tabled := false, counted := false, spilled := false,
    paired := false, golden := .none, frame := 0, busy := 0, other := 0, busyNs := 0, engine := none }

/-- HEAD and the next SEQ advance past an entry. -/
def advanceHead (s : State) (q : QueueId) : State :=
  let x := queueOf s q
  setQueue s q { x with
    head := BitVec.ofNat 12 ((x.head.toNat + 1) % ringSize x), nextSeq := x.nextSeq + 1, fetched := none, block := [],
    fetchFailed := false }

def addItem (s : State) (x : Item) : State := { s with gh := { s.gh with items := s.gh.items ++ [x] } }

/-- DESCRIPTOR_REJECT (R47): no journal entry; a record waits for its ring position. -/
def rejectEntry (s : State) (q : QueueId) (d : List Byte) (v : Viol) : State :=
  let x := newItem s q d []
  advanceHead (addItem s { x with stage := .rejected, taken := true, verdict := some (v.st, BitVec.ofNat 32 v.det) }) q

/-- The ring entry at HEAD as host memory holds it (R31). -/
def headEntry (s : State) (q : QueueId) : List Byte :=
  let x := queueOf s q
  memReads s.hostMem (x.base.toNat + 64 * x.head.toNat) 64

/-- The Gatehouse can fetch from a queue: it is enabled and has announced entries, acceptance is not held, no
other descriptor is between its fetch and its acceptance (R33, R46, R50, R57, R68, R487, R505). -/
def canFetch (s : State) (q : QueueId) : Bool :=
  let x := queueOf s q
  x.enable && !x.planQueue && !acceptStall s q && x.head != x.subIndex && ghRuns s && queueIssues s q &&
    !s.gh.queues.any (fun e => e.2.fetched.isSome) && !s.gh.items.any (fun y => !y.taken && y.stage == .accepted)

/-- Fetches and checks the entry at HEAD. -/
def fetchEntry (s : State) (q : QueueId) : State :=
  let d := headEntry s q
  if headerHeld s d then s
  else
    let r := namedBlock s d
    match worst (descriptorViols r.1 q d r.2) with
    | some v => rejectEntry r.1 q d v
    | none =>
      let x := queueOf r.1 q
      setQueue r.1 q { x with fetched := some d, block := blockBytes r.2, fetchFailed := false }

/-- DESCRIPTOR_FETCH (R46, R47). -/
def execDescriptorFetch (q : QueueId) (t : Nat) (host : List Host.Cell) (s : State) : Host.Outcome State Fault Refusal :=
  .next (
    let s := hostWrites host (atTime t s)
    if canFetch s q ∧ !(queueOf s q).fetchFailed then fetchEntry s q else s)

/-- DESCRIPTOR_FETCH_RETRY: the fetch that failed on the host bus is tried again, HEAD unchanged (R513). -/
def execDescriptorFetchRetry (q : QueueId) (t : Nat) (host : List Host.Cell) (s : State) : Host.Outcome State Fault Refusal :=
  .next (
    let s := hostWrites host (atTime t s)
    if canFetch s q ∧ (queueOf s q).fetchFailed then fetchEntry s q else s)

/-- The block that the Gatehouse holds at acceptance: the one read at the fetch, or for a RUN that names a batch context only
since then its header now (R250, R253). -/
def heldBlock (s : State) (d b : List Byte) : State × BlockRead :=
  if dType d ≠ 1 then (s, keptBlock b)
  else if !readsHeader s d then (s, .unread)
  else if b.isEmpty then namedBlock s d
  else (s, .bytes b)

/-- DESCRIPTOR_ACCEPT: the journal entry is in every mirror, and the item is accepted (R46, R48, R50), a RUN of its batch
kind from now on (R250). The rules hold at this moment, too: one that a change since the fetch breaks rejects the entry
(R47). -/
def execDescriptorAccept (q : QueueId) (t : Nat) (s : State) : Host.Outcome State Fault Refusal :=
  .next (
    let s := atTime t s
    let x := queueOf s q
    match x.fetched with
    | none => s
    | some d =>
      if s.gh.rebuilding ∨ (kilnsIn s).isEmpty ∨ ringSize x ≤ queueLive s q ∨ !ghRuns s ∨ (x.block.isEmpty ∧ headerHeld s d) then s
      else
        let r := heldBlock s d x.block
        match worst (descriptorViols r.1 q d r.2) with
        | some v => rejectEntry r.1 q d v
        | none =>
          let y := latchWaits r.1 (newItem r.1 q d (blockBytes r.2))
          noteEvent (journalWrite (advanceHead (addItem r.1 y) q) y.id 0 (journalEntry r.1 y)) y 0 0)

/-! ## What acceptance does for a type -/

/-- The accepted item that its type's row takes up. -/
def untaken (s : State) (i : ItemId) (ty : Nat) : Option Item :=
  match findItem s i with
  | some x => if x.taken ∨ x.stage ≠ .accepted ∨ dType x.desc ≠ ty then none else some x
  | none => none

/-- RUN: what acceptance does for a RUN (R38): the shadow quota of the first PAIRED
RUN (R373), the frame count and golden duty (R381, R383). -/
def execRun (i : ItemId) (s : State) : Host.Outcome State Fault Refusal :=
  .next (
    match untaken s i 1 with
    | none => s
    | some x =>
      let c := dCtx x.desc
      let y := { x with taken := true, paired := dPaired x.desc }
      let s1 := if y.paired then modCtx s c (fun k => { k with shadowed := true }) else s
      let s2 := if dGolden x.desc then modCtx s1 c (fun k => { k with frames := k.frames + 1 }) else s1
      let z := { y with
        todo := firstTodo y, golden := if dGolden x.desc then .due else .none,
        frame := if dGolden x.desc then (ctxOf s2 c).frames else 0 }
      modItem s2 i (fun _ => z))

/-- COPY: the accepted item waits for its transfer (R38, R42). -/
def execCopy (i : ItemId) (s : State) : Host.Outcome State Fault Refusal :=
  .next (
    match untaken s i 2 with
    | none => s
    | some _ => modItem s i (fun y => { y with taken := true }))

/-- FUSE_CONFIG: the accepted item keeps the checked block (R275). -/
def execFuseConfig (i : ItemId) (s : State) : Host.Outcome State Fault Refusal :=
  .next (
    match untaken s i 3 with
    | none => s
    | some _ => modItem s i (fun y => { y with taken := true }))

/-- PLAN_CONFIG: the accepted item keeps the checked block (R302); from now on a section 0x01 holds the class of
the queue that it names (R57). -/
def execPlanConfig (i : ItemId) (s : State) : Host.Outcome State Fault Refusal :=
  .next (
    match untaken s i 4 with
    | none => s
    | some _ => modItem s i (fun y => { y with taken := true }))

/-- The context that a creation block describes, LOADING (R43, R61). -/
def createdContext (i : ItemId) (b : List Byte) (old : Context) : Context :=
  { old with
    state := .loading, cls := classOfD (field b 24 1), home := kilnId (field b 25 1), shelves := field b 26 2,
    imageAddr := BitVec.ofNat 48 (field b 0 6), imageLen := field b 8 4, imageCrc := BitVec.ofNat 32 (field b 12 4),
    ttRoot := BitVec.ofNat 48 (field b 16 6), windowMask := BitVec.ofNat 8 (field b 28 1), seedShelf := field b 29 1,
    checkK := BitVec.ofNat 16 (field b 30 2), guarantee := BitVec.ofNat 32 (field b 32 4),
    limit := BitVec.ofNat 32 (field b 36 4), creator := i }

/-- CONTEXT_CREATE: the quota is reserved and the ID reads LOADING (R43, R44, R61). -/
def execContextCreate (i : ItemId) (s : State) : Host.Outcome State Fault Refusal :=
  .next (
    match untaken s i 6 with
    | none => s
    | some x => modItem (setCtx s (dCtx x.desc) (createdContext i x.block (ctxOf s (dCtx x.desc)))) i (fun y => { y with taken := true }))

end Sys2Proof.Machine
end

