-- ==== Sys2Proof/Machine/ContextOps.lean ====
section
/-! DEFINITION. Loading a context (R45, R86, R96, R181 to R186) and tearing one down (R63 to R65, R530). -/

namespace Sys2Proof.Machine

/-! ## Loading (R45, R86, R96, R185, R186) -/

/-- Free shelves available to a class (R89). -/
def freeCount (s : State) (c : Class) : Nat :=
  (((List.range 256).map tileId).filter (tileIn s)).foldl (fun n t => n + (freeShelves s c t).length) 0

/-- Of the tiles of a list, the first with the most free shelves of a class. -/
def mostFree (s : State) (c : Class) (l : List TileId) : Option TileId :=
  l.foldl (fun a t => match a with
    | none => some t
    | some b => if (freeShelves s c b).length < (freeShelves s c t).length then some t else some b) none

/-- The tile on which a context's first shelf is bound (R86). -/
def firstTile (s : State) (x : Context) : Option TileId :=
  let onDie (k : KilnId) : List TileId := ((List.range 64).map (tileOn k)).filter (tileIn s)
  match ((dieScan x.home).filter (kilnIn s)).find? (fun k => (firstFree s x.cls (onDie k)).isSome) with
  | none => none
  | some k => mostFree s x.cls (onDie k)

/-- Binds indexes from `idx` up along a nearest order. -/
def bindRun (c : CtxId) (order : List TileId) : Nat → State → Nat → State
  | 0, s, _ => s
  | n + 1, s, idx =>
    match firstFree s (ctxOf s c).cls order with
    | none => s
    | some p => bindRun c order n (bindAt s c false idx p) (idx + 1)

/-- Binds the footprint of an image (R86); `none` when the class has too few free shelves. -/
def bindFootprint (s : State) (c : CtxId) (n : Nat) : Option State :=
  let x := ctxOf s c
  if freeCount s x.cls < n then none
  else
    match firstTile s x with
    | none => none
    | some t => some (bindRun c (nearest s t) n s 0)

/-- A seed slot as R96 sets it from the image's SEED_INIT. -/
def slotInit (img : List Byte) : List Byte :=
  zeros 8 ++ leBytes 4 0xFFFFFFFF ++ zeros 84 ++ slice img 32 96 ++ zeros 64

/-- Copies the sections and sets the seed slots (R186). -/
def loadImage (s : State) (c : CtxId) (img : List Byte) : State :=
  let loads := (sectionsOf img).filter (fun e => e.memLen != 0)
  let s1 := loads.foldl (fun a e => shelfStore a c false e.addr (slice img e.fileOff e.fileLen)) s
  shelfStore s1 c false ((ctxOf s c).seedShelf * 65536) ((List.range 256).flatMap (fun _ => slotInit img))

/-- The status with which an image fails its checks (R45, R185), with DETAIL. -/
def imageFailure (x : Context) (img : List Byte) : Option (BitVec 16 × Nat) :=
  let crc := imageCrc img
  if (x.cls ≠ .qm ∨ x.imageCrc ≠ 0) ∧ (crc ≠ x.imageCrc ∨ crc.toNat ≠ field img 12 4) then some (stImageCrc, crc.toNat)
  else
    match tileFormat img x.imageLen x.seedShelf with
    | some o => some (stImageFormat, o)
    | none => if x.shelves < imgFootprint img then some (stImageFootprint, imgFootprint img) else none

/-- A LOADING context ends with a status (R45): its CONTEXT-CREATE completes, the quota and the ID are free. -/
def failCreate (s : State) (c : CtxId) (st : BitVec 16) (det : Nat) : State :=
  let i := (ctxOf s c).creator
  closeDestroys (completeItem (dropContext s c) i st (BitVec.ofNat 32 det)) c stOk 0

/-- The Gatehouse's read of the image met an uncorrectable granule (R226): the item is replayed, or fails at the
third error. -/
def imageError (s : State) (c : CtxId) (g : Nat) : State :=
  let i := (ctxOf s c).creator
  let s1 := hardwareError (demandReport (noteUncorrectable s g false) g (some c)) i stMemoryUncorrectable (uncorrectableDetail s g)
  match findItem s1 i with
  | some x => if x.stage = .done then closeDestroys (dropContext s1 c) c stOk 0 else s1
  | none => s1

/-- The image lies in host memory and the function that owns the creator's queue cannot issue (R217, R505). -/
def imageHeld (s : State) (x : Context) : Bool :=
  match placeOf x.imageAddr.toNat with
  | .host _ => !queueIssues s x.creator.queue
  | _ => false

/-- CONTEXT_LOAD: the image of a LOADING context whose item has begun is read, checked and loaded. -/
def execContextLoad (c : CtxId) (t : Nat) (host : List Host.Cell) (s : State) : Host.Outcome State Fault Refusal :=
  .next (
    let s := hostWrites host (atTime t s)
    let x := ctxOf s c
    match findItem s x.creator with
    | none => s
    | some y =>
      if x.state ≠ .loading ∨ !y.began ∨ y.error.isSome ∨ y.verdict.isSome ∨ !ghRuns s ∨ imageHeld s x then s
      else
        match badGranule s x.imageAddr.toNat x.imageLen with
        | some g => imageError s c g
        | none =>
          let img := paReads s x.imageAddr.toNat x.imageLen
          let s := correctGranules s x.imageAddr.toNat x.imageLen
          match imageFailure x img with
          | some e => failCreate s c e.1 e.2
          | none =>
            match bindFootprint s c (imgFootprint img) with
            | none => failCreate s c stNoShelves (freeCount s x.cls)
            | some s1 =>
              let s2 := modCtx (loadImage s1 c img) c (fun k => { k with state := .ready, entries := entriesOf img })
              completeItem s2 x.creator stOk 0)

/-! ## Teardown (R63, R64, R485, R530) -/

/-- A tile holds the context (R63 step 2). -/
def tileHolds (s : State) (c : CtxId) : Bool :=
  s.tl.tiles.any (fun e => e.2.inst.isSome && e.2.ctx == c)

/-- Ends a tile's debug halt at once. -/
def endHalt (x : Tile) : Tile :=
  { x with
    state := if x.state = .halted then .running else x.state,
    dbg := { x.dbg with state := 0, stepping := false, passing := true } }

/-- Resumes every halted tile of a context (R485). -/
def resumeHalted (s : State) (c : CtxId) : State :=
  ((s.tl.tiles.filter (fun e => e.2.ctx == c && e.2.dbg.state != 0)).map (fun e => tileId e.1)).foldl
    (fun a tl => modTile (haltTime a tl) tl endHalt) s

/-- Gives every RUN, COPY and CONTEXT-CREATE of a context its verdict. -/
def closeItems (s : State) (c : CtxId) (st : BitVec 16) (det : Word32) : State :=
  s.gh.items.foldl (fun a x =>
    if itemNames x c ∧ dType x.desc ≠ 7 ∧ itemLive x ∧ x.stage ≠ .done then endItem a x.id st det else a) s

/-- Stops the context's instances that hold no tile. -/
def stopIdle (s : State) (c : CtxId) : State :=
  stopInsts s (s.gh.insts.filter (fun w => itemCtx s w.id.item == c && w.tile.isNone))

/-- Chains and COPY transfers that still hold the ID's tags: the tiles of their engines. -/
def outstanding (s : State) (c : CtxId) : List TileId :=
  (s.tl.chains.filter (fun x => x.ctx == c)).map (fun x => x.tile) ++
    s.gh.items.filterMap (fun x => if itemNames x c then x.engine else none)

/-- Steps 3 and 4 of R63 once the counters read 0: transfers are closed, shelves scrubbed, translations dropped,
blocks freed (R237), the quota released and the ID FREE. -/
def freeContext (s : State) (c : CtxId) : State :=
  let items := (s.gh.items.filter (fun x => itemNames x c && x.engine.isSome)).map (fun x => x.id)
  let s1 := setChains s (s.tl.chains.filter (fun x => x.ctx != c))
  let s2 := items.foldl (fun a i => modItem a i (fun y => { y with engine := none })) s1
  let s3 := (s2.gh.items.filter (fun x => itemNames x c && dType x.desc != 7)).foldl (fun a x => settle a x.id) s2
  let mine (e : Nat × BlockUse) : Bool := match e.2 with
    | .owned o _ => o == c
    | _ => false
  let s4 := (s3.ms.blocks.filter mine).foldl (fun a e => flushRange a e.1 0x20_0000) (flushTlb (releaseAll s3 c) c)
  let s5 := { s4 with
    ms := { s4.ms with blocks := s4.ms.blocks.map (fun e => if mine e then (e.1, .scrubbing) else e) },
    ln := { s4.ln with partnerCtx := s4.ln.partnerCtx.filter (fun o => o != c) } }
  modCtx s5 c freedContext

/-- Every item of the context accepted before a CONTEXT-DESTROY has published (step 1). -/
def earlierDone (s : State) (x : Item) (c : CtxId) : Bool :=
  !s.gh.items.any (fun y => y.id != x.id && itemLive y && itemNames y c && itemBefore y x)

/-- FORCE of a CONTEXT-DESTROY. -/
def destroyForce (d : List Byte) : Bool := bit (field d 16 1) 0

/-- Step 2 of R63: the ID is CLOSING, its items have their verdict, its idle instances stop; running ones stop at
their next yield point, and halted tiles resume. -/
def beginTeardown (s : State) (x : Item) (c : CtxId) : State :=
  let s1 := modCtx (beginItem s x) c (fun k => { k with state := .closing, closer := some x.id })
  let s2 := closeItems (stopIdle (resumeHalted s1 c) c) c stContextClosed 0
  if tileHolds s2 c then s2 else modCtx s2 c (fun k => { k with closing3 := some (now s2) })

/-- CONTEXT_DESTROY: its next step (R63, R530). Run again after step 2, it enters step 3 when no tile holds the
context. -/
def execContextDestroy (i : ItemId) (t : Nat) (s : State) : Host.Outcome State Fault Refusal :=
  .next (
    let s := atTime t s
    match findItem s i with
    | none => s
    | some x =>
      let c := dCtx x.desc
      let k := ctxOf s c
      if dType x.desc ≠ 7 ∨ x.plan ∨ !itemLive x ∨ x.stage = .done ∨ !ghRuns s then s
      else if !x.began ∧ pastDeadline s x then s
      else if k.state = .free then completeItem s i stOk 0
      else if k.state = .closing then
        match k.stalled with
        | some det => completeItem s i stTeardownStalled det
        | none =>
          if k.closer = some i ∧ k.closing3.isNone ∧ !tileHolds s c then
            modCtx s c (fun k => { k with closing3 := some (now s) })
          else s
      else if !mayStart s x then s
      else if destroyForce x.desc then beginTeardown s x c
      else if earlierDone s x c then beginTeardown s x c
      else s)

/-- CONTEXT_DRAIN_DONE: every counter of a CLOSING ID reads 0; the ID becomes FREE and the CONTEXT-DESTROY items
complete. After a stall none completes with ST_OK: one that still waits completes as the teardown did (R63, R64, R530). -/
def execContextDrainDone (c : CtxId) (s : State) : Host.Outcome State Fault Refusal :=
  .next (
    if (ctxOf s c).state ≠ .closing ∨ tileHolds s c ∨ !ghRuns s then s
    else
      match (ctxOf s c).stalled with
      | some det => closeDestroys (freeContext s c) c stTeardownStalled det
      | none => closeDestroys (freeContext s c) c stOk 0)

/-- TEARDOWN_STALL_TIMEOUT: 10 ms into step 3 with tags outstanding (R64): those of chains and COPY transfers, and those that
the units of the given dies hold. The hub die counts as 4 for its PCIe endpoint and Pergola link: DETAIL names the lowest
die. -/
def execTeardownStallTimeout (x : TagHolders) (t : Nat) (s : State) : Host.Outcome State Fault Refusal :=
  .next (
    let s := atTime t s
    let c := x.ctx
    let k := ctxOf s c
    match k.closing3, (x.dies.map (fun d => d.val) ++ (outstanding s c).map (fun tl => (tileDie tl).val)).min? with
    | some b, some d =>
      if k.state ≠ .closing ∨ k.stalled.isSome ∨ now s < b + 10000000 then s
      else
        let det := BitVec.ofNat 32 d
        closeDestroys (modCtx s c (fun k => { k with stalled := some det })) c stTeardownStalled det
    | _, _ => s)

/-- LATE_RESPONSE_DROP: a response for a CLOSING or FREE ID is dropped and counted (R64). -/
def execLateResponseDrop (c : CtxId) (s : State) : Host.Outcome State Fault Refusal :=
  .next (
    let st := (ctxOf s c).state
    if st = .closing ∨ st = .free then { s with gh := { s.gh with lateDrop := satInc s.gh.lateDrop } } else s)

end Sys2Proof.Machine
end

