-- ==== Sys2Proof/Machine/Place.lean ====
section
/-! DEFINITION. Placement (R66 to R70, R94, R373), posting (R105), staging (R102, R533), the switch (R106) and
the expiry of the yield watchdog (R100). -/

namespace Sys2Proof.Machine

/-! ## Ready instances (R66) -/

/-- An instance that could be placed: its item, index, copy, and whether it has started. -/
structure Ready where
  item    : Item
  id      : InstanceId
  started : Bool
  deriving DecidableEq, Repr

/-- An instance is posted to some tile. -/
def isPosted (s : State) (w : InstanceId) : Bool :=
  s.tl.tiles.any (fun e => (e.2.next.map (fun p => p.inst == some w)).getD false)

/-- Slots of a context that are taken: those of its started and unfinished primary copies and golden runs, and that of an
instance or second copy that has ended on a tile until the switch writes SLOT_STATE 0 (R94, R106, R108). -/
def slotsTaken (s : State) (c : CtxId) : List Byte :=
  (s.gh.insts.filter (fun w => itemCtx s w.id.item == c && !w.id.second)).map (fun w => w.slot) ++
    (s.tl.tiles.filter (fun e => e.2.ctx == c && e.2.leaving == some .ended)).map (fun e => e.2.slot)

/-- The lowest free seed slot of a context (R94). -/
def freeSlot (s : State) (c : CtxId) : Option Byte :=
  ((List.range 256).map (BitVec.ofNat 8)).find? (fun b => !(slotsTaken s c).contains b)

/-- The item's context is READY and an open window lets it run. -/
def ctxRuns (s : State) (c : CtxId) : Bool := (ctxOf s c).state == .ready && windowOpenFor s (ctxOf s c)

/-- The item is a RUN that may place instances: no verdict, no error to be replayed, its context may run; a
PAIRED item needs two Kiln dies in service (R379). -/
def itemPlaces (s : State) (x : Item) : Bool :=
  !x.plan && dType x.desc == 1 && x.taken && x.verdict.isNone && x.error.isNone &&
    (x.stage == .accepted || x.stage == .running) && ctxRuns s (dCtx x.desc) &&
    (!x.paired || decide (2 ≤ (kilnsIn s).length))

/-- The first start that an item has to make: its lowest index still to run, once its waits hold and no FENCE
stands ahead (R51), its table step has run (R256), and a slot is free (R94). -/
def nextStart (s : State) (x : Item) : List Ready :=
  if (x.began || mayStart s x) && (!x.batch || x.tabled) && (freeSlot s (dCtx x.desc)).isSome then
    match x.todo with
    | [] => []
    | n :: _ => [⟨x, ⟨x.id, n, false⟩, false⟩]
  else []

/-- Second copies whose primary has started and that have not (R70). -/
def secondStarts (s : State) (x : Item) : List Ready :=
  if !x.paired then []
  else
    (s.gh.insts.filter (fun w => w.id.item == x.id && !w.id.second && !w.golden &&
      (findInst s { w.id with second := true }).isNone)).map (fun w => ⟨x, { w.id with second := true }, false⟩)

/-- Started instances of an item that hold no tile, wait for nothing and are not posted (R66, R104, R376). -/
def idleReady (s : State) (x : Item) : List Ready :=
  (s.gh.insts.filter (fun w => w.id.item == x.id && w.tile.isNone && w.wait == .ready && !w.golden && !w.finished &&
    !w.paired && !isPosted s w.id)).map (fun w => ⟨x, w.id, true⟩)

/-- Every ready instance. -/
def readyAll (s : State) : List Ready :=
  (s.gh.items.filter (itemPlaces s)).flatMap (fun x => idleReady s x ++ secondStarts s x ++ nextStart s x)

/-- Rank of a class: D before B before QM. -/
def classRank : Class → Nat
  | .d => 2
  | .b => 1
  | .qm => 0

/-- Instance `a` ranks ahead of `b` (R66); equal keys go by queue, SEQ, index and copy. -/
def ranksAhead (s : State) (a b : Ready) : Bool :=
  let ra := classRank (ctxOf s (dCtx a.item.desc)).cls
  let rb := classRank (ctxOf s (dCtx b.item.desc)).cls
  if ra ≠ rb then decide (rb < ra)
  else if itemBefore a.item b.item then true
  else if itemBefore b.item a.item then false
  else if a.id.index ≠ b.id.index then decide (a.id.index < b.id.index)
  else !a.id.second && b.id.second

/-- Instances in rank order, highest first. -/
def rankOrder (s : State) (l : List Ready) : List Ready :=
  l.foldl (fun acc r => acc.takeWhile (fun x => ranksAhead s x r) ++ r :: acc.dropWhile (fun x => ranksAhead s x r)) []

/-! ## Tiles for an instance (R67, R69, R70, R382) -/

/-- The tile of a copy's partner: the one that holds it, to which it is posted, or on which it ran last (R70). -/
def partnerTile (s : State) (w : InstanceId) : Option TileId :=
  let p := { w with second := !w.second }
  match (findInst s p).bind (fun i => i.tile) with
  | some tl => some tl
  | none =>
    match s.tl.tiles.find? (fun e => (e.2.next.map (fun n => n.inst == some p)).getD false) with
    | some e => some (tileId e.1)
    | none => (findInst s p).bind (fun i => i.ranOn)

/-- Tiles on which an instance may run, in scan order: reserved ones left out, the tile on which its item met the error that
it is replayed for (R58), and for a copy of a pair the die of its partner. -/
def tilesFor (s : State) (r : Ready) : List TileId :=
  let avoid := if r.item.paired then (partnerTile s r.id).map tileDie else none
  (tileScan s (scanFrom s r.item.desc)).filter (fun tl =>
    tileIn s tl && !(tileOf s tl).testing && !s.bv.reserved.any (fun e => e.2 == tl) && r.item.avoid != some tl &&
      avoid != some (tileDie tl))

/-- A tile is free (R66); a parked die's tiles never are (R438). -/
def tileFree (s : State) (tl : TileId) : Bool :=
  (tileOf s tl).state == .free && (tileOf s tl).next.isNone && !(kilnPower s (tileDie tl)).parked

/-! ## First start (R40, R94, R373, R374) -/

/-- Binds the shadow set and copies the primary's contents into it, for every index not yet in it (R373). -/
def bindShadow (s : State) (c : CtxId) : State :=
  (ctxOf s c).map.foldl (fun a e =>
    if (boundShelf a c true e.1).isSome then a
    else
      match firstFree a (ctxOf a c).cls (shadowScan a e.2) with
      | none => a
      | some q => copyShelf (bindAt a c true e.1 q) e.2 q) s

/-- The uncorrectable word that the copies of R373 would read: the Gatehouse is its requester (R91). -/
def shadowBad (s : State) (c : CtxId) : Option Nat :=
  badIn s (((ctxOf s c).map.filter (fun e => (boundShelf s c true e.1).isNone)).map (fun e => (shelfBase e.2, 65536)))

/-- Writes a first start's slot fields for instance `w`: RESUME_PC, INSTANCE, SEED[0..3], SLOT_STATE 1 (R94, R40). -/
def startSlot (s : State) (w : InstanceId) (c : CtxId) (second : Bool) (slot : Byte) (pc : Word32) (seeds : List Nat) :
    State :=
  let s1 := slotWrite s w c second slot 0 (leBytes 8 pc.toNat)
  let s2 := slotWrite s1 w c second slot 16 (leBytes 4 w.index)
  let s3 := slotWrite s2 w c second slot 64 (seeds.flatMap (leBytes 8))
  slotWrite s3 w c second slot 12 [1]

/-- A first start's slot writes in both sets of a shadowed context, in the primary alone of another (R373); the second copy's
in the shadow set, the primary's being its own (R94). -/
def startSlots (s : State) (w : InstanceId) (c : CtxId) (slot : Byte) (pc : Word32) (seeds : List Nat) : State :=
  if w.second then startSlot s w c true slot pc seeds
  else startSlot (startSlot s w c false slot pc seeds) w c true slot pc seeds

/-- The Gatehouse's slot writes would meet an uncorrectable word that they cover only in part (R91). -/
def slotBad (s : State) (c : CtxId) (second : Bool) (slot : Byte) : Option Nat :=
  match slotAddr s c second slot 0 with
  | none => none
  | some a => (partialWord s (a + 12) 1).or (partialWord s (a + 16) 4)

/-- A new instance record. -/
def newInst (w : InstanceId) (slot : Byte) (golden : Bool) : Inst :=
  { id := w, slot := slot, tile := none, wait := .ready, paired := false, golden := golden, points := 0, issued := 0,
    sigs := Vector.replicate 5 0, results := [], took := 0, finished := false, unsent := [], endSent := false,
    ranOn := none }

def addInst (s : State) (i : Inst) : State := { s with gh := { s.gh with insts := s.gh.insts ++ [i] } }

/-- INSTANCE_FIRST_START: the instance takes a slot and its item has begun (R94, R531). The second copy takes the
primary's slot number in the shadow set. Nothing starts where the item's journal entry cannot be kept (R226). -/
def firstStart (s : State) (r : Ready) : State :=
  let x := r.item
  let c := dCtx x.desc
  let slot := if r.id.second then ((findInst s { r.id with second := false }).map (fun i => i.slot)).getD 0
    else (freeSlot s c).getD 0
  match (if x.paired then shadowBad s c else none) with
  | some pa => hardwareError (shelfBad s pa c) x.id stMemoryUncorrectable (shelfDetail pa)
  | none =>
  let s1 := if x.paired then bindShadow s c else s
  let s2 := if x.began then s1 else beginItem s1 x
  let s3 := if r.id.second then s2 else modItem s2 x.id (fun y => { y with todo := y.todo.drop 1 })
  let pc := (ctxOf s c).entries.getD (field x.desc 24 2) 0
  let seeds := [r.id.index, field x.desc 16 6, field x.desc 22 2, field x.desc 26 2]
  let s4 := addInst s3 (newInst r.id slot false)
  if ((findItem s2 x.id).map (fun y => y.stage == .running && y.verdict.isNone)).getD false then
    match slotBad s4 c r.id.second slot with
    | some pa => hardwareError (shelfBad s4 pa c) x.id stMemoryUncorrectable (shelfDetail pa)
    | none =>
      let s5 := startSlots s4 r.id c slot pc seeds
      if x.began then s5 else noteEvent s5 x 1 0
  else s2

/-- Posts an instance into a tile's TI_NEXT; a free tile then waits for its staging. -/
def postTo (s : State) (tl : TileId) (r : Ready) : State :=
  let s1 := if r.started then s else firstStart s r
  match findInst s1 r.id with
  | none => s1
  | some i =>
    let x := tileOf s1 tl
    let p : Post := { inst := some r.id, ctx := dCtx r.item.desc, slot := i.slot, staged := none }
    setTile s1 tl { x with next := some p, state := if x.state = .free then .waiting else x.state }

/-- The first instance in rank order for which a free tile is found, with that tile. -/
def firstPlace (s : State) : List Ready → Option (Ready × TileId)
  | [] => none
  | r :: l =>
    match (tilesFor s r).find? (tileFree s) with
    | some tl => some (r, tl)
    | none => firstPlace s l

/-- TILE_PLACE (R66, R67): the highest-ranking ready instance that a free tile can take is given it. -/
def execTilePlace (t : Nat) (s : State) : Host.Outcome State Fault Refusal :=
  .next (
    let s := atTime t s
    if !ghRuns s then s
    else
      match firstPlace s (rankOrder s (readyAll s)) with
      | none => s
      | some (r, tl) => postTo s tl r)

/-! ## Posting (R105) -/

/-- A tile whose running instance a post of `r` may displace: it runs, its die is not parked (R438), and a post that it
holds is a VACATE or of an instance that `r` outranks, which then ranks again (DEDUCED, log 136). -/
def displaceable (s : State) (r : Ready) (tl : TileId) : Bool :=
  let x := tileOf s tl
  x.inst.isSome && x.leaving.isNone && !(kilnPower s (tileDie tl)).parked && (x.state == .running || x.state == .halted) &&
    !((x.inst.map (isGolden s)).getD false) &&
    (match x.next with
     | none => true
     | some p =>
       match p.inst with
       | none => true
       | some w =>
         match findItem s w.item with
         | some y => !isGolden s w && ranksAhead s r ⟨y, w, true⟩
         | none => true)

/-- Rank of the instance on a tile by the keys of R66: class of a context with an open window, then acceptance;
one with no open window ranks below all. -/
def runningKey (s : State) (tl : TileId) : Nat × Nat :=
  let x := tileOf s tl
  let acc := ((x.inst.bind (fun w => findItem s w.item)).map (fun y => y.accepted)).getD 0
  if windowOpenFor s (ctxOf s x.ctx) then (classRank (ctxOf s x.ctx).cls + 1, acc) else (0, acc)

/-- A key ranks below another. -/
def keyBelow (a b : Nat × Nat) : Bool := decide (a.1 < b.1) || (a.1 == b.1 && decide (b.2 < a.2))

/-- The displaceable tile that ranks lowest, the last in the list among equals. -/
def lowestTile (s : State) (r : Ready) (l : List TileId) : Option TileId :=
  (l.filter (displaceable s r)).foldl (fun a tl => match a with
    | none => some tl
    | some b => if keyBelow (runningKey s b) (runningKey s tl) then some b else some tl) none

/-- The first ready instance in rank order that no free tile can take and that outranks a running one, with the
tile. -/
def firstPost (s : State) : List Ready → Option (Ready × TileId)
  | [] => none
  | r :: l =>
    let ts := tilesFor s r
    let key := (classRank (ctxOf s (dCtx r.item.desc)).cls + 1, r.item.accepted)
    if ts.any (tileFree s) then firstPost s l
    else
      match lowestTile s r ts with
      | none => firstPost s l
      | some tl => if keyBelow (runningKey s tl) key then some (r, tl) else firstPost s l

/-- POST_INSTANCE (R105). -/
def execPostInstance (t : Nat) (s : State) : Host.Outcome State Fault Refusal :=
  .next (
    let s := atTime t s
    if !ghRuns s then s
    else
      match firstPost s (rankOrder s (readyAll s)) with
      | none => s
      | some (r, tl) => postTo s tl r)

/-! ## Staging and the switch (R102 to R106) -/

/-- STAGING_DONE: the post's slot, weights and code are in the stage; a failure is recorded (R102, R533). -/
def execStagingDone (tl : TileId) (s : State) : Host.Outcome State Fault Refusal :=
  .next (
    let x := tileOf s tl
    match x.next with
    | none => s
    | some p =>
      match p.inst with
      | none => s
      | some w =>
        if p.staged.isSome then s
        else if (findInst s w).isNone then cancelPost s tl
        else
          let s1 := match stageBad s w p.ctx p.slot with
            | some pa => shelfBad (stageNote s w p.ctx p.slot) pa p.ctx
            | none => stageNote s w p.ctx p.slot
          let y := tileOf s1 tl
          let st := stageRead s1 w p.ctx p.slot
          setTile s1 tl { y with next := some { p with staged := some st },
                                 state := if y.state = .waiting then .switching else y.state })

/-- The outgoing side of a switch: steps 1 and 2 of R106. An instance that must stop does not suspend. -/
def switchOut (s : State) (tl : TileId) : State :=
  let x := tileOf s tl
  match x.leaving with
  | none => s
  | some l =>
    match x.inst with
    | none => s
    | some w =>
      let stops := mustStop s x.ctx w
      let out := if stops then Leaving.ended else l
      let s1 := modTile (outgoingWrite s tl x out) tl (fun y => killRegs { y with leaving := none })
      match slotStateBad s x.ctx w.second x.slot with
      | some pa => slotError (modTile (holdOpen s tl w) tl (fun y => killRegs { y with inst := none, leaving := none })) tl w x.ctx pa
      | none =>
      match out with
      | .suspend _ => modInst s1 w (fun i => { i with tile := none })
      | .ended =>
        match findInst s1 w with
        | some i => if i.tile = some tl then settle (delInst s1 w) w.item else s1
        | none => s1

/-- The instance that holds a switched post: it still exists. -/
def switchIn (s : State) (tl : TileId) (p : Post) (w : InstanceId) (st : Staged) (clk : Nat) : State :=
  if (findInst s w).isNone then modTile s tl (fun y => { freeTile y with next := none })
  else
    let s2 := enter s tl w p.ctx p.slot st clk
    if windowOpenFor s2 (ctxOf s2 p.ctx) ∨ isGolden s2 w then s2 else postVacate s2 tl

/-- SWITCH: from a yield point with a staged post, or onto a free tile, to the first issue of the incoming
instance (R106). A window that has closed meanwhile posts VACATE (R105). A tile held for its targeted test takes no
instance before the test has passed (R144). -/
def execSwitch (tl : TileId) (clk : Nat) (t : Nat) (s : State) : Host.Outcome State Fault Refusal :=
  .next (
    let s := atTime t s
    let x := tileOf s tl
    match x.state, x.next with
    | .switching, some p =>
      match x.testing, p.inst, p.staged with
      | false, some w, some st => switchIn (switchOut s tl) tl p w st clk
      | _, _, _ => s
    | _, _ => s)

/-- YIELD_WATCHDOG_EXPIRE: 30,000 clock cycles have passed since the entry's first issue (R99, R100). None pass in a
debug halt. -/
def execYieldWatchdogExpire (tl : TileId) (s : State) : Host.Outcome State Fault Refusal :=
  .next (
    let x := tileOf s tl
    if x.state = .running ∧ x.inst.isSome ∧ x.leaving.isNone ∧ !x.fresh then watchdogExpire s tl else s)

end Sys2Proof.Machine
end

