-- ==== Sys2Proof/Machine/Alloc.lean ====
section
/-! DEFINITION. The block allocator (R235 to R238, R529), the scrub of freed blocks (R237, R428) and the memory
controllers' patrol (R225, R227). -/

namespace Sys2Proof.Machine

def blockBytesN : Nat := 0x20_0000

def allocOf (s : State) (f : Nat) : Alloc := tabGet allocReset s.ms.alloc f

def setAlloc (s : State) (f : Nat) (x : Alloc) : State :=
  { s with ms := { s.ms with alloc := tabPut s.ms.alloc f x } }

/-! ## Fields of TU_ALLOC_CTRL -/

def acCtx (v : Word32) : CtxId := ctxId (bits v.toNat 9 0)
def acClass (v : Word32) : Class := classOfD (bits v.toNat 11 10)
def acHome (v : Word32) : Nat := bits v.toNat 14 12
def acHintValid (v : Word32) : Bool := v.getLsbD 15
def acHint (v : Word32) : Nat := bits v.toNat 18 16
def acCount (v : Word32) : Nat := bits v.toNat 29 20

/-- A write of the register's fields: a reserved encoding keeps its field (R12), reserved bits stay 0. -/
def writeCtrl (old v : Word32) : Word32 :=
  let keep (hi lo : Nat) (bad : Bool) : Nat := (if bad then bits old.toNat hi lo else bits v.toNat hi lo) * 2 ^ lo
  BitVec.ofNat 32 (keep 9 0 false + keep 11 10 (bits v.toNat 11 10 == 3) + keep 14 12 (decide (3 < acHome v)) +
    keep 15 15 false + keep 18 16 (decide (3 < acHint v)) + keep 29 20 false)

/-! ## Placement (R235) -/

/-- Free blocks of a class on a Kiln die, lowest address first. -/
def freeBlocks (s : State) (k : KilnId) (c : Class) : List Nat :=
  if !kilnIn s k then []
  else
    let r := classRange s k.val c
    ((List.range ((r.2 - r.1) / blockBytesN)).map (fun i => dieBase k.val + r.1 + i * blockBytesN)).filter
      (fun pa => !blockBusy s pa)

/-- Level 2's die: HINT_DIE when valid and in service, else the home die. -/
def startDie (s : State) (v : Word32) : KilnId :=
  if acHintValid v ∧ kilnIn s (kilnId (acHint v)) then kilnId (acHint v) else kilnId (acHome v)

/-- Blocks that the partner grants, usable while the pair is up: whole blocks of its LPDDR6 that are not held. -/
def partnerBlocks (s : State) (grants : List Nat) : List Nat :=
  if !s.ln.pairUp then []
  else ((grants.filter (fun g => g % blockBytesN == 0 && decide (g < 0x20_0000_0000))).map (fun g => 0x8000_0000_0000 + g)).eraseDups.filter
    (fun pa => !blockBusy s pa)

/-- Free blocks of a function's host pool, lowest address first. -/
def poolBlocks (s : State) (a : Alloc) : List Nat :=
  let base := bits a.pool.toNat 63 21 * blockBytesN
  (((List.range (bits a.pool.toNat 15 0)).map (fun i => base + i * blockBytesN)).filter
    (fun h => decide (h + blockBytesN ≤ 0x4000_0000_0000))).map (fun h => 0xC000_0000_0000 + h) |>.filter (fun pa => !blockBusy s pa)

/-- The blocks of a request in placement order with their levels. -/
def placement (s : State) (a : Alloc) (v : Word32) (grants : List Nat) : List (Nat × Nat) :=
  let c := acClass v
  let h := startDie s v
  let local' := (freeBlocks s h c).map (fun pa => (pa, 2))
  let others := ((dieScan h).drop 1).flatMap (fun k => (freeBlocks s k c).map (fun pa => (pa, 3)))
  let far := if c = .qm then (partnerBlocks s grants).map (fun pa => (pa, 4)) ++ (poolBlocks s a).map (fun pa => (pa, 5)) else []
  (local' ++ others ++ far).take (acCount v)

/-- Serves a request (R529): its checks, then its blocks are owned. A failed check ends it. -/
def serveAlloc (s : State) (f : Nat) : State :=
  let a := allocOf s f
  let v := a.ctrl
  let k := ctxOf s (acCtx v)
  let finish (r : BitVec 3) : State :=
    setAlloc s f { a with ctrl := v &&& 0x7FFFFFFF, result := r, spilled := 0, placed := [], waiting := false, grants := [] }
  if 512 < acCount v ∨ (f ≠ 0 ∧ (partMap s.part (acClass v)).function.toNat ≠ f) then finish 3
  else if k.state = .closing ∨ (k.state ≠ .free ∧ k.cls ≠ acClass v) then finish 1
  else if acCount v = 0 then finish 0
  else
    let l := placement s a v a.grants
    if l.length < acCount v then finish 2
    else
      let s1 := { s with ms := { s.ms with
        blocks := l.foldl (fun t e => tabPut t e.1 (.owned (acCtx v) e.2)) s.ms.blocks } }
      setAlloc s1 f { a with placed := l, zeroed := 0, waiting := false, grants := [] }

/-- Some function's request is in service. -/
def allocBusy (s : State) : Bool :=
  s.ms.alloc.any (fun e => e.2.ctrl.getLsbD 31 && !e.2.waiting)

/-- Serves the waiting requests in increasing function number until one is in progress (R237). -/
def serveNext : Nat → State → State
  | 0, s => s
  | n + 1, s =>
    if allocBusy s then s
    else
      match s.ms.alloc.find? (fun e => e.2.ctrl.getLsbD 31 && e.2.waiting) with
      | none => s
      | some e => serveNext n (serveAlloc s e.1)

/-- BLOCK_ALLOC: a write of TU_ALLOC_CTRL. With GO it starts a request, which waits while another function's is in
service. -/
def execBlockAlloc (f : FnId) (v : Word32) (grants : List Nat) (s : State) : Host.Outcome State Fault Refusal :=
  .next (
    let a := allocOf s f.val
    if !hostReaches s f ∨ a.ctrl.getLsbD 31 then s
    else
      let w := writeCtrl a.ctrl v
      if !v.getLsbD 31 then setAlloc s f.val { a with ctrl := w }
      else
        let s1 := setAlloc s f.val { a with ctrl := w ||| 0x80000000, placed := [], waiting := true, grants := grants }
        serveNext 1 s1)

/-- Zeroes `n` bytes of a block. -/
def zeroSpan (s : State) (pa n : Nat) : State :=
  match placeOf pa with
  | .partner x => { s with partnerMem := memClear s.partnerMem x (x + n) }
  | .host h => { s with hostMem := memClear s.hostMem h (h + n) }
  | _ => { s with
      mem := memClear s.mem pa (pa + n),
      ms := { s.ms with
        badGranules := s.ms.badGranules.filter (fun g => !wholeGranules pa n g),
        softGranules := s.ms.softGranules.filter (fun g => !wholeGranules pa n g) } }

/-- Zeroes a block (R236, R237). -/
def zeroBlock (s : State) (pa : Nat) : State := zeroSpan s pa blockBytesN

/-- The hub DMA zeroes placed blocks, of which `d` requests of 256 B are done, until its count pauses (R236, R348 to R352):
how many are done then. -/
def zeroPlaced : List (Nat × Nat) → Nat → State → State × Nat
  | [], d, s => (s, d)
  | e :: l, d, s =>
    if 8192 ≤ d then
      match zeroPlaced l (d - 8192) s with
      | (s1, k) => (s1, 8192 + k)
    else
      let n := requestRoom s 0 e.1 256 (8192 - d)
      let s1 := countMaster (zeroSpan s (e.1 + 256 * d) (256 * n)) 0 (256 * n)
      if d + n < 8192 then (s1, d + n)
      else
        match zeroPlaced l 0 s1 with
        | (s2, k) => (s2, 8192 + k)

/-- Entry of the allocation list (R236). -/
def allocEntry (e : Nat × Nat) : List Byte := leBytes 8 (e.1 / blockBytesN * blockBytesN + e.2 * 2 ^ 48)

/-- Frees a block: translations into it are dropped and its scrub starts (R237). -/
def startScrub (s : State) (pa : Nat) : State :=
  let s1 := flushRange s pa blockBytesN
  { s1 with ms := { s1.ms with blocks := tabPut s1.ms.blocks pa .scrubbing } }

/-- Reports the spills of a placed request (R238). -/
def reportSpills (s : State) (f : Nat) (v : Word32) (l : List (Nat × Nat)) : State :=
  let n (k : Nat) : Nat := (l.filter (fun e => e.2 == k)).length
  let s1 := { s with ms := { s.ms with
    spillL3 := satAdd s.ms.spillL3 (n 3), spillL4 := satAdd s.ms.spillL4 (n 4), spillL5 := satAdd s.ms.spillL5 (n 5) } }
  if n 3 + n 4 + n 5 = 0 then s1
  else logEntry s1 0x0020 (leBytes 2 (acCtx v).val ++ leBytes 2 (n 3) ++ leBytes 2 (n 4) ++ leBytes 2 (n 5) ++ leBytes 1 f)

/-- BLOCK_ALLOC_DONE: the blocks are zeroed and listed and GO returns to 0; a failed list write frees them
(R236, R238). Zeroing that the hub DMA's regulator holds up goes on at the next one. -/
def execBlockAllocDone (f : FnId) (listOk : Bool) (t : Nat) (s : State) : Host.Outcome State Fault Refusal :=
  .next (
    let s := atTime t s
    let a := allocOf s f.val
    if !a.ctrl.getLsbD 31 ∨ a.waiting ∨ (listOk ∧ !fnCanIssue s f.val) then s
    else
      let l := a.placed
      let z := zeroPlaced l a.zeroed s
      let s1 := z.1
      let done (r : BitVec 3) (n : Nat) : Alloc :=
        { a with ctrl := a.ctrl &&& 0x7FFFFFFF, result := r, spilled := BitVec.ofNat 10 n, placed := [], zeroed := 0 }
      if z.2 < 8192 * l.length then setAlloc s1 f.val { a with zeroed := z.2 }
      else
      let s2 := if listOk then
          let s2 := { s1 with hostMem := memWrites s1.hostMem (a.list.toNat / 8 * 8) (l.flatMap allocEntry) }
          reportSpills (setAlloc s2 f.val (done 0 (l.filter (fun e => decide (3 ≤ e.2))).length)) f.val a.ctrl l
        else setAlloc (l.foldl (fun b e => startScrub b e.1) s1) f.val (done 4 0)
      serveNext 9 s2)

/-- The block is owned by a context. -/
def ownedBy (s : State) (pa : Nat) (c : CtxId) : Bool :=
  match s.ms.blocks.find? (fun e => e.1 == pa) with
  | some (_, .owned o _) => o == c
  | _ => false

/-- BLOCK_FREE: a write of TU_FREE (R237). -/
def execBlockFree (f : FnId) (v : Word64) (s : State) : Host.Outcome State Fault Refusal :=
  .next (
    let pa := bits v.toNat 47 21 * blockBytesN
    if !hostReaches s f then s
    else if ownedBy s pa (ctxId (bits v.toNat 57 48)) then startScrub s pa
    else setAlloc s f.val { allocOf s f.val with freeErr := true })

/-- BLOCK_SCRUB_DONE: a freed block is zero and free again (R237, R428). -/
def execBlockScrubDone (blk : Nat) (s : State) : Host.Outcome State Fault Refusal :=
  .next (
    if s.ms.blocks.any (fun e => e.1 == blk && e.2 == .scrubbing) then
      let s1 := zeroBlock s blk
      { s1 with ms := { s1.ms with blocks := tabDel s1.ms.blocks blk } }
    else s)

/-- PATROL_READ: the controller reads one granule of its die's present range, in which `symbols` symbols are in error
since the last access (R224). An error in one symbol is corrected, counted and written back (R225); an uncorrectable one
is counted, latched, reported and tested (R227). -/
def execPatrolRead (pa : Addr48) (symbols : Nat) (t : Nat) (s : State) : Host.Outcome State Fault Refusal :=
  .next (
    let s := atTime t s
    let g := pa.toNat / 32 * 32
    let k := g / 0x8_0000_0000
    let ch := channelAt s g
    if !lpddrPresent s g ∨ (channelOf s k ch).state ≠ 0 then s
    else
      let s1 := upsetGranule s g symbols
      if s1.ms.badGranules.contains g then
        let u := unitId k 2 ch
        openReport (startTest (noteUncorrectable s1 g true) u 0 []) k u 0x09 none
      else correctGranules s1 g 32)

end Sys2Proof.Machine
end

