-- ==== Sys2Proof/Machine/Batch.lean ====
section
/-! DEFINITION. Batch items of the sequence models: the batch entry register (R250, R251) and the table step with
its live record (R253 to R262). -/

namespace Sys2Proof.Machine

/-- A write of GH_BATCH_ENTRY (R251): a valid field that names no entry keeps its value and its VALID bit. -/
def batchWrite (old v : Word64) (entries : Nat) : Word64 :=
  BitVec.ofNat 64 (((List.range 4).map (fun n =>
    let e := bits v.toNat (16 * n + 9) (16 * n)
    let valid := bit v.toNat (16 * n + 15)
    let half := if valid && decide (entries ≤ e) then bits old.toNat (16 * n + 15) (16 * n) else e + b2n valid * 32768
    half * 2 ^ (16 * n))).sum)

/-- BATCH_ENTRY_WRITE (R251): ignored while the selected context is not READY. -/
def execBatchEntryWrite (f : FnId) (v : Word64) (s : State) : Host.Outcome State Fault Refusal :=
  .next (
    let c := ctxId s.gh.batchSelect.toNat
    let x := ctxOf s c
    if !pfReaches s f ∨ x.state ≠ .ready then s
    else setCtx s c { x with batch := batchWrite x.batch v x.entries.length })

/-! ## The batch header (R252) -/

def bhCount (b : List Byte) : Nat := field b 0 2
def bhMode (b : List Byte) : Nat := field b 2 1
def bhGroups (b : List Byte) : Nat := field b 3 1
def bhRecent (b : List Byte) : Nat := field b 4 2
def bhTable (b : List Byte) : Nat := field b 8 6
def bhLive (b : List Byte) : Nat := field b 16 4

/-! ## Length table entries (R254, R255) -/

/-- A length table entry. -/
structure SeqEntry where
  length : Nat
  new    : Nat
  nsink  : Nat
  rsvd   : Bool
  npages : Nat
  sinks  : List Nat
  deriving DecidableEq, Repr

def seqEntry (t : List Byte) (e : Nat) : SeqEntry :=
  let o := 32 * e
  { length := field t o 4, new := field t (o + 4) 2, nsink := bits (field t (o + 6) 1) 2 0,
    rsvd := decide (7 < field t (o + 6) 1), npages := field t (o + 8) 4,
    sinks := (List.range 4).map (fun k => field t (o + 12 + 2 * k) 2) }

/-- Blocks of a sequence: ceil(LENGTH / 16). -/
def seqBlocks (x : SeqEntry) : Nat := (x.length + 15) / 16

/-- STATE of an entry by the first row of R255 that applies: 1 skipped, 3 and 2 rejected, 0 live. -/
def seqState (groups : Nat) (x : SeqEntry) : Nat :=
  if x.length = 0 ∨ x.new = 0 then 1
  else if x.rsvd ∨ 1048576 < x.length ∨ 4096 < x.new ∨ 4 < x.nsink ∨ 65536 < x.npages ∨ 65536 < groups * x.npages ∨
      x.length < x.new ∨ (x.sinks.take x.nsink).any (fun k => decide (seqBlocks x ≤ k)) then 3
  else if 16 * x.npages < x.length then 2
  else 0

/-! ## The live record (R261, R262) -/

/-- First block of the recent window (R262). -/
def recentFirst (recent : Nat) (x : SeqEntry) : Nat := if recent < seqBlocks x then seqBlocks x - recent else 0

/-- The sorted, distinct sinks below the recent window. -/
def liveSinks (recent : Nat) (x : SeqEntry) : List Nat :=
  let l := (x.sinks.take x.nsink).filter (fun k => decide (k < recentFirst recent x))
  (l.eraseDups).foldl (fun acc k => acc.takeWhile (fun y => decide (y < k)) ++ k :: acc.dropWhile (fun y => decide (y < k))) []

/-- A PLAN entry. -/
def planEntry (recent : Nat) (x : Option SeqEntry) : List Byte :=
  match x with
  | none => zeros 8 ++ List.replicate 8 0xFF
  | some x =>
    let k := liveSinks recent x
    leBytes 4 (seqBlocks x) ++ leBytes 4 (recentFirst recent x) ++
      (List.range 4).flatMap (fun i => leBytes 2 (k.getD i 0xFFFF))

/-- The live record of a classified table: entries with their states. -/
def liveRecord (count recent : Nat) (l : List (SeqEntry × Nat)) : List Byte :=
  let live := (List.range l.length).filter (fun e => (l[e]?.map (fun p => p.2)) == some 0)
  let newOf (e : Nat) : Nat := (l[e]?.map (fun p => p.1.new)).getD 0
  let n (p : Nat → Bool) : Nat := (l.filter (fun e => p e.2)).length
  let start (e : Nat) : Nat :=
    if live.contains e then ((live.filter (fun k => decide (k < e))).map newOf).sum else 0xFFFFFFFF
  leBytes 2 live.length ++ leBytes 2 (n (fun k => k == 1)) ++ leBytes 2 (n (fun k => k == 2 || k == 3)) ++ [0, 0] ++
    leBytes 4 ((live.map newOf).sum) ++ leBytes 2 count ++ [0, 0] ++
    (List.range 256).flatMap (fun i => leBytes 2 (live.getD i 0xFFFF)) ++
    (List.range 256).flatMap (fun e => leBytes 4 (start e)) ++
    (List.range 256).flatMap (fun e =>
      planEntry recent (if live.contains e then (l[e]?.map (fun p => p.1)) else none)) ++
    zeros 496

/-! ## The table step (R255 to R258) -/

/-- A failed access of the table step (R226, R257). -/
def batchFault (s : State) (c : CtxId) (i : ItemId) (e : VaErr) : State :=
  match e with
  | .fault va r => faultContext (latchTuFault s c va r) c stTranslationFault (BitVec.ofNat 32 va) none (some i)
  | .bad g => hardwareError (demandReport s g (some c)) i stMemoryUncorrectable (uncorrectableDetail s g)
  | .shelf (.unbound a) => faultContext s c stTranslationFault (BitVec.ofNat 32 a) none (some i)
  | .shelf (.bad pa) => hardwareError (shelfBad s pa c) i stMemoryUncorrectable (shelfDetail pa)

/-- Writes the STATE bytes in entry order; those written before a fault stay written. -/
def writeStates (c : CtxId) (table : Nat) : List Nat → State → Nat → State × Except VaErr Unit
  | [], s, _ => (s, .ok ())
  | st :: r, s, e =>
    match gwWrite s c (table + 32 * e + 7) [BitVec.ofNat 8 st] with
    | (s1, .error x) => (s1, .error x)
    | (s1, .ok _) => writeStates c table r s1 (e + 1)

/-- Writes the live record into the context's shelves, both sets where a shadow set exists (R260, R373). -/
def writeLive (s : State) (c : CtxId) (a : Nat) (b : List Byte) : State × Except VaErr Unit :=
  match firstUnbound s c false a b.length with
  | some u => (s, .error (.shelf (.unbound u)))
  | none =>
    let s1 := shelfStore s c false a b
    if (ctxOf s c).shadow.isEmpty then (s1, .ok ())
    else
      match firstUnbound s1 c true a b.length with
      | some u => (s1, .error (.shelf (.unbound u)))
      | none => (shelfStore s1 c true a b, .ok ())

/-- The reject counters count an item once (R256, R260). -/
def countRejects (s : State) (x : Item) (n : Nat) : State :=
  if x.counted then s
  else { s with gh := { s.gh with
    rejectEntries := satAdd s.gh.rejectEntries n, rejectItems := satAdd s.gh.rejectItems (if n = 0 then 0 else 1) } }

/-- What follows the table step: instances to run, or completion (R258). -/
def afterTable (s : State) (x : Item) (live : List Nat) : State :=
  let b := x.block
  let y := { x with tabled := true, counted := true }
  let s1 := modItem s x.id (fun _ => y)
  if live.isEmpty then completeItem (beginItem s1 y) x.id stOk 0
  else if !x.began ∧ dDeadline x.desc ≠ 0 ∧ x.accepted + dDeadline x.desc * 1000 ≤ now s then
    completeItem s1 x.id stDeadlineExpired 0
  else modItem s1 x.id (fun _ => { y with todo := if bhMode b = 0 then live else List.range (field x.desc 26 2) })

/-- Runs the table step of a batch item. -/
def tableStepRun (s : State) (x : Item) : State :=
  let c := dCtx x.desc
  let b := x.block
  let n := bhCount b
  if n = 0 then
    let y := { x with tabled := true }
    completeItem (beginItem (modItem s x.id (fun _ => y)) y) x.id stOk 0
  else
    match gwReads c 8 s (bhTable b) (32 * n) with
    | (s1, .error e) => batchFault s1 c x.id e
    | (s1, .ok t) =>
      let l := (List.range n).map (fun e => (seqEntry t e, seqState (bhGroups b) (seqEntry t e)))
      match writeStates c (bhTable b) (l.map (fun p => p.2)) s1 0 with
      | (s2, .error e) => batchFault s2 c x.id e
      | (s2, .ok _) =>
        match (if x.paired then shadowBad s2 c else none) with
        | some pa => batchFault s2 c x.id (.shelf (.bad pa))
        | none =>
        let s3 := if x.paired then bindShadow s2 c else s2
        match writeLive s3 c (bhLive b) (liveRecord n (bhRecent b) l) with
        | (s4, .error e) => batchFault s4 c x.id e
        | (s4, .ok _) =>
          let rej := (l.filter (fun p => decide (2 ≤ p.2))).length
          afterTable (countRejects s4 x rej) x ((List.range n).filter (fun e => (l[e]?.map (fun p => p.2)) == some 0))

/-- BATCH_TABLE_STEP: once the waits of a batch RUN hold (R255); repeated at each replay (R260). It waits while a host
request of it is held (R505). -/
def execBatchTableStep (i : ItemId) (t : Nat) (host : List Host.Cell) (s : State) : Host.Outcome State Fault Refusal :=
  .next (
    let s := hostWrites host (atTime t s)
    match findItem s i with
    | none => s
    | some x =>
      if !x.batch ∨ !x.taken ∨ x.tabled ∨ x.error.isSome ∨ x.verdict.isSome ∨ !ghRuns s ∨ (ctxOf s (dCtx x.desc)).state ≠ .ready ∨
          field x.desc 26 2 = 0 ∨ gwHeld s (dCtx x.desc) (bhTable x.block) (32 * bhCount x.block) true then s
      else if (x.began ∧ x.stage = .running) ∨ mayStart s x then tableStepRun s x
      else s)

end Sys2Proof.Machine
end

