-- ==== Sys2Proof/Machine/Losses.lean ====
section
/-! DEFINITION. Losing tiles, shelves, channels, modules and dies: the effects of fencing (R92, R243, R244, R336,
R404), of a tile's or a die's loss on work (R49, R58, R60, R101), and the fence list (R394). -/

namespace Sys2Proof.Machine

/-! ## Tiles -/

/-- The transfers on a tile's engine end at once and their items are replayed (R101). -/
def engineLost (s : State) (tl : TileId) : State :=
  let det := BitVec.ofNat 32 (tileDie tl).val
  let one (a : State) (x : Chain) : State :=
    let a1 := dropChain a x
    if x.golden then goldenChainFail a1 x.inst else hardwareError (avoidTile a1 x.inst.item tl) x.inst.item stInputLost det
  let s1 := (s.tl.chains.filter (fun x => x.tile == tl)).foldl one s
  (s1.gh.items.filter (fun y => y.engine == some tl)).foldl (fun a y =>
    hardwareError (avoidTile (modItem a y.id (fun z => { z with engine := none })) y.id tl) y.id stInputLost det) s1

/-- An instance that has ended is on its tile until the switch has written its slot (R108). When the tile is lost before
that, its unpublished item, done by now, runs again: it is replayed (R58). -/
def reopenEnded (s : State) (tl : TileId) : State :=
  let x := tileOf s tl
  match x.leaving, x.inst with
  | some .ended, some w =>
    match findInst s w, findItem s w.item with
    | none, some y =>
      let s1 := if y.stage = .done ∧ y.verdict = some (stOk, 0)
        then modItem s y.id (fun z => { z with stage := .running, verdict := none }) else s
      hardwareError (avoidTile s1 y.id tl) y.id stInputLost (BitVec.ofNat 32 (tileDie tl).val)
    | _, _ => s
  | _, _ => s

/-- A tile is reset, fenced or lost: its instance and transfers go for replay, its post is taken back (R58, R60,
R108). -/
def tileGone (s : State) (tl : TileId) : State :=
  let s1 := tileError (reopenEnded s tl) tl stInputLost (BitVec.ofNat 32 (tileDie tl).val)
  let s2 := engineLost s1 tl
  let s3 := if (tileOf s2 tl).next.isSome then cancelPost s2 tl else s2
  modTile s3 tl (fun x =>
    let y := freeTile x
    { y with next := none, dbg := { y.dbg with state := 0, stepping := false, passing := false, watchHit := none } })

/-- A shelf is fenced: never bound again; the context that held it becomes FAULTED (R92). -/
def fenceShelf (s : State) (phys : Nat) : State :=
  let u := shelfUse s phys
  let s1 := setShelf s phys .fenced
  match u with
  | .bound c _ _ =>
    let st := (ctxOf s1 c).state
    if st = .ready ∨ st = .faulted then faultContext s1 c stMemoryUncorrectable (shelfDetail (shelfBase phys)) none none
    else s1
  | _ => s1

/-- A tile is fenced, and its 160 shelves with it (R92). -/
def fenceTile (s : State) (tl : TileId) : State :=
  let s1 := tileGone s tl
  let s2 := (List.range 160).foldl (fun a l => fenceShelf a (tl.val * 256 + l)) s1
  bumpTopology (modTile s2 tl (fun x => { x with state := .fenced, testing := false }))

/-! ## Contexts that lose a part of their state -/

/-- A context becomes FAULTED and its unpublished RUN and COPY items complete with the status (R60, R243, R416). Only R59
states the latch of GH_FAULT_CTX, while the register speaks of the first faulting context: here a loss does not latch it
(DESIGN CHOICE, log 157). -/
def loseContext (s : State) (st : BitVec 16) (det : Word32) (c : CtxId) : State :=
  let x := ctxOf s c
  let s1 := if x.state = .ready then setCtx s c { x with state := .faulted, firstFault := st } else s
  (stopIdle s1 c).gh.items.foldl (fun a y =>
    if itemWorks y c && itemLive y && y.stage != .done then endItem a y.id st det else a) (stopIdle s1 c)

/-- READY and FAULTED contexts that satisfy a condition. -/
def contextsWhere (s : State) (p : Context → Bool) : List CtxId :=
  (s.gh.contexts.filter (fun e => (e.2.state == .ready || e.2.state == .faulted) && p e.2)).map (fun e => ctxId e.1)

/-- The context has a shelf on a Kiln die, in either set. -/
def shelfOnDie (k : KilnId) (x : Context) : Bool :=
  (x.map ++ x.shadow).any (fun e => e.2 / 0x4000 == k.val)

/-- LOADING contexts whose image lies in a die's LPDDR6 end with ST_INPUT_LOST (R45). Their shelves are bound only
as CONTEXT_LOAD makes them READY. -/
def loadingLost (s : State) (k : KilnId) : State :=
  let lies (x : Context) : Bool := match placeOf x.imageAddr.toNat with
    | .lpddr d _ => d == k
    | _ => false
  ((s.gh.contexts.filter (fun e => e.2.state == .loading && lies e.2)).map (fun e => ctxId e.1)).foldl
    (fun a c => failCreate a c stInputLost k.val) s

/-! ## Memory -/

/-- Every block on a die is freed without scrubbing: owned, lent or being scrubbed (R243, R244). -/
def freeBlocksOn (s : State) (k : KilnId) : State :=
  let on (pa : Nat) : Bool := decide (dieBase k.val ≤ pa) && decide (pa < dieBase k.val + 0x8_0000_0000)
  let s1 := flushRange s (dieBase k.val) 0x8_0000_0000
  { s1 with
    ms := { s1.ms with blocks := s1.ms.blocks.filter (fun e => !on e.1) },
    ln := { s1.ln with lend := s1.ln.lend.filter (fun b => !on b) } }

/-- A die's LPDDR6 contents are lost: it is as memory that nothing has written. -/
def loseMemory (s : State) (k : KilnId) : State :=
  let lo := dieBase k.val
  { s with
    mem := memClear s.mem lo (lo + 0x8_0000_0000),
    ms := { s.ms with
      badGranules := s.ms.badGranules.filter (fun g => decide (g < lo) || decide (lo + 0x8_0000_0000 ≤ g)),
      softGranules := s.ms.softGranules.filter (fun g => decide (g < lo) || decide (lo + 0x8_0000_0000 ≤ g)) } }

/-- The journal mirror on a die is lost and is to be rebuilt (R49). -/
def loseMirror (s : State) (k : KilnId) : State :=
  let keep (m : Option KilnId) : Option KilnId := if m = some k then none else m
  if s.gh.mirrorA = some k ∨ s.gh.mirrorB = some k then
    { s with gh := { s.gh with mirrorA := keep s.gh.mirrorA, mirrorB := keep s.gh.mirrorB, rebuilding := true, single := false } }
  else s

/-- A channel is fenced: its die's memory is remapped over one channel fewer and everything in it is lost (R243). -/
def fenceChannel (s : State) (k : KilnId) (c : Nat) : State :=
  let x := channelOf s k.val c
  let s1 := loadingLost (setChannel s k.val c { x with state := 1 }) k
  let hit := contextsWhere s1 (fun x => x.mask.getLsbD k.val)
  let s2 := hit.foldl (loseContext · stInputLost (BitVec.ofNat 32 k.val)) s1
  bumpTopology (loseMirror (loseMemory (freeBlocksOn s2 k) k) k)

/-! ## Dies -/

/-- What the loss or reset of a Kiln die does to work (R60): the contexts with a shelf or mapped LPDDR6 on it, and the
other items with instances or chains there. -/
def dieWork (s : State) (k : KilnId) : State :=
  let s1 := loadingLost s k
  let hit := contextsWhere s1 (fun x => x.mask.getLsbD k.val || shelfOnDie k x)
  let s2 := hit.foldl (loseContext · stInputLost (BitVec.ofNat 32 k.val)) s1
  ((List.range 64).map (tileOn k)).foldl (fun a tl =>
    let x := tileOf a tl
    if x.state = .fenced then a
    else tileGone a tl) s2

/-- A Kiln die is lost or fenced: its work, its journal mirror, its blocks (R49, R60, R68, R244). It has no share of the
package's power (R30). -/
def kilnGone (s : State) (k : KilnId) (st : DieState) : State :=
  let s1 := noteMirrors (setDie s k.val st) k.val
  bumpTopology (setKilnPower (freeBlocksOn (dieWork s1 k) k) k { kilnPower s k with shareW := 0 })

/-- The Maze die is lost or in reset: the Maze is idle, whatever it was doing ends (R411). -/
def mazeGone (s : State) (st : DieState) : State :=
  let s1 := releaseBank (setDie s 5 st)
  let s2 := { s1 with mz := { s1.mz with
    state := 0, running := false, opened := none, rechecking := false, chain := none, bound := none, region := 0xF,
    slotHeld := none, slotSent := 0, segments := [] } }
  bumpTopology (mazeIdleCause s2)

/-- The Maze die is lost only while its module is not ACTIVE (R410): with the module it is back, unless its clock-loss
detector holds it (R420). -/
def mazeBack (s : State) : State :=
  if dieState s 5 = .lost ∧ (moduleOf s 5 0).state = 5 ∧ !s.rs.clockOut.getLsbD 5 then
    let s1 := setDie s 5 .service
    mazeIdleCause { s1 with mz := { s1.mz with state := if mazeIdle s1 then 0 else 1 } }
  else s

/-- A die leaves service. -/
def dieGone (s : State) (d : DieId) (st : DieState) : State :=
  if d.val = 5 then mazeGone s st
  else if d.val < 4 then kilnGone s (kilnId d.val) st
  else s

/-! ## Modules -/

/-- A module that is down: no width. -/
def downModule (st : BitVec 4) (m : Module) : Module := { m with state := st, width := 0, lanes := 0 }

/-- A module is fenced: it stays down (R404). -/
def fenceModule (s : State) (d i : Nat) : State :=
  bumpTopology (bothEnds s d i (fun m => { downModule 7 m with testing := false }))

/-! ## Fencing a unit (R393, R394) -/

/-- A fence list as bytes: 4 B a unit, its ID, the shelf and a zero byte. The manual gives the list no format (DESIGN CHOICE,
log 167). -/
def fenceBytes (l : List (BitVec 16 × Byte)) : List Byte := l.flatMap (fun e => leBytes 2 e.1.toNat ++ [e.2, 0])

/-- The fence list as applied goes to its range of Keep SRAM (R458). -/
def keepFences (s : State) : State :=
  let l := slice (fenceBytes s.lg.fences) 0 (min 0x1_0000 (4 * s.lg.fences.length))
  { s with mem := memWrites (memClear s.mem 0x6000_101A_0000 0x6000_101B_0000) 0x6000_101A_0000 l }

/-- The fence list's sector of the flash holds the list (R394, R459). -/
def flashFences (s : State) : State :=
  let old := s.lg.flash.filter (fun e => decide (e.1 < 0x3B_0000) || decide (0x3C_0000 ≤ e.1))
  let l := slice (fenceBytes s.lg.fences) 0 (min 0x1_0000 (4 * s.lg.fences.length))
  { s with lg := { s.lg with
      flash := ((List.range l.length).zip l).foldl (fun f e => tabSet 0xFF f (0x3B_0000 + e.1) e.2) old } }

/-- Writes a unit into the fence list, in the flash and in Keep SRAM, and into the log (R394, R458, R459, R476). -/
def listFence (s : State) (u : BitVec 16) (shelf : Byte) : State :=
  let s1 := if s.lg.fences.contains (u, shelf) then s
    else keepFences (flashFences { s with lg := { s.lg with fences := s.lg.fences ++ [(u, shelf)] } })
  logEntry s1 0x0011 (leBytes 2 u.toNat)

/-- Puts a fence on a unit in force. -/
def applyFence (s : State) (u : BitVec 16) (shelf : Byte) : State :=
  let d := unitDie u
  let i := unitIdx u
  match unitKind u with
  | 0 => if d < 4 ∧ i < 64 then fenceTile s (tileOn (kilnId d) i) else s
  | 1 => if d < 4 ∧ i < 64 then bumpTopology (fenceShelf s ((tileOn (kilnId d) i).val * 256 + shelf.toNat)) else s
  | 2 => if d < 4 ∧ i < 8 then fenceChannel s (kilnId d) i else s
  | 3 => if d < 6 then fenceModule s d i else s
  | 5 => { s with mz := { s.mz with fenced0 := s.mz.fenced0 || i == 0, fenced1 := s.mz.fenced1 || i == 1 } }
  | 6 => { s with mz := { s.mz with searchFenced := true } }
  | 11 => bumpTopology { s with ln := { s.ln with pergola := { downModule 7 s.ln.pergola with testing := false } } }
  | _ => s

end Sys2Proof.Machine
end

