-- ==== Sys2Proof/Machine/Islands.lean ====
section
/-! DEFINITION. The Belvedere islands: lockstep, heartbeats, boundary spacing (R357 to R361), causes and their
release (R363, R364), and the CAN frames they receive and repeat (R365 to R367). -/

namespace Sys2Proof.Machine

/-- An island holds a cause. -/
def holdsCause (s : State) (i : Island) (n : Nat) : Bool := (islandOf s i).causes.getLsbD n

/-- Die whose aggregator an island reports to: its own. -/
def islandDie : Island → Nat
  | .a => 4
  | .b => 5

/-- An island's report to its die's aggregator. R395 gives an island no unit ID: the reporter is 0xFFFF, which names
none. The manual does not say what DETAIL holds: a free value (DESIGN CHOICE, log 110). -/
def islandReport (s : State) (i : Island) (cause : Nat) : State :=
  reportFault (drawFree s) (islandDie i)
    ⟨0xFFFF, none, BitVec.ofNat 8 cause, none, 0, BitVec.ofNat 32 (freeValue s), false⟩

/-- An island restarts its firmware: frames and heartbeats count anew; its causes and records stay (R357, R358,
R401). -/
def restartIsland (s : State) (i : Island) : State :=
  setIsland s i { islandOf s i with alive := [], clean := 0, spacing := none }

/-- LOCKSTEP_MISMATCH (R358). -/
def execLockstepMismatch (isl : Island) (s : State) : Host.Outcome State Fault Refusal :=
  .next (if (islandOf s isl).inReset then s else raiseCause (restartIsland s isl) isl causeLockstep)

/-- ISLAND_RESET: the level of the reset input, which resets that island alone (R357). While it is low the island does
nothing and core reset drives its SAFE0_N low (R358). -/
def execIslandReset (x : ResetLevel) (s : State) : Host.Outcome State Fault Refusal :=
  .next (
    let s1 := restartIsland s x.isl
    setIsland s1 x.isl { islandOf s1 x.isl with inReset := x.low })

/-- The other island. -/
def peerOf : Island → Island
  | .a => .b
  | .b => .a

/-- ISLAND_HEARTBEAT: PEER_LOST clears after 1 ms of heartbeats, one every 10 µs, without a miss (R359). After a
missed one the count starts again. -/
def execIslandHeartbeat (x : PeerHeartbeat) (s : State) : Host.Outcome State Fault Refusal :=
  .next (
    let y := islandOf s x.isl
    if y.inReset ∨ (islandOf s (peerOf x.isl)).inReset then s
    else
      let n := if x.missed then 1 else min 100 (y.clean + 1)
      let s1 := setIsland s x.isl { y with clean := n }
      if n = 100 then clearCause s1 x.isl causePeerLost else s1)

/-- PEER_HEARTBEAT_LOSS: three heartbeats in a row have not come (R359). -/
def execPeerHeartbeatLoss (isl : Island) (s : State) : Host.Outcome State Fault Refusal :=
  .next (
    if (islandOf s isl).inReset then s
    else
      let s1 := raiseCause (setIsland s isl { islandOf s isl with clean := 0 }) isl causePeerLost
      let s2 := if isl = .b then raiseCause s1 .b causeHubLost else s1
      if holdsCause s isl causePeerLost then s2 else islandReport s2 isl 0x15)

/-- A boundary spacing in ns lies out of an island's limits (R360). -/
def spacingOdd (trimmed : Bool) (ns : Nat) : Bool :=
  if trimmed then decide (ns < 970000) || decide (1030000 < ns) else decide (ns < 930000) || decide (1070000 < ns)

/-- BOUNDARY_TIMEOUT: an island's measure, with its own oscillator, of the spacing of two consecutive boundaries, or no
boundary for as long as its upper limit; suspended in S3 and S4, and up to the second boundary after the return (R360, R445). -/
def execBoundaryTimeout (isl : Island) (spacing : BoundarySpacing) (s : State) : Host.Outcome State Fault Refusal :=
  .next (
    let x := islandOf s isl
    if 3 ≤ s.pw.sleepState.toNat ∨ s.bv.lastBoundary.isNone ∨ 0 < s.bv.resuming ∨ x.inReset then s
    else
      let n := match spacing with
        | .measured ns => some ns
        | .missing => none
      let s1 := setIsland s isl { x with spacing := n }
      if !(n.map (spacingOdd x.trimmed)).getD true then s1
      else
        let s2 := raiseCause s1 isl causeBoundary
        if holdsCause s isl causeBoundary then s2 else islandReport s2 isl 0x18)

/-- GATEHOUSE_HEARTBEAT: Belvedere A receives it; a latched DEVICE stays until its release (R361, R363). -/
def execGatehouseHeartbeat (s : State) : Host.Outcome State Fault Refusal := .next s

/-- Belvedere A judges the Gatehouse heartbeat: in S0, from 300 µs after a return's end on (R445). -/
def judgesHeartbeat (s : State) : Bool :=
  s.pw.sleepState == 0 && s.pw.returnedAt.all (fun t => decide (t + 300000 ≤ now s))

/-- GATEHOUSE_HEARTBEAT_LOSS: none for 300 µs; suspended in S1 to S4 and after a return (R361, R445). -/
def execGatehouseHeartbeatLoss (s : State) : Host.Outcome State Fault Refusal :=
  .next (if !judgesHeartbeat s ∨ s.bv.a.inReset then s else raiseCause s .a causeDevice)

/-- Belvedere B sends held-stop frames of its own time: A holds DEVICE, B holds HUB_LOST, or the device has tripped
(R361, R456). -/
def heldFrames (s : State) : Bool := holdsCause s .a causeDevice || holdsCause s .b causeHubLost || s.rs.tripped

/-- HELD_STOP_FRAME: KIND, HAZARD, STOP_INDEX and STOP of the held stop; CYCLE, LENGTH and EPOCH of the latest commit
received (R366). -/
def execHeldStopFrame (s : State) : Host.Outcome State Fault Refusal :=
  .next (
    if !heldFrames s ∨ s.bv.b.inReset then s
    else
      let h := heldStop s
      let c := s.bv.commit.getD (zeros 28)
      resultFrame s (slice c 0 4 ++ leBytes 1 h.1 ++ leBytes 1 (if h.2.1 then 16 else 0) ++ leBytes 1 h.2.2.1 ++ [0] ++
        slice h.2.2.2 0 10 ++ slice c 18 1 ++ [0] ++ slice c 20 4 ++ zeros 4))

/-- The latched causes that a release clears: WINDOW, LOCKSTEP, BOUNDARY, EXTERNAL, THERMAL, HUB_LOST, DEVICE. -/
def releasedCauses : BitVec 16 := 0x0C3E

/-- Clears the latched causes of an island, other than START_UP. One in reset does nothing. -/
def releaseIsland (s : State) (i : Island) : State :=
  let x := islandOf s i
  if x.inReset then s
  else setIsland s i { x with causes := x.causes &&& ~~~ releasedCauses }

/-- SAFE_RELEASE: a write of BV_SAFE_RELEASE (R364, R387). -/
def execSafeRelease (f : FnId) (v : Word32) (s : State) : Host.Outcome State Fault Refusal :=
  .next (
    if !hostReaches s f then s
    else if f.val ≠ 0 ∨ bits v.toNat 15 0 ≠ 0xA5C3 then
      { s with bv := { s.bv with releaseReject := satInc s.bv.releaseReject } }
    else
      let s1 := if v.getLsbD 16 then releaseIsland s .a else s
      let s2 := if v.getLsbD 17 then releaseIsland s1 .b else s1
      if v.getLsbD 18 && s.bv.inject.getLsbD 0 then clearCause (clearCause s2 .a causeStartUp) .b causeStartUp else s2)

/-- STOP_REQUEST_FRAME: a frame on STOP_ID reaches an island whose controllers are enabled and on the bus (R365,
R367). -/
def execStopRequestFrame (isl : Island) (ident : BitVec 29) (data : List Byte) (s : State) :
    Host.Outcome State Fault Refusal :=
  .next (
    match canOn s isl with
    | none => s
    | some c =>
      if !canSends s isl ∨ ident.toNat ≠ c.stop.toNat then s
      else if 2 ≤ data.length ∧ field data 0 2 = 0x5AA5 then
        let s1 := raiseCause s isl causeExternal
        if holdsCause s isl causeExternal then s1 else islandReport s1 isl 0x17
      else { s with bv := { s.bv with stopReject := satInc s.bv.stopReject } })

/-- CAN_BUS_OFF: a controller enters or leaves bus-off; no cause follows (R365). -/
def execCanBusOff (ctl : Fin 4) (off : Bool) (s : State) : Host.Outcome State Fault Refusal :=
  .next (
    let m := BitVec.ofNat 4 (2 ^ ctl.val)
    { s with bv := { s.bv with busOff := if off then s.bv.busOff ||| m else s.bv.busOff &&& ~~~ m } })

/-- Raises a cause that holds while a condition lasts, and reports its beginning. -/
def raiseWhile (s : State) (i : Island) (n cause : Nat) : State :=
  let s1 := raiseCause s i n
  if holdsCause s i n then s1 else islandReport s1 i cause

/-- Notes a supply rail as out of its range. -/
def noteRail (s : State) (r : Rail) : State :=
  if s.rs.railsOut.contains r then s else { s with rs := { s.rs with railsOut := r :: s.rs.railsOut } }

/-- ISLAND_SUPPLY_FAULT: its supply out of range for 5 µs (R363); the cause holds until RAIL_RESTORED of that rail. -/
def execIslandSupplyFault (isl : Island) (s : State) : Host.Outcome State Fault Refusal :=
  .next (raiseWhile (noteRail s (.island isl)) isl causeSupply 0x16)

/-- ISLAND_OSCILLATOR_FAULT: its oscillator more than 10 % off for 20 µs (R363). -/
def execIslandOscillatorFault (isl : Island) (s : State) : Host.Outcome State Fault Refusal :=
  .next (raiseWhile s isl causeOscillator 0x16)

/-- ISLAND_OSCILLATOR_RESTORED (R363). -/
def execIslandOscillatorRestored (isl : Island) (s : State) : Host.Outcome State Fault Refusal :=
  .next (clearCause s isl causeOscillator)

end Sys2Proof.Machine
end

