-- ==== Sys2Proof/Machine/Watch.lean ====
section
/-! DEFINITION. The window watchdogs: completions, deadlines and timing faults (R368 to R372). -/

namespace Sys2Proof.Machine

/-- The island that watches a window's stage: B for Maze and publication windows. -/
def watchIsland (s : State) (w : WindowId) : Island :=
  if s.part.schedule[w].kind = 3 ∨ s.part.schedule[w].kind = 4 then .b else .a

/-- An item's SIGNAL list names a sync object. -/
def signalsTo (x : Item) (sync : Nat) : Bool :=
  !x.plan && (List.range (dNSignal x.desc)).any (fun k => dSignal x.desc k == sync)

/-- Gives one item of a late stage ST_TIMING_FAULT (R372): a done item's record is replaced; instances that hold no
tile stop at once, the others at their next yield point. -/
def timeItem (s : State) (w : WindowId) (x : Item) : State :=
  let det := BitVec.ofNat 32 w.val
  let y := { x with verdict := some (stTimingFault, det), error := none, todo := [] }
  if x.stage = .done then
    journalWrite (modItem s x.id (fun _ => y)) x.id 72 (recordBytes (queueOf s x.id.queue) y stTimingFault det (now s))
  else
    let s1 := if dType x.desc = 6 ∧ (ctxOf s (dCtx x.desc)).state = .loading then dropContext s (dCtx x.desc) else s
    let s2 := stopInsts s1 ((itemInsts s1 x.id).filter (fun i => i.tile.isNone && !i.golden))
    let s3 := modItem s2 x.id (fun _ => y)
    if dType x.desc = 1 ∨ dType x.desc = 2 then settle s3 x.id else completeItem s3 x.id stTimingFault det

/-- The items of a late tile stage. -/
def lateItems (s : State) (w : WindowId) : State :=
  let hit (x : Item) : Bool := itemLive x && (queueOf s x.id.queue).cls == s.part.schedule[w].cls &&
    signalsTo x s.bv.wd[w].sync.toNat
  (s.gh.items.filter hit).foldl (fun a x => timeItem a w x) s

/-- TIMING_FAULT (R371, R372): WINDOW, the EARLY or LATE bit, a report, and the fixed result of the cycle; `fix` is
false when the stage belongs to the cycle before. -/
def timingFault (s : State) (w : WindowId) (early fix : Bool) : State :=
  let m := BitVec.ofNat 8 (2 ^ w.val)
  let i := watchIsland s w
  let s1 := { s with bv := { s.bv with
    wdEarly := if early then s.bv.wdEarly ||| m else s.bv.wdEarly,
    wdLate := if early then s.bv.wdLate else s.bv.wdLate ||| m,
    wdCount := satInc s.bv.wdCount } }
  let s2 := islandReport (raiseCause s1 i causeWindow) i (if early then 0x0D else 0x0E)
  let s3 := if fix then fixResult s2 else s2
  if !early && s3.part.schedule[w].kind == 1 then lateItems s3 w else s3

def setJudged (s : State) (w : WindowId) : State :=
  { s with bv := { s.bv with judged := s.bv.judged ||| BitVec.ofNat 8 (2 ^ w.val) } }

def clearOwed (s : State) (w : WindowId) : State :=
  { s with bv := { s.bv with owed := s.bv.owed &&& ~~~ (BitVec.ofNat 8 (2 ^ w.val)) } }

/-- The Sundial time by which the watchdog judges an event of the queue (window, stamp, die): its stamp, or for a die whose
replica is not SYNC its arrival, within 200 ns of it (R370). -/
def judgedStamp (s : State) (e : WindowId × Nat × Nat) : Nat :=
  if e.2.2 = 4 ∨ replicaOf s e.2.2 = .sync then e.2.1 else min (now s) (e.2.1 + 200)

/-- A completion event with its stamp reaches the watchdog. The first of a cycle is judged; one stamped after WD_CLOSE_US is
left to the deadline (R369, R370). One of the cycle before that was stamped in time may arrive after the boundary. -/
def judgeStage (s : State) (w : WindowId) (b stamp : Nat) : State :=
  let e := s.bv.wd[w]
  if stamp < b then
    if s.bv.owed.getLsbD w.val && decide (b ≤ stamp + 1000000) then
      let s1 := clearOwed s w
      if stamp + 1000000 < b + e.openUs * 1000 then timingFault s1 w true false else s1
    else s
  else if !watched s w || s.bv.judged.getLsbD w.val || decide (b + e.closeUs * 1000 < stamp) then s
  else
    let s1 := setJudged s w
    if stamp < b + e.openUs * 1000 then timingFault s1 w true true else s1

/-- The watchdog of a window takes its earliest event, one of a later cycle not before its boundary. An island in reset
judges nothing. -/
def takeStage (s : State) (w : WindowId) : State :=
  match s.bv.stages.find? (fun e => e.1 == w), s.bv.lastBoundary with
  | some e, some b =>
    let stamp := judgedStamp s e
    if b + 1000000 ≤ stamp then s
    else
      let s1 := { s with bv := { s.bv with stages := s.bv.stages.erase e } }
      if (islandOf s (watchIsland s w)).inReset then s1 else judgeStage s1 w b stamp
  | _, _ => s

/-- The watchdog of a window takes every event that waits for it. -/
def takeStages (s : State) (w : WindowId) : State :=
  (s.bv.stages.filter (fun e => e.1 == w)).foldl (fun a _ => takeStage a w) s

/-- WATCHDOG_COMPLETION: the earliest completion event of the window's stage that the watchdog has not taken reaches it
(R369, R370); with none nothing happens. -/
def execWatchdogCompletion (w : WindowId) (t : Nat) (s : State) : Host.Outcome State Fault Refusal :=
  .next (takeStage (atTime t s) w)

/-- WATCHDOG_DEADLINE: 200 ns after WD_CLOSE_US with no completion stamped in time; every event stamped in time has arrived
by then (R370). -/
def execWatchdogDeadline (w : WindowId) (t : Nat) (s : State) : Host.Outcome State Fault Refusal :=
  .next (
    let s := atTime t s
    match s.bv.lastBoundary with
    | none => s
    | some b =>
      let late := s.bv.wd[w].closeUs * 1000 + 200
      let s1 := takeStages s w
      if (islandOf s (watchIsland s w)).inReset then s
      else if s.bv.owed.getLsbD w.val then
        if now s + 1000000 < b + late then s
        else if s1.bv.owed.getLsbD w.val then timingFault (clearOwed s1 w) w false false
        else s1
      else if decide (now s < b + late) then s
      else if !watched s1 w || s1.bv.judged.getLsbD w.val then s1
      else timingFault (setJudged s1 w) w false true)

end Sys2Proof.Machine
end

