-- ==== Sys2Proof/Machine/Pair.lean ====
section
/-! DEFINITION. The pair comparator (R376 to R379) and golden runs (R382 to R385). -/

namespace Sys2Proof.Machine

/-! ## The pair comparator -/

/-- The next signature that a copy has to send: a yield point's, or its last at `end` once every chain of the
instance has ended (R376). -/
def nextSignature (s : State) (i : Inst) : Option (Nat × Word64) :=
  match i.unsent with
  | e :: _ => some e
  | [] => if i.finished && !i.endSent && (chainsOf s i.id).isEmpty then some (i.points, tileSignature i true) else none

/-- A copy's signature has been sent. -/
def sentOne (i : Inst) : Inst :=
  match i.unsent with
  | _ :: r => { i with unsent := r }
  | [] => { i with endSent := true }

/-- Releases the held effects of a primary copy (R378). -/
def releaseHeld (s : State) (p : InstanceId) : State :=
  let out := s.bv.held.filter (fun h => h.inst == p)
  let s1 := { s with bv := { s.bv with held := s.bv.held.filter (fun h => h.inst != p) } }
  out.foldl (fun a h => sendSync a h.op) s1

/-- A comparison at a point has passed: held effects go out, the copies rank again, and after `end` the instance has
ended (R376, R378). -/
def pairPass (s : State) (w : InstanceId) (point : Nat) : State :=
  let p := { w with second := false }
  let q := { w with second := true }
  let s1 := { s with bv := { s.bv with pairChecked := satInc s.bv.pairChecked } }
  let again (i : Inst) : Inst := if i.points = point then { i with paired := false } else i
  let s2 := modInst (modInst (releaseHeld s1 p) p again) q again
  match findInst s2 p, findInst s2 q with
  | some a, some b => if a.endSent && b.endSent && a.points == point then retire (delInst s2 q) p else s2
  | _, _ => s2

/-- The tile number of a copy: the one it ran on last. -/
def copyTile (s : State) (w : InstanceId) : Option TileId := (findInst s w).bind (fun i => i.ranOn)

/-- Adds a pair failure to BV_PAIR. -/
def notePair (b : Belvedere) (timeout : Bool) (p q : Byte) : Belvedere :=
  { b with
    pairMismatch := if timeout then b.pairMismatch else satInc b.pairMismatch,
    pairTimeout := if timeout then satInc b.pairTimeout else b.pairTimeout,
    pairPrimary := p, pairSecond := q, pairValid := true }

/-- A comparison has failed (R379): the item ends for replay, both tiles are tested, the comparator reports. A copy
that has held no tile has no tile number: a free value stands for it (DESIGN CHOICE, log 113). -/
def pairFail (s : State) (w : InstanceId) (timeout : Bool) : State :=
  let p := copyTile s { w with second := false }
  let q := copyTile s { w with second := true }
  let s0 := if p.isNone || q.isNone then drawFree s else s
  let no (x : Option TileId) : Nat := match x with
    | some tl => tl.val
    | none => freeValue s % 256
  let det := BitVec.ofNat 32 (no p + 256 * no q + (if timeout then 65536 else 0))
  let s1 := { s0 with bv := notePair s0.bv timeout (BitVec.ofNat 8 (no p)) (BitVec.ofNat 8 (no q)) }
  let s1 := match p with
    | some tl => avoidTile s1 w.item tl
    | none => s1
  let s2 := hardwareError s1 w.item stPairMismatch det
  let test (a : State) (x : Option TileId) : State := match x with
    | some tl => startTest a (tileUnit tl) 0 []
    | none => a
  selfReport (test (test s2 p) q) 4 (unitId 4 13 0) (if timeout then 4 else 3) (some (itemCtx s w.item)) stPairMismatch det

/-- PAIR_SIGNATURE: a copy's next signature arrives at the comparator, and is compared when it is the second of its
point (R376, R377). -/
def execPairSignature (w : InstanceId) (t : Nat) (s : State) : Host.Outcome State Fault Refusal :=
  .next (
    let s := atTime t s
    match findInst s w with
    | none => s
    | some i =>
      if i.golden ∨ !((findItem s w.item).map (fun x => x.paired)).getD false then s
      else
        match nextSignature s i with
        | none => s
        | some (n, sig) =>
          let s1 := modInst s w sentOne
          let other (e : PairPoint) : Bool := e.inst == { w with second := !w.second } && e.point == n
          match s1.bv.points.find? other with
          | none => { s1 with bv := { s1.bv with points := s1.bv.points ++ [⟨w, n, sig, now s1⟩] } }
          | some e =>
            let s2 := { s1 with bv := { s1.bv with points := s1.bv.points.filter (fun y => !other y) } }
            if e.time + 50000 < now s2 then pairFail s2 w true
            else if e.sig = sig then pairPass s2 w n
            else pairFail s2 w false)

/-- PAIR_TIMEOUT: a point's second signature has not come 50 µs after its first (R377). -/
def execPairTimeout (i : ItemId) (n : Nat) (t : Nat) (s : State) : Host.Outcome State Fault Refusal :=
  .next (
    let s := atTime t s
    match s.bv.points.find? (fun e => e.inst.item == i && e.inst.index == n && decide (e.time + 50000 ≤ now s)) with
    | none => s
    | some e => pairFail s e.inst true)

/-! ## Golden tiles (R382) -/

/-- The yield interval bound and the switch bound at a level, 30,300 clock cycles, in ns rounded up. -/
def leadNs (level : Nat) : Nat := (30300 * periodUnits level + 107) / 108

/-- Tiles that a golden window reserves on a die: those in service with the highest local indexes. -/
def reserveTiles (s : State) (k : KilnId) (n : Nat) : List TileId :=
  if kilnIn s k then ((((List.range 64).reverse.map (tileOn k)).filter (tileIn s)).take n) else []

/-- The window opens within a lead time of a die, or is open. -/
def leadRuns (s : State) (w : Window) (k : KilnId) : Bool :=
  let p := now s % 1000000
  let lead := leadNs (kilnPower s k).level.toNat
  decide (w.openUs * 1000 ≤ p + lead) && decide (p < w.closeUs * 1000) ||
    decide (w.openUs * 1000 + 1000000 ≤ p + lead)

/-- GOLDEN_RESERVE: from a lead time before the window opens its tiles are reserved, and those that hold another
instance get VACATE. -/
def execGoldenReserve (w : WindowId) (t : Nat) (s : State) : Host.Outcome State Fault Refusal :=
  .next (
    let s := atTime t s
    let x := s.part.schedule[w]
    if x.kind ≠ 5 ∨ !ghRuns s then s
    else
      let tiles := (kilns.filter (leadRuns s x)).flatMap (fun k => reserveTiles s k x.reserve)
      let fresh := tiles.filter (fun tl => !s.bv.reserved.any (fun e => e.1 == w && e.2 == tl))
      let s1 := { s with bv := { s.bv with reserved := s.bv.reserved ++ fresh.map (fun tl => (w, tl)) } }
      fresh.foldl reserveTile s1)

/-! ## Golden runs (R383) -/

/-- The golden table's entry for a context. -/
def goldenEntry (s : State) (c : CtxId) : Option GoldenEntry := s.bv.golden.find? (fun e => e.ctx == c)

/-- Patch length of an entry. -/
def patchLen (e : GoldenEntry) : Nat := 4096 * e.elem

/-- An entry's patch in the golden area (R380). -/
def patchBytes (s : State) (e : GoldenEntry) : List Byte :=
  memReads s.mem (goldenArea + 1024 + 16384 * e.slot) (patchLen e)

/-- The opening instant of a window that is open now. -/
def openedAt (s : State) (w : WindowId) : Nat := now s / 1000000 * 1000000 + s.part.schedule[w].openUs * 1000

/-- The window's reserved tile that a golden run takes: the first free one in scan order from the home die. -/
def goldenTile (s : State) (w : WindowId) (h : KilnId) : Option TileId :=
  (tileScan s h).find? (fun tl => s.bv.reserved.any (fun e => e.1 == w && e.2 == tl) && tileIn s tl && tileFree s tl &&
    !(tileOf s tl).testing)

/-- Seeds of a golden instance. -/
def goldenSeeds (e : GoldenEntry) : List Nat := [0, e.shelf * 65536, patchLen e, 1]

/-- Starts the golden run of an item on a tile: the patch at GOLDEN_SHELF and the seed slot in both sets (R373), the post.
A slot write that meets an uncorrectable word in part is a fault of the run (R91, R384). -/
def startGolden (s : State) (x : Item) (w : WindowId) (e : GoldenEntry) (slot : Byte) (tl : TileId) : State :=
  let c := e.ctx
  let g : InstanceId := ⟨x.id, 0xFFFF, false⟩
  match (slotBad s c false slot).or (slotBad s c true slot) with
  | some pa => goldenFail (shelfBad s pa c) (newInst g slot true)
  | none =>
    let s1 := shelfStore s c false (e.shelf * 65536) (patchBytes s e)
    let s2 := if (ctxOf s1 c).shadow.isEmpty then s1 else shelfStore s1 c true (e.shelf * 65536) (patchBytes s e)
    let pc := (ctxOf s2 c).entries.getD e.entry 0
    let s3 := addInst (startSlots s2 g c slot pc (goldenSeeds e)) (newInst g slot true)
    let s4 := modItem s3 x.id (fun y => { y with golden := .running w })
    modTile s4 tl (fun y => { y with next := some ⟨some g, c, slot, none⟩, state := .waiting })

/-- Posts an idle golden instance again after a yield or a switch abandoned. -/
def resumeGolden (s : State) (i : Inst) (c : CtxId) (tl : TileId) : State :=
  modTile s tl (fun y => { y with next := some ⟨some i.id, c, i.slot, none⟩, state := .waiting })

/-- GOLDEN_RUN: in an open golden window of its context's class that opened after its acceptance, a GOLDEN item's run
starts on a reserved tile (R383). -/
def execGoldenRun (i : ItemId) (w : WindowId) (t : Nat) (s : State) : Host.Outcome State Fault Refusal :=
  .next (
    let s := atTime t s
    let win := s.part.schedule[w]
    match findItem s i with
    | none => s
    | some x =>
      let c := dCtx x.desc
      let k := ctxOf s c
      if win.kind ≠ 5 ∨ !s.part.openMask.getLsbD w.val ∨ win.cls ≠ k.cls ∨ k.state ≠ .ready ∨ !ghRuns s then s
      else
        match x.golden, goldenEntry s c, goldenTile s w k.home with
        | .due, some e, some tl =>
          if openedAt s w ≤ x.accepted then s
          else
            match freeSlot s c with
            | none => s
            | some slot => startGolden s x w e slot tl
        | .running v, some _, some tl =>
          match (itemInsts s i).find? (fun y => y.golden && y.tile.isNone && y.wait == .ready && !y.finished &&
              !isPosted s y.id) with
          | some y => if v = w then resumeGolden s y c tl else s
          | none => s
        | _, _, _ => s)

end Sys2Proof.Machine
end

