-- ==== Sys2Proof/Machine/SelfTest.lean ====
section
/-! DEFINITION. The start-up comparator test (R386, R387), periodic self-test (R388 to R391), the ends of targeted
tests (R393, R394, R399), and fault reports and epochs (R396, R397). -/

namespace Sys2Proof.Machine

/-! ## The start-up test -/

/-- What a step of R386 injects into one aggregator: the CAUSE code, where R398 has one, the units that report, how many
reports they make. -/
structure Injection where
  cause   : Option Byte
  units   : List (BitVec 16)
  reports : Nat
  deriving DecidableEq, Repr

/-- Injected reports of a step make one record of an aggregator, and count nowhere else (R386). The manual does not say how
a step's reports fall into epochs, nor what DETAIL and a CAUSE that R398 does not list hold: one epoch, free values (DESIGN
CHOICE, log 112). -/
def injectRecord (s : State) (d : Nat) (x : Injection) : State :=
  let a := aggOf s d
  let unit := x.units.headD 0xFFFF
  let r : FaultReport := ⟨unit, none, x.cause.getD (BitVec.ofNat 8 (freeValue s)), none, 0,
    BitVec.ofNat 32 (freeValue (drawFree s)), true⟩
  let bits : BitVec 128 := x.units.foldl (fun b u => b ||| BitVec.ofNat 128 (2 ^ partnerBit u)) 0
  let one : Aggregator := { aggregatorReset with
    opened := now s, first := some r, self := if unit = 0xFFFF then none else some unit,
    reports := BitVec.ofNat 16 (min 0xFFFF x.reports), partners := bits, epoch := a.epoch,
    timeInvalid := d != 4 && replicaOf s d != .sync }
  let rcd := faultRecord d one r true 0
  let s1 := setAgg (drawFree (drawFree s)) d { a with epoch := a.epoch + 1 }
  logRecord (keepRecord s1 (aggIsland d) rcd) rcd

/-- Step 3 on a Kiln die: each tile's five checkers, two of checksums and three of residues and parity; those that failed
to flag are left out. -/
def tileInjections (s : State) (k : KilnId) (o : StartupOutcome) : List Injection :=
  let l := (((List.range 64).map (tileOn k)).filter (fun tl => tileIn s tl && !o.tiles.contains tl)).map tileUnit
  if l.isEmpty then [] else [⟨some 0x01, l, 2 * l.length⟩, ⟨some 0x02, l, 3 * l.length⟩]

/-- Step 6: both islands inject a report, which each aggregator takes as its own. -/
def aggInjection (d : Nat) : Injection := ⟨none, [unitId d 15 0], 2⟩

/-- The injections into one aggregator, in the order of the steps (R386): the islands' lockstep comparators (1) and
watchdogs (7) report to their own die's, the tiles (3) to theirs, the pair comparator (4) to the hub's, the checker banks
(5) to the Maze's. An island's eight watchdogs each flag an early and a late completion. -/
def injections (s : State) (d : Nat) (o : StartupOutcome) : List Injection :=
  let island := d == 4 || d == 5
  (if island && !o.lockstep then [⟨none, [], 1⟩] else []) ++
    (if d < 4 then tileInjections s (kilnId d) o else []) ++
    (if d = 4 ∧ !o.pairLane then [⟨some 0x03, [unitId 4 13 0], 1⟩, ⟨some 0x04, [unitId 4 13 0], 1⟩] else []) ++
    (if d = 5 ∧ !o.mazeBank then [⟨some 0x0B, [unitId 5 5 1], 4096⟩] else []) ++
    (if o.aggregators.any (fun a => a.val == d) then [] else [aggInjection d]) ++
    (if island && !o.watchdog then [⟨some 0x0D, [], 8⟩, ⟨some 0x0E, [], 8⟩] else [])

/-- Runs the injections into one aggregator. -/
def injectAll (s : State) (d : Nat) (l : List Injection) : State := l.foldl (injectRecord · d ·) s

/-- Bits of BV_INJECT.FAILED that an outcome sets. -/
def failedBits (o : StartupOutcome) (tiles : Nat) : Nat :=
  (if tiles = 0 then 0 else 4) + (if o.pairLane then 8 else 0) + (if o.mazeBank then 16 else 0) +
    (if o.aggregators.isEmpty then 0 else 32) + (if o.watchdog then 64 else 0) + (if o.lockstep then 128 else 0)

/-- Takes what failed to flag out of service (R387). These units are not in the fence list (R394). -/
def takeOut (s : State) (o : StartupOutcome) : State :=
  let s1 := (o.tiles.filter (tileIn s)).foldl fenceTile s
  let s2 := { s1 with
    bv := { s1.bv with pairService := s1.bv.pairService && !o.pairLane },
    mz := { s1.mz with fenced1 := s1.mz.fenced1 || o.mazeBank } }
  let s3 := (o.aggregators.filter (fun d => decide (d.val < 4) && dieState s2 d.val == .service)).foldl
    (fun a d => dieGone a d .fenced) s2
  if o.aggregators.any (fun d => decide (4 ≤ d.val)) || o.watchdog || o.lockstep then raiseCause s3 .a causeDevice else s3

/-- Adds tiles taken out of service to BV_INJECT. -/
def noteTiles (v : Word32) (l : List TileId) : Word32 :=
  let n := min 255 (bits v.toNat 15 8 + l.length)
  let first := match (l.map (fun tl => tl.val)).min? with
    | none => bits v.toNat 23 16
    | some m => if bits v.toNat 15 8 = 0 then m else min m (bits v.toNat 23 16)
  BitVec.ofNat 32 (bits v.toNat 7 0 + 256 * n + 65536 * first)

/-- The whole start-up test with its outcome: records, units out of service, BV_INJECT, START_UP or the report. While the
Maze is idle Belvedere B holds MAZE_IDLE, also once START_UP is clear (R26, R363). -/
def startupTest (s : State) (o : StartupOutcome) : State :=
  let dies := (List.range 6).filter (fun d => dieState s d == .service)
  let s1 := mazeIdleCause (dies.foldl (fun a d => injectAll a d (injections a d o)) s)
  let tiles := o.tiles.filter (tileIn s1)
  let f := failedBits o tiles.length
  let s2 := takeOut s1 o
  let v := noteTiles (BitVec.ofNat 32 (1 + f + (if f = 0 then 2 else 0))) tiles
  let s3 := { s2 with bv := { s2.bv with inject := v } }
  if f = 0 then clearCause (clearCause s3 .a causeStartUp) .b causeStartUp else islandReport s3 .a 0x14

/-- Both islands run their images: not in recovery or Retired, nor when one of the two has failed to boot (R465, R474). -/
def islandsRun (s : State) : Bool :=
  !s.rs.held && !s.lg.hubHeld && !s.lg.recovery && s.lg.lifecycle != 4 && s.lg.booted.getLsbD 1 && s.lg.booted.getLsbD 2

/-- STARTUP_TEST: runs once after package cold reset, where both islands run. -/
def execStartupTest (o : StartupOutcome) (t : Nat) (s : State) : Host.Outcome State Fault Refusal :=
  .next (if s.bv.inject.getLsbD 0 || !islandsRun s then s else startupTest (atTime t s) o)

/-- What an outcome holds of one die's checks: a Kiln die's tiles, the Maze's bank comparison, the die's aggregator. -/
def dieOutcome (d : Nat) (o : StartupOutcome) : StartupOutcome :=
  { tiles := o.tiles.filter (fun tl => (tileDie tl).val == d), pairLane := false, mazeBank := d == 5 && o.mazeBank,
    aggregators := o.aggregators.filter (fun x => x.val == d), watchdog := false, lockstep := false, training := [] }

/-- The checks of one die that leaves die reset: steps 3 and 6 of R386 for a Kiln die, 5 and 6 for the Maze die (R427).
BV_INJECT then tells of what failed here, too, and CLEAN reads 0. -/
def dieStartup (s : State) (d : Nat) (o : StartupOutcome) : State :=
  let x := dieOutcome d o
  let s1 := injectAll s d ((if d < 4 then tileInjections s (kilnId d) x else if d = 5 ∧ !x.mazeBank then
    [⟨some 0x0B, [unitId 5 5 1], 4096⟩] else []) ++ (if x.aggregators.isEmpty then [aggInjection d] else []))
  let tiles := x.tiles.filter (tileIn s1)
  let f := failedBits x tiles.length
  let s2 := takeOut s1 x
  if f = 0 then s2
  else
    let v := noteTiles ((s1.bv.inject ||| BitVec.ofNat 32 f) &&& ~~~2) tiles
    islandReport { s2 with bv := { s2.bv with inject := v } } (aggIsland d) 0x14

/-! ## Periodic self-test -/

/-- Length of a segment at a level in ns, rounded up (R388). -/
def segmentNs (level : Nat) : Nat := (60000 * periodUnits level + 107) / 108

/-- A window whose opening matters to segments: class B or D. -/
def criticalWindow (w : Window) : Bool := w.kind != 0 && w.cls != .qm

/-- Time from now to the next opening of a window of class B or D, later than now. -/
def nextOpening (s : State) : Nat :=
  let p := now s % 1000000
  let wait (w : Window) : Nat := if p < w.openUs * 1000 then w.openUs * 1000 - p else w.openUs * 1000 + 1000000 - p
  (((s.part.schedule.toList.filter criticalWindow).map wait).min?).getD 1000000000

/-- Time from now to the next opening of a window of a KIND, later than now. -/
def nextOfKind (s : State) (k : Nat) : Nat :=
  let p := now s % 1000000
  let wait (w : Window) : Nat := if p < w.openUs * 1000 then w.openUs * 1000 - p else w.openUs * 1000 + 1000000 - p
  ((((s.part.schedule.toList.filter (fun w => w.kind == k)).map wait).min?)).getD 1000000000

/-- A window that a checker bank serves is open: Maze or publication (R316, R328). -/
def bankServes (s : State) : Bool :=
  s.part.schedule.toList.any (fun w => (w.kind == 3 || w.kind == 4) && decide (w.openUs * 1000 ≤ now s % 1000000) &&
    decide (now s % 1000000 < w.closeUs * 1000))

/-- A bank segment starts on a bank in service that serves no window and is not under test, if its 40 µs end 20 µs before
the Maze window opens and before the publication window does (R391; DEDUCED, log 154). -/
def startBankSegment (s : State) (b : Fin 2) : State :=
  if dieState s 5 ≠ .service || !(banksIn s).contains b || tabHas s.mz.segments b.val || bankServes s ||
      s.bv.tests.any (fun x => x.unit == unitId 5 5 b.val) || decide (nextOfKind s 3 < 60000) || decide (nextOfKind s 4 < 40000) then s
  else { s with mz := { s.mz with segments := tabPut s.mz.segments b.val (now s) } }

/-- A tile segment starts (R388, R389). -/
def startTileSegment (s : State) (tl : TileId) : State :=
  let x := tileOf s tl
  let ready := readyAll s
  let len := segmentNs (kilnPower s (tileDie tl)).level.toNat
  let old := decide (x.tested + 80000000 ≤ now s)
  let quiet := ready.isEmpty || (old && ready.all (fun r => (ctxOf s (dCtx r.item.desc)).cls == .qm))
  if !tileIn s tl || !tileFree s tl || x.testing || decide (nextOpening s < len + 20000) || !quiet then s
  else modTile s tl (fun y => { y with state := .selfTest, segAt := now s, tlb := [] })

/-- SELFTEST_SEGMENT_START (R388, R389, R391). -/
def execSelftestSegmentStart (u : SegmentUnit) (t : Nat) (s : State) : Host.Outcome State Fault Refusal :=
  .next (
    let s := atTime t s
    match u with
    | .tile tl => startTileSegment s tl
    | .bank b => startBankSegment s b)

/-- A window of class B or D has opened since a time. -/
def openedSince (s : State) (since : Nat) : Bool :=
  s.part.schedule.toList.any (fun w => criticalWindow w &&
    decide (since < now s / 1000000 * 1000000 + w.openUs * 1000) && decide (now s / 1000000 * 1000000 + w.openUs * 1000 ≤ now s)) ||
    (decide (since < now s / 1000000 * 1000000) &&
      s.part.schedule.toList.any (fun w => criticalWindow w && decide (since < (now s / 1000000 - 1) * 1000000 + w.openUs * 1000)))

/-- A class B or D instance ranks for a tile and no tile that it could take is free (R390). -/
def criticalWaits (s : State) : Bool :=
  (readyAll s).any (fun r => (ctxOf s (dCtx r.item.desc)).cls != .qm && !(tilesFor s r).any (tileFree s))

/-- SELFTEST_SEGMENT_ABORT (R390). A bank's segment ends before the window that would abort it. -/
def execSelftestSegmentAbort (u : SegmentUnit) (t : Nat) (s : State) : Host.Outcome State Fault Refusal :=
  .next (
    let s := atTime t s
    match u with
    | .bank _ => s
    | .tile tl =>
      let x := tileOf s tl
      if x.state ≠ .selfTest || !(openedSince s x.segAt || criticalWaits s) then s
      else
        let s1 := modTile s tl (fun y => { y with state := .free })
        { s1 with bv := { s1.bv with aborted := satInc s1.bv.aborted } })

/-- A segment is over. -/
def countSegment (s : State) : State := { s with bv := { s.bv with segments := satInc s.bv.segments } }

/-- A tile segment that has run its length at the die's level, and that no window has cut short, ends: the tile is free and
its next segment due; one that fails is reported with cause 0x0F and the tile tested (R388, R390, R392). -/
def endTileSegment (s : State) (tl : TileId) (pass : Bool) : State :=
  let x := tileOf s tl
  let len := segmentNs (kilnPower s (tileDie tl)).level.toNat
  if x.state ≠ .selfTest ∨ now s < x.segAt + len ∨ openedSince { s with sun := { s.sun with ns := x.segAt + len } } x.segAt then s
  else
    let s1 := countSegment s
    if pass then
      modTile s1 tl (fun y => { y with
        state := .free, segment := y.segment + 1, tested := if y.segment = 3 then now s else y.tested })
    else
      let s2 := startTest (modTile s1 tl (fun y => { y with state := .free })) (tileUnit tl) 0 []
      openReport s2 (tileDie tl).val (tileUnit tl) 0x0F none

/-- A bank segment ends; one that fails is reported and the bank tested (R391, R392). -/
def endBankSegment (s : State) (b : Fin 2) (pass : Bool) : State :=
  if !tabHas s.mz.segments b.val ∨ now s < tabGet 0 s.mz.segments b.val + 40000 then s
  else
    let s1 := countSegment { s with mz := { s.mz with segments := tabDel s.mz.segments b.val } }
    if pass then s1
    else openReport (startTest s1 (unitId 5 5 b.val) 0 []) 5 (unitId 5 5 b.val) 0x0F none

/-- SELFTEST_SEGMENT_END (R388, R391). -/
def execSelftestSegmentEnd (u : SegmentUnit) (pass : Bool) (t : Nat) (s : State) : Host.Outcome State Fault Refusal :=
  .next (
    let s := atTime t s
    match u with
    | .tile tl => endTileSegment s tl pass
    | .bank b => endBankSegment s b pass)

/-- SELFTEST_LAG: a tile's last full test is older than 100 ms; the report names the tile (R391). -/
def execSelftestLag (tl : TileId) (t : Nat) (s : State) : Host.Outcome State Fault Refusal :=
  .next (
    let s := atTime t s
    let x := tileOf s tl
    if !tileIn s tl ∨ now s ≤ x.tested + 100000000 then s
    else
      let s1 := { s with bv := { s.bv with lag := true, lagTile := BitVec.ofNat 8 tl.val } }
      reportFault (drawFree s1) 4 ⟨0xFFFF, some (tileUnit tl), 0x10, none, 0, BitVec.ofNat 32 (freeValue s1), false⟩)

/-- Age of the oldest full tile test in ms, over the tiles in service (BV_SELFTEST.OLDEST_MS). -/
def oldestMs (s : State) : Nat :=
  let ages := (((List.range 256).map tileId).filter (tileIn s)).map (fun tl => (now s - (tileOf s tl).tested) / 1000000)
  min 0xFFFF ((ages.max?).getD 0)

/-! ## Targeted tests (R392, R393) -/

/-- Pergola enters ACTIVE: the pair is up (R413 to R416) with what the partner claimed at the training. A claim of the same
role sends the link DOWN. A package that is not the leader then disciplines to it and reports so (R266), unless its time
is still to be stepped (R265). -/
def pairComesUp (s : State) : State :=
  match s.ln.claim with
  | none => s
  | some (lead, trip) =>
    if lead = s.ln.leader then
      { s with ln := { s.ln with roleErr := true, pergola := downModule 0 s.ln.pergola } }
    else
      { s with
        ln := { s.ln with
          pairUp := true, pairedEver := true, lostAt := none,
          delayNs := if s.ln.leader then s.ln.delayNs else BitVec.ofNat 32 (trip / 2) },
        sun := if s.ln.leader ∨ s.sun.state = .unset then s.sun else { s.sun with state := .pairLocked } }

/-- Gives a unit back after a test that it passed. A link that enters ACTIVE so brings the pair up. -/
def releaseUnit (s : State) (u : BitVec 16) : State :=
  let up (m : Module) : Module := { m with
    testing := false, state := if m.state = 4 then 5 else m.state, retrains := if m.state = 4 then 0 else m.retrains }
  if unitKind u = 0 ∧ unitDie u < 4 then
    let tl := tileOn (kilnId (unitDie u)) (unitIdx u)
    if s.bv.tests.any (fun x => x.unit == u) then s
    else modTile s tl (fun x => { x with testing := false, tested := now s })
  else if unitKind u = 3 then
    let o := otherEnd (unitDie u) (unitIdx u)
    if s.bv.tests.any (fun x => x.unit == unitId o.1 3 o.2) then s
    else bumpTopology (mazeBack (bothEnds s (unitDie u) (unitIdx u) up))
  else if unitKind u = 11 then
    let s1 := { s with ln := { s.ln with pergola := up s.ln.pergola } }
    if s.ln.pergola.state = 4 then bumpTopology (pairComesUp s1) else s1
  else s

/-- A record as its test's end rewrites it: TEST, TRANSIENTS, LASTING, TRANSIENT, FENCED (R398, R399). -/
def rewriteRecord (rcd : List Byte) (pass lasting : Bool) (n : Nat) : List Byte :=
  let flags := field rcd 14 1 + (if lasting then 8 + 32 else 16)
  patch (patch rcd 14 (leBytes 1 flags)) 48 (leBytes 1 (if pass then 1 else 2) ++ leBytes 1 (min 255 n))

/-- Replaces a record in the memory of its aggregator's island and logs it again. -/
def replaceRecord (s : State) (old new : List Byte) : State :=
  let i := aggIsland (field old 12 1)
  let x := islandOf s i
  logRecord (setIsland s i { x with records := x.records.map (fun r => if r = old then new else r) }) new

/-- TARGETED_TEST_END (R393, R394, R399). -/
def execTargetedTestEnd (unit : BitVec 16) (shelf : Byte) (pass : Bool) (t : Nat) (s : State) :
    Host.Outcome State Fault Refusal :=
  .next (
    let s := atTime t s
    match s.bv.tests.find? (fun x => x.unit == unit && x.shelf == shelf) with
    | none => s
    | some run =>
      let s1 := { s with bv := { s.bv with
        tests := s.bv.tests.filter (fun x => !(x.unit == unit && x.shelf == shelf)),
        passes := if pass then s.bv.passes ++ [(unit, shelf, s.sun.elapsed)] else s.bv.passes } }
      let n := recentPasses s1 unit shelf
      let lasting := !pass || decide (4 ≤ n)
      let s2 := if lasting then applyFence (listFence s1 unit shelf) unit shelf else releaseUnit s1 unit
      run.records.foldl (fun a rcd => replaceRecord a rcd (rewriteRecord rcd pass lasting n)) s2)

/-! ## Reports and epochs -/

/-- FAULT_REPORT: a report to a die's aggregator (R396). -/
def execFaultReport (die : DieId) (r : FaultReport) (t : Nat) (s : State) : Host.Outcome State Fault Refusal :=
  .next (reportFault (atTime t s) die.val r)

/-- FAULT_EPOCH_CLOSE: 10 µs after its first report (R396, R397). -/
def execFaultEpochClose (die : DieId) (t : Nat) (s : State) : Host.Outcome State Fault Refusal :=
  .next (
    let s := atTime t s
    let a := aggOf s die.val
    if a.isOpen && decide (a.opened + 10000 ≤ now s) then closeEpoch s die.val else s)

end Sys2Proof.Machine
end

