-- ==== Sys2Proof/Machine/Links.lean ====
section
/-! DEFINITION. Trellis and Pergola: flits, retrains and training (R403 to R409, R412, R413), lost dies (R410), the
pair link (R414 to R416), and the loss of clocks (R418 to R420). -/

namespace Sys2Proof.Machine

/-! ## Module ends -/

/-- A module end's registers. -/
def modEnd (s : State) : ModuleId → Module
  | .trellis d i => moduleOf s d.val i.val
  | .pergola => s.ln.pergola

def setEnd (s : State) (m : ModuleId) (x : Module) : State :=
  match m with
  | .trellis d i => setModule s d.val i.val x
  | .pergola => { s with ln := { s.ln with pergola := x } }

/-- The die has a module of the number (R395). -/
def hasModule (m : ModuleId) : Bool :=
  match m with
  | .trellis d i => (modulesOf d.val).contains i.val
  | .pergola => true

/-- The other end of a Trellis module; Pergola's lies in the other package. -/
def farEnd (m : ModuleId) : Option (Nat × Nat) :=
  match m with
  | .trellis d i => some (otherEnd d.val i.val)
  | .pergola => none

/-- Changes both ends of a module that are in this package. -/
def modBoth (s : State) (m : ModuleId) (f : Module → Module) : State :=
  match m with
  | .trellis d i => bothEnds s d.val i.val f
  | .pergola => setEnd s m (f (modEnd s m))

/-- The registers of the sending end of a module, of which `m` is the receiving end; for Pergola this package's one
end holds both. -/
def sender (s : State) (m : ModuleId) : Module :=
  match farEnd m with
  | none => modEnd s m
  | some o => moduleOf s o.1 o.2

def setSender (s : State) (m : ModuleId) (x : Module) : State :=
  match farEnd m with
  | none => setEnd s m x
  | some o => setModule s o.1 o.2 x

/-- Sequence number of a flit. -/
def flitSeq (l : List Byte) : Nat := field l 0 4

/-- A flit arrives good: its CRC-32C matches and its sequence number is the one that the receiver expects (R403). -/
def flitGood (expected : Nat) (got : List Byte) : Bool :=
  (crc32c (slice got 0 252)).toNat == field got 252 4 && flitSeq got == expected

/-- FLIT_RECEIVE: a flit that the sender sends for the first time goes into its retry buffer, which takes 64; a good flit is
acknowledged and leaves it; a bad one stays to be sent again (R403). -/
def execFlitReceive (m : ModuleId) (p : FlitPassage) (s : State) : Host.Outcome State Fault Refusal :=
  .next (
    let x := sender s m
    let n := flitSeq p.sent
    let known := x.retry.any (fun l => flitSeq l == n)
    if !hasModule m ∨ (modEnd s m).state ≠ 5 ∨ (!known ∧ 64 ≤ x.retry.length) then s
    else
      let buf := if known then x.retry else x.retry ++ [p.sent]
      if flitGood (modEnd s m).seq p.got then
        let k := flitSeq p.got
        let s1 := setEnd s m { modEnd s m with seq := (k + 1) % 2 ^ 32 }
        setSender s1 m { sender s1 m with retry := buf.filter (fun l => flitSeq l != k), failed := tabDel x.failed k }
      else
        setSender s m { x with
          retry := buf, failed := tabPut x.failed n (tabGet 0 x.failed n + 1), replays := satInc x.replays,
          recent := (now s :: x.recent.filter (fun t => decide (now s < t + 1000000))).take 17 })

/-- The module crosses its error threshold (R404). -/
def overThreshold (s : State) (m : ModuleId) : Bool :=
  let x := sender s m
  x.failed.any (fun e => decide (8 ≤ e.2)) ||
    decide (16 < (x.recent.filter (fun t => decide (now s < t + 1000000))).length)

/-- Unit ID of a module end (R395, R412). -/
def moduleUnit (m : ModuleId) : BitVec 16 :=
  match m with
  | .trellis d i => unitId d.val 3 i.val
  | .pergola => unitId 4 11 0

/-- LINK_ERROR_THRESHOLD: the error retrain, which keeps the retry buffer, the report of the receiving end's die and the
targeted test (R404, R409). -/
def execLinkErrorThreshold (m : ModuleId) (t : Nat) (s : State) : Host.Outcome State Fault Refusal :=
  .next (
    let s := atTime t s
    if !hasModule m ∨ (modEnd s m).state ≠ 5 ∨ !overThreshold s m then s
    else
      let back (x : Module) : Module := { x with
        state := 2, errorRetrains := satInc x.errorRetrains, failed := [], recent := [], retrainAt := now s }
      let s1 := bumpTopology (modBoth s m back)
      openReport (startTest s1 (moduleUnit m) 0 []) (unitDie (moduleUnit m)) (moduleUnit m) 0x0A none)

/-! ## Training (R405 to R408) -/

/-- Width code and lanes of a combined mask (R406); `none` when no half-group passes. -/
def chosenWidth (m : Nat) : Option (Nat × Nat) :=
  if m = 15 then some (3, 0)
  else if m % 4 = 3 then some (2, 0)
  else if m / 4 = 3 then some (2, 1)
  else ((List.range 4).find? (fun h => bit m h)).map (fun h => (1, h))

/-- An end that comes up. Under its targeted test a module is not ACTIVE: it waits in CHECK, and RETRAINS clears when it
enters ACTIVE (R404, R407). -/
def comeUp (w lanes : Nat) (x : Module) : Module :=
  { x with
    state := if x.testing then 4 else 5, width := BitVec.ofNat 2 w, lanes := BitVec.ofNat 2 lanes,
    retrains := if x.testing then x.retrains else 0, failed := [], recent := [] }

/-- The masks of an attempt at both ends. -/
def putMasks (s : State) (m : ModuleId) (a : TrainingAttempt) : State :=
  let s1 := setEnd s m { modEnd s m with localMask := a.localMask, remoteMask := a.remoteMask }
  match farEnd m with
  | none => s1
  | some o => setModule s1 o.1 o.2 { moduleOf s1 o.1 o.2 with localMask := a.remoteMask, remoteMask := a.localMask }

/-- A module comes up at a width. Pergola's training exchanges the roles and measures the round trip (R413, R414). -/
def linkUpAt (s : State) (m : ModuleId) (a : TrainingAttempt) (w : Nat × Nat) : State :=
  let s1 := modBoth s m (comeUp w.1 w.2)
  match m with
  | .pergola =>
    let s2 := { s1 with ln := { s1.ln with claim := some (a.partnerLeader, a.roundTripNs) } }
    if s2.ln.pergola.state = 5 then pairComesUp s2 else s2
  | .trellis _ _ => mazeBack s1

/-- FALLBACK: the first half-group that passes at both ends, or DOWN until a reset (R408). -/
def fallbackEnd (s : State) (m : ModuleId) (a : TrainingAttempt) : State :=
  match (List.range 4).find? (fun h => a.fallback.getLsbD h) with
  | some h => linkUpAt s m a (1, h)
  | none => modBoth s m (fun x => { downModule 0 x with stuck := true })

/-- A die's ends can train: the die is not held in reset by its clock-loss detector (R420). -/
def dieTrains (s : State) (d : Nat) : Bool := !s.rs.clockOut.getLsbD d

/-- A module may make a training attempt: it is DOWN, DETECT or in an error retrain, and neither fenced nor stuck. -/
def mayTrain (s : State) (m : ModuleId) : Bool :=
  let x := modEnd s m
  hasModule m && decide (x.state.toNat ≤ 2) && !x.stuck &&
    (match m with
     | .pergola => !s.rs.reduced
     | .trellis d i => dieTrains s d.val && dieTrains s (otherEnd d.val i.val).1 &&
         (moduleOf s (otherEnd d.val i.val).1 (otherEnd d.val i.val).2).state ≠ 7)

/-- One training attempt of a module that may make it. -/
def trainModule (s : State) (m : ModuleId) (a : TrainingAttempt) : State :=
  let s1 := putMasks s m a
  match chosenWidth (a.localMask &&& a.remoteMask).toNat with
  | none => bumpTopology (modBoth s1 m (downModule 0))
  | some w =>
    if a.patternOk then bumpTopology (linkUpAt s1 m a w)
    else if 3 ≤ (modEnd s1 m).retrains.toNat then bumpTopology (fallbackEnd s1 m a)
    else bumpTopology (modBoth s1 m (fun x => { downModule 1 x with retrains := x.retrains + 1 }))

/-- LINK_TRAINING: one attempt of a module (R405 to R408, R413, R414). -/
def execLinkTraining (m : ModuleId) (a : TrainingAttempt) (t : Nat) (s : State) : Host.Outcome State Fault Refusal :=
  .next (
    let s := atTime t s
    if mayTrain s m then trainModule s m a else s)

/-- The module ends at a die. -/
def endsAt (d : Nat) : ModuleId → Bool
  | .trellis x i => x.val == d || (otherEnd x.val i.val).1 == d
  | .pergola => false

/-- The modules of a die that starts make their attempts; one that is then neither ACTIVE nor fenced, and not held in CHECK
by its test, is DOWN (R405, R426 step 5). -/
def trainDie (s : State) (d : Nat) (l : List (ModuleId × TrainingAttempt)) : State :=
  let s1 := (l.filter (fun e => endsAt d e.1)).foldl (fun a e => if mayTrain a e.1 then trainModule a e.1 e.2 else a) s
  (modulesOf d).foldl (fun a i =>
    let x := moduleOf a d i
    if x.state = 5 ∨ x.state = 7 ∨ (x.state = 4 ∧ x.testing) then a else bothEnds a d i (downModule 0)) s1

/-- LINK_DETECT_TIMEOUT: DETECT without a partner for 1 ms goes DOWN (R405). -/
def execLinkDetectTimeout (m : ModuleId) (s : State) : Host.Outcome State Fault Refusal :=
  .next (
    if hasModule m ∧ (modEnd s m).state = 1 then bumpTopology (setEnd s m (downModule 0 (modEnd s m))) else s)

/-- What an end does on a reset sequence: nothing is kept of earlier training (R409). A fenced module stays fenced. -/
def resetEnd (x : Module) : Module :=
  if x.state = 7 then x
  else { downModule 1 x with
    localMask := 0, remoteMask := 0, retrains := 0, retry := [], failed := [], recent := [], seq := 0, stuck := false,
    resetRetrains := satInc x.resetRetrains }

/-- LINK_RESET_SEQUENCE: the surviving end acts at once (R409). -/
def execLinkResetSequence (m : ModuleId) (s : State) : Host.Outcome State Fault Refusal :=
  .next (if hasModule m then bumpTopology (setEnd s m (resetEnd (modEnd s m))) else s)

/-- DIE_LOST: a Kiln die without a route to the hub, or the Maze die without its module (R410). -/
def execDieLost (die : DieId) (t : Nat) (s : State) : Host.Outcome State Fault Refusal :=
  .next (
    let s := atTime t s
    let cut := if die.val < 4 then (toHub s die.val).hops == 0xFF else die.val == 5 && moduleLanes s 5 0 == 0
    if cut ∧ dieState s die.val = .service then dieGone s die .lost else s)

/-! ## The pair -/

/-- An offset in ns as PG_TIME.OFFSET_NS holds it: signed, saturating. -/
def pairOffset (o : Int) : Word32 := BitVec.ofInt 32 (max (-0x80000000) (min 0x7FFFFFFF o))

/-- PERGOLA_TIME: the leader's time reaches a non-leader, whose Sundial disciplines to it (R265 to R267, R414). With a plan
queue Sundial never steps; with none it steps from UNSET, and the manual leaves any other free to step. Else it slews at a
free rate (DESIGN CHOICE, log 70); one that is UNSET stays so. -/
def execPergolaTime (leader : Nat) (t : Nat) (s : State) : Host.Outcome State Fault Refusal :=
  .next (
    let s := atTime t s
    if !s.ln.pairUp ∨ s.ln.leader ∨ s.ln.pergola.state ≠ 5 then s
    else
      let lead := leader + s.ln.delayNs.toNat
      let off : Int := (now s : Int) - lead
      let step := !planQueueExists s && (s.sun.state == .unset || freeValue s % 2 == 1)
      let ppb : Int := (freeValue (drawFree s) % 1000001 : Nat) - 500000
      let s1 := drawFree (drawFree s)
      let s2 := { s1 with
        ln := { s1.ln with offsetNs := pairOffset off },
        sun := { s1.sun with state := if s.sun.state = .unset ∧ !step then .unset else .pairLocked,
                             timeSet := s.sun.timeSet || step, offsetNs := offsetReg off, inRange := 0,
                             ppb := if step then s1.sun.ppb else BitVec.ofInt 32 ppb } }
      if step then { s2 with sun := { s2.sun with ns := lead, frac := 0 } } else s2)

/-- PAIR_TOPOLOGY_REFRESH: the partner's die states and channels in service (R415). -/
def execPairTopologyRefresh (states : List (DieId × Byte × Byte)) (s : State) : Host.Outcome State Fault Refusal :=
  .next (
    if s.ln.pergola.state ≠ 5 then s
    else
      let put (l : Tab (Byte × Byte)) (e : DieId × Byte × Byte) : Tab (Byte × Byte) := tabPut l e.1.val e.2
      { s with ln := { s.ln with outbound := states.foldl put s.ln.outbound } })

/-- The pair is lost (R416). -/
def pairLost (s : State) : State :=
  if !s.ln.pairUp then s
  else
    let s1 := { s with ln := { s.ln with pairUp := false, losses := satInc s.ln.losses, lostAt := some (now s) } }
    let s2 := s1.ln.partnerCtx.foldl (loseContext · stInputLost 7) s1
    let s3 := if s2.ln.leader then s2 else holdover s2
    bumpTopology s3

/-- PAIR_LINK_LOSS: the link has left ACTIVE; an error retrain counts as a loss after 100 µs (R416). -/
def execPairLinkLoss (t : Nat) (s : State) : Host.Outcome State Fault Refusal :=
  .next (
    let s := atTime t s
    let x := s.ln.pergola
    let retrains := x.state == 2 || x.state == 4
    if x.state = 5 ∨ (retrains ∧ now s ≤ x.retrainAt + 100000) then s else pairLost s)

/-- PAIR_LEND_RECLAIM: 100 ms after the loss the lent blocks are scrubbed and freed (R416). -/
def execPairLendReclaim (t : Nat) (s : State) : Host.Outcome State Fault Refusal :=
  .next (
    let s := atTime t s
    match s.ln.lostAt with
    | none => s
    | some t0 =>
      if s.ln.pairUp ∨ now s < t0 + 100000000 then s
      else { s with
        ms := { s.ms with blocks := s.ms.blocks.map (fun e => if e.2 = .lent then (e.1, .scrubbing) else e) },
        ln := { s.ln with lend := [], lostAt := none } })

/-! ## Clocks -/

/-- Every LPDDR6 channel not fenced runs at the reduced rate or at the full one (R221, R419). -/
def setRate (s : State) (slow : Bool) : State :=
  (List.range 4).foldl (fun a k => (List.range 8).foldl (fun b c =>
    let x := channelOf b k c
    if x.state = 1 then b else setChannel b k c { x with reduced := slow }) a) s

/-- Sends the voltage request of a level for a die. -/
def sendRequest (s : State) (k : KilnId) (raise : Bool) (level : BitVec 3) : State :=
  setKilnPower s k { kilnPower s k with request := some (raise, level), avsPending := true, retryAt := none }

/-- Lowers a die one level: the clock at once, then the voltage (R436). While a raise waits for its voltage the
decision cancels the raise and the level stays (R437); while a lowering is in progress nothing begins. -/
def lowerDie (s : State) (k : KilnId) : State :=
  let x := kilnPower s k
  match x.request with
  | none =>
    let y := { x with level := x.level + 1, changes := satInc x.changes, lowered := some (now s) }
    sendRequest (setKilnPower s k y) k false (x.level + 1)
  | some (true, _) => setKilnPower s k { x with queued := some x.level, lowered := some (now s) }
  | some (false, _) => s

/-- A raise that waits for its voltage, or is to be sent again, is cancelled (R437). -/
def cancelRaise (x : KilnPower) : KilnPower :=
  let y := match x.request with
    | some (true, _) => { x with queued := some x.level }
    | _ => x
  match y.retryAt with
  | some (_, true, _) => { y with retryAt := none }
  | _ => y

/-- Kiln dies run at P1 at most: one at P0 is lowered, and a raise to P0 is cancelled (R419, R437). -/
def capLevels (s : State) : State :=
  kilns.foldl (fun a k =>
    let x := kilnPower a k
    if x.level = 0 then lowerDie a k
    else if x.level = 1 then setKilnPower a k (cancelRaise x)
    else a) s

/-- Reduced mode (R419): levels, memory rate, Pergola down; paths change their width (R241). -/
def enterReduced (s : State) : State :=
  let s1 := setRate (capLevels { s with rs := { s.rs with reduced := true } }) true
  let s2 := { s1 with ln := { s1.ln with pergola := if s1.ln.pergola.state = 7 then s1.ln.pergola else downModule 0 s1.ln.pergola } }
  bumpTopology (pairLost { s2 with sun := { s2.sun with gptpSync := 0 } })

/-- The hub's reference is lost (R418, R268). R395 gives the clock generation no unit ID: the reporter is 0xFFFF. -/
def loseReference (s : State) : State :=
  let s1 := enterReduced { s with rs := { s.rs with refValid := false, refLost := true } }
  let s2 := logEntry (referenceHoldover s1) 0x0030 []
  reportFault (drawFree s2) 4 ⟨0xFFFF, none, 0x13, none, 0, BitVec.ofNat 32 (freeValue s2), false⟩

/-- REFCLK_LOSS. -/
def execRefclkLoss (t : Nat) (s : State) : Host.Outcome State Fault Refusal := .next (loseReference (atTime t s))

/-- REFCLK_RESTORED: REF_VALID reads 1 again and reduced mode stays in force (R419). -/
def execRefclkRestored (s : State) : Host.Outcome State Fault Refusal :=
  .next { s with rs := { s.rs with refValid := true } }

/-- The shelves of a Kiln die are cleared (R90, R420). -/
def clearShelves (s : State) (k : KilnId) : State :=
  let lo := shelfBase (k.val * 0x4000)
  let hi := shelfBase ((k.val + 1) * 0x4000)
  { s with
    mem := memClear s.mem lo hi,
    tl := { s.tl with
      badWords := s.tl.badWords.filter (fun w => decide (w < lo) || decide (hi ≤ w)),
      softWords := s.tl.softWords.filter (fun w => decide (w < lo) || decide (hi ≤ w)) } }

/-- The module ends of a die go down with its clock. -/
def dropEnds (s : State) (d : Nat) : State :=
  (modulesOf d).foldl (fun a i =>
    let x := moduleOf a d i
    if x.state = 7 then a else setModule a d i (downModule 0 x)) s

/-- A die is held in reset with its memory and shelves lost, and is declared lost (R420). -/
def clockLost (s : State) (die : DieId) : State :=
  if die.val = 4 ∨ dieState s die.val = .fenced then s
  else
    let m := BitVec.ofNat 6 (2 ^ die.val)
    let s1 := { s with rs := { s.rs with fwdLost := s.rs.fwdLost ||| m, clockOut := s.rs.clockOut ||| m } }
    let s2 := { setReplica s1 die.val .stopped with
      sun := { s1.sun with replicas := tabPut s1.sun.replicas die.val .stopped, stoppedEver := s1.sun.stoppedEver ||| m } }
    let s3 := openReport s2 4 (unitId die.val 12 0) 0x13 none
    let s4 := dropEnds (dieGone s3 die .lost) die.val
    if die.val < 4 then clearShelves (loseMemory s4 (kilnId die.val)) (kilnId die.val) else s4

/-- FORWARDED_CLOCK_LOSS (R420). -/
def execForwardedClockLoss (die : DieId) (t : Nat) (s : State) : Host.Outcome State Fault Refusal :=
  .next (clockLost (atTime t s) die)

end Sys2Proof.Machine
end

