-- ==== Sys2Proof/Machine/Lodge.lean ====
section
/-! DEFINITION. The Lodge: the flash and its directory (R459, R466, R467), signed images (R460 to R463), the choice of
slots at boot (R465, R468), the log mirror (R477) and the mailbox commands that do not reset the device (R469 to R472,
R478). -/

namespace Sys2Proof.Machine

/-! ## Flash -/

/-- The byte at a flash address; erased flash reads 0xFF. -/
def flashByte (s : State) (a : Nat) : Byte := tabGet 0xFF s.lg.flash a

def flashReads (s : State) (a n : Nat) : List Byte := (List.range n).map (fun i => flashByte s (a + i))

/-- Erases a range of the flash. -/
def flashErase (s : State) (a n : Nat) : State :=
  { s with lg := { s.lg with flash := s.lg.flash.filter (fun e => decide (e.1 < a) || decide (a + n ≤ e.1)) } }

/-- Writes bytes into the flash. -/
def flashWrites (s : State) (a : Nat) (l : List Byte) : State :=
  { s with lg := { s.lg with flash := ((List.range l.length).zip l).foldl (fun f e => tabSet 0xFF f (a + e.1) e.2) s.lg.flash } }

/-- Base of a kind's slot A or B (R459). -/
def slotBase (k : Nat) (b : Bool) : Nat :=
  let base (l : List Nat) : Nat := (l[k]?).getD 0
  if b then base [0x11_0000, 0x25_0000, 0x2D_0000, 0x32_0000, 0x37_0000]
  else base [0x1_0000, 0x21_0000, 0x29_0000, 0x31_0000, 0x33_0000]

/-- Largest IMAGE_LEN of a kind, and the size of its slots (R460). -/
def slotSize (k : Nat) : Nat := ([0x10_0000, 0x4_0000, 0x4_0000, 0x1_0000, 0x4_0000][k]?).getD 0

/-! ## The directory (R466, R467) -/

def slotOf (s : State) (k : Nat) : Slot := tabGet slotReset s.lg.slots k

def setSlot (s : State) (k : Nat) (x : Slot) : State := { s with lg := { s.lg with slots := tabPut s.lg.slots k x } }

/-- The 32 bytes of a kind's record. -/
def slotBytes (x : Slot) : List Byte :=
  leBytes 1 (b2n x.activeB) ++ leBytes 1 (b2n x.trial + 2 * b2n x.tried) ++ [x.stateA, x.stateB] ++
    leBytes 4 x.svA.toNat ++ leBytes 4 x.svB.toNat ++ leBytes 4 x.lenA.toNat ++ leBytes 4 x.lenB.toNat ++ zeros 12

/-- The record of 32 bytes. -/
def slotRecord (b : List Byte) : Slot :=
  { activeB := field b 0 1 == 1, trial := bit (field b 1 1) 0, tried := bit (field b 1 1) 1,
    stateA := BitVec.ofNat 8 (field b 2 1), stateB := BitVec.ofNat 8 (field b 3 1),
    svA := BitVec.ofNat 32 (field b 4 4), svB := BitVec.ofNat 32 (field b 8 4),
    lenA := BitVec.ofNat 32 (field b 12 4), lenB := BitVec.ofNat 32 (field b 16 4) }

/-- Base of a directory copy. -/
def copyBase (one : Bool) : Nat := if one then 0x3C_0000 else 0

/-- The 256 bytes of a directory. -/
def directoryBytes (s : State) (seq : Word32) : List Byte :=
  let body := leBytes 4 seq.toNat ++ zeros 4 ++ (List.range 5).flatMap (fun k => slotBytes (slotOf s k))
  let full := body ++ zeros (252 - body.length)
  full ++ leBytes 4 (crc32c full).toNat

/-- A directory copy whose CRC is good. -/
def goodCopy (s : State) (one : Bool) : Option (List Byte) :=
  let b := flashReads s (copyBase one) 256
  if (crc32c (b.take 252)).toNat = field b 252 4 then some b else none

/-- The governing copy: good, with the higher SEQ (R464 step 2). -/
def governing (s : State) : Option (Bool × List Byte) :=
  match goodCopy s false, goodCopy s true with
  | some a, some b => if field a 0 4 < field b 0 4 then some (true, b) else some (false, a)
  | some a, none => some (false, a)
  | none, some b => some (true, b)
  | none, none => none

/-- Reads the governing directory into the Lodge; with no good copy every slot is empty. -/
def readDirectory (s : State) : State :=
  match governing s with
  | some (one, b) => { s with lg := { s.lg with
      dirCopy := one, dirSeq := BitVec.ofNat 32 (field b 0 4),
      slots := (List.range 5).map (fun k => (k, slotRecord (slice b (8 + 32 * k) 32))) } }
  | none => { s with lg := { s.lg with dirCopy := false, dirSeq := 0, slots := [] } }

/-- Writes the directory into the other copy, with a SEQ one above the governing one's (R467). -/
def writeDirectory (s : State) : State :=
  let one := !s.lg.dirCopy
  let seq := s.lg.dirSeq + 1
  let s1 := flashWrites (flashErase s (copyBase one) 0x1_0000) (copyBase one) (directoryBytes s seq)
  { s1 with lg := { s1.lg with dirCopy := one, dirSeq := seq } }

/-! ## Signed images (R460 to R463) -/

/-- KIND of a kind index. -/
def kindCode (k : Nat) : Nat := 5 + k

/-- Anti-rollback counter of a kind. -/
def counterOf (s : State) (k : Nat) : Nat := (s.lg.counters[k]?).getD 0

/-- Sections of an image do not overlap at their destination, of `size` bytes. -/
def sectionsFit (secs : List SectionEntry) (size : Nat) : Bool :=
  let loads := secs.filter (fun e => e.memLen != 0)
  loads.all (fun e => decide (e.addr + e.memLen ≤ size)) &&
    (withEarlier [] loads).all (fun p => !p.2.any (fun e =>
      decide (p.1.addr < e.addr + e.memLen) && decide (e.addr < p.1.addr + p.1.memLen)))

/-- The slot records of a patch table: even addresses in the ROM, no two used ones the same, TARGET even and within
section 1 (R470). -/
def patchOk (b : List Byte) (secs : List SectionEntry) : Bool :=
  match secs with
  | [a, c] =>
    let recAt (i : Nat) : List Byte := slice b (a.fileOff + 16 * i) 16
    let used := (List.range 64).filter (fun i => field (recAt i) 0 8 != 0)
    a.fileLen == 1024 && decide (c.fileLen ≤ 0xC000) &&
      (List.range 64).all (fun i => field (recAt i) 12 4 == 0) &&
      used.all (fun i => decide (field (recAt i) 0 8 < 0x4_0000) && field (recAt i) 0 8 % 2 == 0 &&
        field (recAt i) 8 4 % 2 == 0 && decide (field (recAt i) 8 4 < c.fileLen)) &&
      (used.map (fun i => field (recAt i) 0 8)).eraseDups.length == used.length
  | _ => false

/-- Check 6 of R462: every header, section, trailer and content rule (R181, R182, R460, R461, R470, R473). -/
def firmwareRules (b : List Byte) (len kind : Nat) : Bool :=
  let so := field b 24 4
  let entryOff := field b 28 4
  let secs := sectionsOf b
  let t := len - 288
  let size := if kind = 0xA then 4096 else slotSize (kind - 5)
  magicOk b && field b 4 2 == 2 && field b 8 4 == len && field b 16 2 == 0 && decide (1 ≤ imgSections b) &&
    decide (imgSections b ≤ 16) && imgEntries b == 0 && field b 22 2 == 0 && so % 8 == 0 && entryOff % 8 == 0 &&
    decide (so + 16 * imgSections b ≤ t) && decide (field b 32 4 ≤ 64) && decide (field b 36 1 ≤ 3) &&
    allZero (slice b 37 3) && allZero (slice b 48 80) &&
    secs.all (fun e => e.fileOff % 64 == 0 && decide (128 ≤ e.fileOff) && e.addr % 64 == 0 && e.memLen == e.fileLen &&
      decide (e.fileOff + e.fileLen ≤ t)) &&
    sectionsFit secs size && field b t 1 == 4 && allZero (slice b (t + 133) 3) && allZero (slice b (t + 268) 20) &&
    (kind != 8 || patchOk b secs) &&
    (kind != 0xA || (match secs with
      | [e] => e.fileLen == 64 && allZero (slice b (e.fileOff + 18) 46)
      | _ => false))

/-- The number of the first check of R462 that an image fails; `none` when it passes all. -/
def verifyImage (s : State) (b : List Byte) (kind counter : Nat) : Option Nat :=
  let len := b.length
  let t := len - 288
  let key := field b 36 1
  let pub := slice b t 133
  if len < 416 then some 1
  else if (imageCrc b).toNat ≠ field b 12 4 then some 1
  else if s.lg.keyHash[key]? ≠ some (Config.sha512 pub) ∨ bit s.lg.revoke.toNat key then some 2
  else if !Config.ecdsaValid pub (slice b (t + 136) 66) (slice b (t + 202) 66) (b.take t) then some 3
  else if field b 6 2 ≠ kind ∨ (if kind = 0xA then 4096 else slotSize (kind - 5)) < len then some 4
  else if field b 32 4 < counter then some 5
  else if !firmwareRules b len kind then some 6
  else none

/-- Mailbox RESULT of a failed check. -/
def checkResult (n : Nat) : Nat := if n ≤ 3 then 3 else if n = 5 then 4 else 2

/-! ## Slots at boot (R465, R468) -/

/-- LEN of a slot in the directory. -/
def slotLen (x : Slot) (b : Bool) : Nat := if b then x.lenB.toNat else x.lenA.toNat

def slotState (x : Slot) (b : Bool) : Nat := if b then x.stateB.toNat else x.stateA.toNat

def putSlotState (x : Slot) (b : Bool) (v : Byte) : Slot := if b then { x with stateB := v } else { x with stateA := v }

/-- The image in a slot. -/
def slotImage (s : State) (k : Nat) (b : Bool) : List Byte :=
  flashReads s (slotBase k b) (min (slotSize k) (slotLen (slotOf s k) b))

/-- A rejected image is logged (R476). -/
def logRejected (s : State) (kind : Nat) (b : Bool) (check : Nat) : State :=
  logEntry s 0x0002 (leBytes 2 kind ++ leBytes 1 (b2n b) ++ leBytes 1 check)

/-- Slots whose flash does not read. -/
abbrev BadReads := List (Fin 5 × Bool)

/-- Verifies the image in a slot, logging a rejection: check 7 for a bad read (R476). -/
def trySlot (s : State) (bad : BadReads) (k : Nat) (b : Bool) : State × Bool :=
  if bad.any (fun e => e.1.val == k && e.2 == b) then (logRejected s (kindCode k) b 7, false)
  else match verifyImage s (slotImage s k b) (kindCode k) (counterOf s k) with
  | none => (s, true)
  | some n => (logRejected s (kindCode k) b n, false)

/-- Boots ACTIVE, or else the other slot where it is valid. -/
def bootActive (s : State) (bad : BadReads) (k : Nat) : State × Option Bool :=
  let a := (slotOf s k).activeB
  match trySlot s bad k a with
  | (s1, true) => (s1, some a)
  | (s1, false) =>
    if slotState (slotOf s1 k) (!a) = 1 then
      match trySlot s1 bad k (!a) with
      | (s2, true) => (s2, some (!a))
      | (s2, false) => (s2, none)
    else (s1, none)

/-- Selects and verifies a kind's slot (R468): the slot that it runs from. -/
def selectSlot (s : State) (bad : BadReads) (k : Nat) : State × Option Bool :=
  let x := slotOf s k
  if x.trial ∧ !x.tried then
    let s1 := writeDirectory (setSlot s k { x with tried := true })
    match trySlot s1 bad k (!x.activeB) with
    | (s2, true) => ({ s2 with lg := { s2.lg with onTrial := s2.lg.onTrial ||| BitVec.ofNat 5 (2 ^ k) } }, some (!x.activeB))
    | (s2, false) =>
      let y := putSlotState { x with trial := false, tried := false } (!x.activeB) 2
      bootActive (writeDirectory (setSlot s2 k y)) bad k
  else if x.trial then
    let s1 := writeDirectory (setSlot s k { x with trial := false, tried := false })
    bootActive (logEntry s1 0x0004 (leBytes 2 (kindCode k) ++ leBytes 1 (b2n (!x.activeB)))) bad k
  else bootActive s bad k

/-- Base of Keep SRAM. -/
def keepBase : Nat := 0x6000_1000_0000

/-- Loads an image's sections at their offsets from a base. -/
def loadSections (s : State) (b : List Byte) (base : Nat) : State :=
  { s with mem := (sectionsOf b).foldl (fun m e => memWrites m (base + e.addr) (slice b e.fileOff e.fileLen)) s.mem }

/-- A memory of its own that an image's sections fill, by load offset. -/
def ownMemory (b : List Byte) : Memory :=
  (sectionsOf b).foldl (fun m e => memWrites m e.addr (slice b e.fileOff e.fileLen)) []

/-- The patch RAM takes a patch table: its slots and its code (R470). -/
def loadPatches (s : State) (b : List Byte) : State :=
  match sectionsOf b with
  | a :: c :: _ => { s with lg := { s.lg with
      patches := (List.range 64).map (fun i =>
        (field b (a.fileOff + 16 * i) 8, BitVec.ofNat 32 (field b (a.fileOff + 16 * i + 8) 4))),
      patchCode := slice b c.fileOff c.fileLen } }
  | _ => s

/-- TARGET from which a Gatehouse fetch at an address executes: that of the used slot that matches it (R470). -/
def patchTarget (s : State) (pc : Nat) : Option Word32 :=
  (s.lg.patches.find? (fun e => e.1 != 0 && e.1 == pc)).map (fun e => e.2)

/-- A kind's image goes where it runs (R458, R464): the Lodge's firmware and the patch table into Keep SRAM, the table into
the patch RAM too, an island's firmware into the island's own memory, the calibration tables into the trims. -/
def loadKind (s : State) (k : Nat) (img : List Byte) : State :=
  if k = 0 then loadSections s img keepBase
  else if k = 1 then { s with bv := { s.bv with a := { s.bv.a with firmware := ownMemory img } } }
  else if k = 2 then { s with bv := { s.bv with b := { s.bv.b with firmware := ownMemory img } } }
  else if k = 3 then loadPatches (loadSections s img (keepBase + 0x18_0000)) img
  else { s with lg := { s.lg with trims := ownMemory img } }

/-- A kind boots: its slot is selected and verified, its measurement and version kept, its image loaded. The answer tells
whether it runs. -/
def bootKind (s : State) (bad : BadReads) (k : Nat) : State × Bool :=
  match selectSlot s bad k with
  | (s1, none) => (s1, false)
  | (s1, some b) =>
    let img := slotImage s1 k b
    let one := BitVec.ofNat 5 (2 ^ k)
    let s2 := { s1 with lg := { s1.lg with
      booted := s1.lg.booted ||| one,
      onB := if b then s1.lg.onB ||| one else s1.lg.onB,
      measures := s1.lg.measures.set k (Config.sha512 img),
      versions := s1.lg.versions.set k (field img 32 4) } }
    (loadKind s2 k img, true)

/-! ## The log mirror (R477) -/

/-- Copies the entries of SEQ `mirrored` up to, and not including, `upTo` to the flash mirror. -/
def mirrorTo (s : State) (upTo : Word32) : State :=
  let n := (upTo - s.lg.mirrored).toNat
  let put (a : State) (i : Nat) : State :=
    let seq := (s.lg.mirrored.toNat + i) % 0x1_0000_0000
    flashWrites a (0x40_0000 + (seq % 524288) * 32) (memReads a.mem (logRing + (seq % 16384) * 32) 32)
  let s1 := (List.range n).foldl put s
  { s1 with lg := { s1.lg with
      mirrored := upTo, pageAt := pageFirst s upTo,
      pagesAt := s.lg.pagesAt.dropWhile (fun e => decide ((upTo - BitVec.ofNat 32 (128 * e.1)).toNat < 0x8000_0000)) } }

/-- LOG_MIRROR_FLUSH: a full page, or one whose first entry is 1 s old, goes to the flash (R477). -/
def execLogMirrorFlush (t : Nat) (s : State) : Host.Outcome State Fault Refusal :=
  .next (
    let s := atTime t s
    let n := (s.lg.nextSeq - s.lg.mirrored).toNat
    let room := 128 - s.lg.mirrored.toNat % 128
    if n = 0 ∨ s.rs.held then s
    else if room ≤ n then mirrorTo s (s.lg.mirrored + BitVec.ofNat 32 room)
    else if s.lg.pageAt + 1000000000 ≤ now s then mirrorTo s s.lg.nextSeq
    else s)

/-! ## The mailbox (R478) -/

/-- Ends a mailbox command with a result and the bytes written to its buffer. -/
def mboxEnd (s : State) (result outLen : Nat) : State :=
  { s with lg := { s.lg with mboxGo := false, result := BitVec.ofNat 4 result, outLen := BitVec.ofNat 32 outLen } }

/-- Writes a mailbox command's output at an offset of its buffer. -/
def mboxOut (s : State) (off : Nat) (l : List Byte) : State :=
  { s with hostMem := memWrites s.hostMem (s.lg.buf.toNat + off) l }

/-- Bytes of the buffer. -/
def mboxIn (s : State) (off n : Nat) : List Byte := memReads s.hostMem (s.lg.buf.toNat + off) n

/-- A command of code `cmd` starts: a write of LG_MBOX_CTRL with GO by the physical function. A write while GO reads 1
is refused. While the physical function cannot issue requests (R505) a command that uses the buffer waits with GO 1, and goes
on when it can again (log 168). False when nothing runs. -/
def mboxStart (s : State) (g : MboxGo) (cmd : Nat) (buffer : Bool) : State × Bool :=
  let s := hostWrites g.host (atTime g.t s)
  let waits := buffer && !fnCanIssue s 0
  if g.resumes then (s, s.lg.mboxGo && s.lg.mboxCmd.toNat == cmd && buffer && !waits && packageUp s)
  else if !pfReaches s g.fn ∨ !g.value.getLsbD 31 ∨ bits g.value.toNat 7 0 ≠ cmd then (s, false)
  else if s.lg.mboxGo then ({ s with lg := { s.lg with refused := true } }, false)
  else
    let s1 := { s with lg := { s.lg with mboxCmd := BitVec.ofNat 8 cmd, mboxGo := true } }
    (s1, !waits)

/-- The command is not permitted in this mode or lifecycle state: in recovery only STATUS and UPDATE of the Lodge
firmware, in Retired only STATUS, and no attestation or certificates in Blank and Return (R465, R471, R474). -/
def mboxBarred (s : State) (cmd : Nat) : Bool :=
  (s.lg.recovery && !(cmd == 1 || (cmd == 2 && s.lg.arg0 == 5))) ||
    (s.lg.lifecycle == 4 && cmd != 1) ||
    ((s.lg.lifecycle == 0 || s.lg.lifecycle == 3) && (cmd == 5 || cmd == 8))

/-- The fields that the command's row gives no value must be zero (R478). -/
def noArgs (s : State) : Bool := s.lg.arg0 == 0 && s.lg.arg1 == 0
def noBuffer (s : State) : Bool := s.lg.buf == 0 && s.lg.len == 0

/-- Output of STATUS. -/
def statusBytes (s : State) : List Byte :=
  flashReads s (copyBase s.lg.dirCopy) 256 ++ leBytes 1 s.lg.lifecycle.toNat ++
    (List.range 5).flatMap (fun k => leBytes 1 (counterOf s k)) ++ leBytes 1 s.lg.revoke.toNat ++ zeros 9 ++
    slice s.lg.serial 0 16

/-- MBOX_STATUS. -/
def execMboxStatus (g : MboxGo) (s : State) : Host.Outcome State Fault Refusal :=
  .next (
    match mboxStart s g 1 true with
    | (s1, false) => s1
    | (s1, true) =>
      if !noArgs s1 ∨ s1.lg.len.toNat < 288 then mboxEnd s1 2 0
      else if !g.bufOk then mboxEnd s1 7 0
      else mboxEnd (mboxOut s1 0 (statusBytes s1)) 0 288)

/-- Marks a kind's inactive slot with a state, its version and its length. -/
def recordSlot (s : State) (k : Nat) (v : Byte) (sv len : Nat) : State :=
  let x := slotOf s k
  let y := putSlotState x (!x.activeB) v
  let z := if x.activeB then { y with svA := BitVec.ofNat 32 sv, lenA := BitVec.ofNat 32 len }
    else { y with svB := BitVec.ofNat 32 sv, lenB := BitVec.ofNat 32 len }
  writeDirectory (setSlot s k z)

/-- The buffer of the command in hand cannot be reached, or the host link goes down: RESULT 7, and the slot that an UPDATE was to fill is
invalid (R478). -/
def mboxFail (s : State) : State :=
  if !s.lg.mboxGo then s
  else
    let k := s.lg.arg0.toNat - 5
    let fills := s.lg.mboxCmd == 2 && decide (5 ≤ s.lg.arg0.toNat) && decide (s.lg.arg0.toNat ≤ 9) && !(slotOf s k).trial
    mboxEnd (if fills then recordSlot s k 2 0 0 else s) 7 0

/-- MBOX_UPDATE (R462, R469): the image of the buffer goes into the inactive slot. A failed buffer access leaves that
slot invalid, and so does a failed write or read-back, which is logged as a bad read (R476). -/
def execMboxUpdate (g : MboxGo) (flashOk : Bool) (s : State) : Host.Outcome State Fault Refusal :=
  .next (
    match mboxStart s g 2 true with
    | (s1, false) => s1
    | (s1, true) =>
      let kind := s1.lg.arg0.toNat
      let k := kind - 5
      let n := s1.lg.len.toNat
      if mboxBarred s1 2 then mboxEnd s1 6 0
      else if kind < 5 ∨ 9 < kind ∨ s1.lg.arg1 ≠ 0 then mboxEnd s1 2 0
      else
        let x := slotOf s1 k
        if x.trial then mboxEnd s1 5 0
        else if !g.bufOk then mboxEnd (recordSlot s1 k 2 0 0) 7 0
        else
          let img := mboxIn s1 0 n
          if n < 416 ∨ field img 8 4 ≠ n then mboxEnd s1 2 0
          else
            match verifyImage s1 img kind (counterOf s1 k) with
            | some c => mboxEnd (logRejected s1 kind (!x.activeB) c) (checkResult c) 0
            | none =>
              let s2 := flashErase s1 (slotBase k (!x.activeB)) (slotSize k)
              if !flashOk then mboxEnd (recordSlot (logRejected s2 kind (!x.activeB) 7) k 2 0 0) 5 0
              else
                let s3 := flashWrites s2 (slotBase k (!x.activeB)) img
                mboxEnd (recordSlot s3 k 1 (field img 32 4) n) 0 0)

/-- MBOX_COMMIT (R463, R469). -/
def execMboxCommit (g : MboxGo) (s : State) : Host.Outcome State Fault Refusal :=
  .next (
    match mboxStart s g 4 false with
    | (s1, false) => s1
    | (s1, true) =>
      let k := s1.lg.arg0.toNat
      if mboxBarred s1 4 then mboxEnd s1 6 0
      else if 4 < k ∨ s1.lg.arg1 ≠ 0 ∨ !noBuffer s1 then mboxEnd s1 2 0
      else if !s1.lg.onTrial.getLsbD k then mboxEnd s1 8 0
      else
        let x := slotOf s1 k
        let b := !x.activeB
        let sv := (if b then x.svB else x.svA).toNat
        let c := max (counterOf s1 k) (min 64 sv)
        let s2 := writeDirectory (setSlot s1 k { x with activeB := b, trial := false, tried := false })
        let s3 := { s2 with lg := { s2.lg with
          onTrial := s2.lg.onTrial &&& ~~~ (BitVec.ofNat 5 (2 ^ k)), counters := s2.lg.counters.set k c } }
        mboxEnd (logEntry s3 0x0003 (leBytes 2 (kindCode k) ++ leBytes 1 c)) 0 0)

/-- MEASURE of a kind: its measurement, version and slot. A kind that runs no image has no measurement: free bytes (DESIGN CHOICE, log 100). -/
def measureOf (s : State) (k : Nat) : List Byte :=
  let runs := s.lg.booted.getLsbD k
  let b := if s.lg.onB.getLsbD k then 1 else 0
  if runs then
    slice ((s.lg.measures[k]?).getD []) 0 64 ++ leBytes 4 ((s.lg.versions[k]?).getD 0) ++ leBytes 1 b ++ zeros 3
  else leBytes 69 (Config.freeNat (s.free + k)) ++ zeros 3

/-- The 640 B attestation report (R472). -/
def attestReport (s : State) (nonce : List Byte) : List Byte :=
  let flags := b2n s.lg.haltUsed + (if s.lg.onTrial = 0 then 0 else 2) + (if s.rs.reduced then 4 else 0)
  let body := [0x41, 0x54, 0x53, 0x54] ++ leBytes 2 1 ++ leBytes 1 s.lg.lifecycle.toNat ++ leBytes 1 flags ++
    leBytes 8 (now s) ++ slice s.lg.serial 0 16 ++ slice nonce 0 64 ++ (List.range 5).flatMap (measureOf s) ++
    (List.range 5).flatMap (fun k => leBytes 1 (counterOf s k)) ++ leBytes 1 s.lg.revoke.toNat ++ zeros 2 ++ zeros 16
  body ++ slice (Config.aliasSign body) 0 132 ++ zeros 28

/-- MBOX_ATTEST. -/
def execMboxAttest (g : MboxGo) (s : State) : Host.Outcome State Fault Refusal :=
  .next (
    match mboxStart s g 5 true with
    | (s1, false) => s1
    | (s1, true) =>
      if mboxBarred s1 5 then mboxEnd s1 6 0
      else if !noArgs s1 ∨ s1.lg.len.toNat < 704 then mboxEnd s1 2 0
      else if !g.bufOk then mboxEnd s1 7 0
      else
        let r := attestReport s1 (mboxIn s1 0 64)
        let s2 := { s1 with free := s1.free + 5 }
        mboxEnd (mboxOut s2 64 r) 0 640)

/-- The log entry of a SEQ: from the ring where it still holds it, or else from the flash mirror, or in its place an entry of CODE 0 (R478). -/
def logOf (s : State) (seq : Nat) : List Byte :=
  let age := (s.lg.nextSeq - BitVec.ofNat 32 seq).toNat
  let ring := memReads s.mem (logRing + (seq % 16384) * 32) 32
  let page := flashReads s (0x40_0000 + (seq % 524288) * 32) 32
  if 1 ≤ age ∧ age ≤ 16384 ∧ field ring 0 4 = seq ∧ field ring 4 2 ≠ 0 then ring
  else if field page 0 4 = seq ∧ field page 4 2 ≠ 0 then page
  else leBytes 4 seq ++ zeros 28

/-- MBOX_LOG_READ. -/
def execMboxLogRead (g : MboxGo) (s : State) : Host.Outcome State Fault Refusal :=
  .next (
    match mboxStart s g 6 true with
    | (s1, false) => s1
    | (s1, true) =>
      let n := s1.lg.arg1.toNat
      if mboxBarred s1 6 then mboxEnd s1 6 0
      else if n = 0 ∨ 65536 < n ∨ 0xFFFFFFFF < s1.lg.arg0.toNat ∨ s1.lg.len.toNat < 32 * n then mboxEnd s1 2 0
      else if !g.bufOk then mboxEnd s1 7 0
      else
        let out := (List.range n).flatMap (fun i => logOf s1 ((s1.lg.arg0.toNat + i) % 0x1_0000_0000))
        mboxEnd (mboxOut s1 0 out) 0 (32 * n))

/-- The DeviceID certificate in the flash (R459). -/
def deviceCert (s : State) : List Byte :=
  flashReads s 0x3D_0004 (min 0xFFFC (leNat (flashReads s 0x3D_0000 4)))

/-- The certificate chain of R471: DeviceID certificate, then Alias certificate. -/
def certChain (s : State) : List Byte := deviceCert s ++ Config.aliasCert s.lg.measures s.lg.versions

/-- MBOX_CERTS. -/
def execMboxCerts (g : MboxGo) (s : State) : Host.Outcome State Fault Refusal :=
  .next (
    match mboxStart s g 8 true with
    | (s1, false) => s1
    | (s1, true) =>
      let chain := certChain s1
      if mboxBarred s1 8 then mboxEnd s1 6 0
      else if !noArgs s1 ∨ s1.lg.len.toNat < chain.length then mboxEnd s1 2 0
      else if !g.bufOk then mboxEnd s1 7 0
      else mboxEnd (mboxOut s1 0 chain) 0 chain.length)

end Sys2Proof.Machine
end

