-- ==== Sys2Proof/Machine/Resets.lean ====
section
/-! DEFINITION. The resets below package cold reset (R421 to R429, R504): tile, partition, die, hub warm and
function-level reset. -/

namespace Sys2Proof.Machine

/-! ## Tile reset (R60, R421) -/

/-- TILE_RESET: the tile's work is replayed, TI_STATUS, TI_NEXT and TI_YIELD_WD clear; shelves, counters and checks
stay (R60, R92, R101). The tile has changed state: GENERATION advances (R241). -/
def execTileReset (tl : TileId) (s : State) : Host.Outcome State Fault Refusal :=
  .next (
    let x := tileOf s tl
    if x.state = .fenced ∨ x.state = .inReset then s else bumpTopology (tileGone s tl))

/-! ## Partition reset (R424, R428, R429) -/

/-- The item belongs to the class: its queue does. -/
def itemClass (s : State) (x : Item) : Class := (queueOf s x.id.queue).cls

/-- Contexts of a class that are not FREE. -/
def classContexts (s : State) (c : Class) : List CtxId :=
  (s.gh.contexts.filter (fun e => e.2.state != .free && e.2.cls == c)).map (fun e => ctxId e.1)

/-- Chains and COPY transfers of a class: the time of issue, context and tile of the engine (R429). The transactions of a
transfer are taken to be as old as the transfer (DEDUCED, log 88). -/
def classTags (s : State) (c : Class) : List (Nat × CtxId × TileId) :=
  (s.tl.chains.filter (fun x => (ctxOf s x.ctx).cls == c)).map (fun x => (x.born, x.ctx, x.tile)) ++
    s.gh.items.filterMap (fun x => match x.engine with
      | some tl => if (ctxOf s (dCtx x.desc)).cls = c then some (x.engineAt, dCtx x.desc, tl) else none
      | none => none)

/-- Of the tiles that hold an instance of the class, the one on which it has been longest. -/
def longestOn (s : State) (c : Class) : Option (Nat × CtxId × TileId) :=
  ((s.tl.tiles.filter (fun e => e.2.inst.isSome && (ctxOf s e.2.ctx).cls == c)).map
    (fun e => (e.2.enteredAt, e.2.ctx, tileId e.1))).foldl (fun a x => match a with
      | none => some x
      | some y => if x.1 < y.1 then some x else some y) none

/-- The stuck context and unit (R429); `holder` is the unit that holds the oldest transaction. -/
def stuckOf (s : State) (c : Class) (holder : BitVec 16) : Option (CtxId × BitVec 16) :=
  let oldest := (classTags s c).foldl (fun a x => match a with
    | none => some x
    | some y => if x.1 < y.1 then some x else some y) none
  match oldest with
  | some (_, k, _) => some (k, holder)
  | none => (longestOn s c).map (fun x => (x.2.1, tileUnit x.2.2))

/-- Step 2 for one context: CLOSING, VACATE to each tile that holds it, its items have their verdict and its instances that
hold no tile stop. -/
def closeForPartition (det : Word32) (s : State) (c : CtxId) : State :=
  let s1 := resumeHalted (modCtx s c (fun k => { k with state := .closing })) c
  let s2 := (tilesWhere s1 (fun _ k => k == c)).foldl vacateTile s1
  closeItems (stopIdle s2 c) c stPartitionReset det

/-- Steps 1 and 2 of a partition reset. -/
def partitionStart (s : State) (c : Class) (x : PartitionRun) : State :=
  let stuck := stuckOf s c x.holder
  let s1 := { s with rs := { s.rs with
    partBusy := true, partClass := BitVec.ofNat 2 (classCode c), partResult := 0, purged := 0, partLength := x.durationUs,
    stuckValid := stuck.isSome,
    stuckCtx := (stuck.map (fun x => BitVec.ofNat 10 x.1.val)).getD s.rs.stuckCtx,
    stuckUnit := (stuck.map (fun x => x.2)).getD s.rs.stuckUnit,
    partStep2 := some (now s), partStep3 := none } }
  (classContexts s1 c).foldl (closeForPartition (BitVec.ofNat 32 (classCode c))) s1

/-- An accepted, unpublished item of the class completes with ST_PARTITION_RESET (R60, R428): a stored record is
replaced, a section that waits for its boundary does not take effect. A cycle's plan item is no other case (R333). -/
def partitionItem (s : State) (x : Item) : State :=
  let det := BitVec.ofNat 32 (classCode (itemClass s x))
  if x.stage = .done then
    let y := { x with verdict := some (stPartitionReset, det), golden := .none }
    let s1 := { s with
      fe := { s.fe with waiting := s.fe.waiting.filter (fun w => w.item != x.id) },
      mz := { s.mz with waiting := s.mz.waiting.filter (fun w => w.item != x.id) } }
    journalWrite (modItem s1 x.id (fun _ => y)) x.id 72
      (recordBytes (queueOf s1 x.id.queue) y stPartitionReset det (now s1))
  else
    completeItem (modItem s x.id (fun y => { y with todo := [], engine := none, error := none, golden := .none }))
      x.id stPartitionReset det

/-- Every sensor is TRUSTED again with confidence 15 and runs of 0 (R299). -/
def trustSensors (s : State) : State :=
  { s with fe := { s.fe with sensors := s.fe.sensors.map (fun e => (e.1, { e.2 with
      vote := 0, confidence := 15, disagree := 0, staleRun := 0, frozenRun := 0, clean := 0, marked := false })) } }

/-- Every shelf of a class that is not fenced is scrubbed and free. -/
def scrubClass (s : State) (c : Class) : State :=
  let mine (a : Nat) : Bool := decide (shelfBase 0 ≤ a) && decide (a < shelfBase 65536) &&
    shelfClass s.part ((a - shelfBase 0) / 65536 % 256) == c
  { s with
    mem := s.mem.filter (fun e => !mine e.1),
    tl := { s.tl with
      badWords := s.tl.badWords.filter (fun w => !mine w),
      softWords := s.tl.softWords.filter (fun w => !mine w),
      shelves := s.tl.shelves.filter (fun e => e.2 == .fenced || shelfClass s.part (e.1 % 256) != c) } }

/-- The class's sync range is 0 (R60). -/
def clearRange (s : State) (c : Class) : State :=
  { s with sync := { s.sync with
      counters := s.sync.counters.filter (fun e => !inSyncRange s.part c e.1),
      waiting := s.sync.waiting.filter (fun o => !inSyncRange s.part c o.id.toNat) } }

/-- Steps 4 and 5: items, sync range, shelves, translations, contexts (R428). The blocks are left to be scrubbed. -/
def partitionFinish (s : State) (c : Class) : State :=
  let s1 := setChains s (s.tl.chains.filter (fun x => (ctxOf s x.ctx).cls != c))
  let live := s1.gh.items.filter (fun x => itemLive x && itemClass s1 x == c)
  let s2 := live.foldl partitionItem s1
  let s3 := (classContexts s2 c).foldl freeContext s2
  let s4 := scrubClass (clearRange s3 c) c
  let s5 := if c = .d then trustSensors s4 else s4
  { s5 with rs := { s5.rs with
      partBusy := false, partStep2 := none, partStep3 := none, durationUs := BitVec.ofNat 16 (min 0xFFFF s5.rs.partLength) } }

/-! ## Function-level reset (R503, R504) -/

/-- A queue is disabled at once and its items are gone with no record (R60). -/
def dropQueue (s : State) (q : QueueId) : State :=
  let x := queueOf s q
  if !x.enable then s
  else
    let s1 := { s with gh := { s.gh with items := s.gh.items.filter (fun y => y.id.queue != q) } }
    setQueue s1 q { x with
      enable := false, clearPending := false, fetched := none, block := [], fetchFailed := false }

/-- A function-level reset whose partitions are reset disables the function's queues (R424, R504): a virtual function's
state goes, and of the physical function's the SR-IOV capability returns to its reset values. -/
def dropFunction (s : State) (f : Nat) : State :=
  let own := (s.gh.queues.filter (fun e => e.2.enable && (f == 0 || e.2.function.toNat == f))).map (fun e => queueId e.1)
  let s1 := own.foldl dropQueue s
  if f = 0 then { s1 with hi := { s1.hi with vfEnable := false, numVfs := 0, fns := [] } }
  else { s1 with hi := { s1.hi with fns := tabDel s1.hi.fns f } }

/-- The function-level resets that wait for partition resets end. -/
def finishFlrs (s : State) : State :=
  s.rs.flrWaits.foldl dropFunction { s with rs := { s.rs with flrWaits := [] } }

/-! ## The run of a partition reset (R424, R428) -/

/-- The yield interval bound plus the switch bound of a tile in ns, at its die's level (R99, R106, R428). -/
def yieldBoundNs (s : State) (tl : TileId) : Nat :=
  (30300 * periodUnits (kilnPower s (tileDie tl)).level.toNat + 107) / 108

/-- Tiles that hold an instance of the class. -/
def classTiles (s : State) (c : Class) : List TileId := tilesWhere s (fun _ k => (ctxOf s k).cls == c)

/-- The running partition reset goes on: in step 2 a tile whose instance is past its bound is reset; with no tile left step 3
begins, and with every counter at 0 steps 4 and 5 end it. -/
def partitionGoOn (s : State) (c : Class) : State :=
  match s.rs.partStep3, s.rs.partStep2 with
  | some _, _ => if (classTags s c).isEmpty then partitionFinish s c else s
  | none, some t0 =>
    let late := (classTiles s c).filter (fun tl => decide (t0 + yieldBoundNs s tl ≤ now s))
    let s1 := late.foldl (fun a tl => bumpTopology (tileGone a tl)) s
    if !(classTiles s1 c).isEmpty then s1
    else if (classTags s1 c).isEmpty then partitionFinish s1 c
    else { s1 with rs := { s1.rs with partStep2 := none, partStep3 := some (now s1) } }
  | none, none => s

/-- The length of a partition reset that a function-level reset makes, and the unit that holds the oldest transaction, are
not stated: free values (DESIGN CHOICE, log 174). -/
def ownRun (s : State) : PartitionRun := ⟨freeValue s, BitVec.ofNat 16 (freeValue (drawFree s) % (6 * 8192))⟩

/-- With no partition reset running the next that waits starts; with none waiting the function-level resets end. -/
def partNext : Nat → State → State
  | 0, s => s
  | n + 1, s =>
    if s.rs.partBusy then s
    else
      match s.rs.partQueue with
      | [] => finishFlrs s
      | c :: l =>
        let s1 := { s with rs := { s.rs with partQueue := l } }
        partNext n (partitionGoOn (partitionStart (drawFree (drawFree s1)) c (ownRun s1)) c)

/-- PARTITION_RESET: a keyed write of GH_PART_RESET by the physical function (R422). It waits in step 2 for tiles that hold
the class, and in step 3 for its transactions. -/
def execPartitionReset (f : FnId) (v : Word32) (t : Nat) (x : PartitionRun) (s : State) : Host.Outcome State Fault Refusal :=
  .next (
    let s := atTime t s
    if !pfReaches s f ∨ bits v.toNat 31 16 ≠ 0x96A5 then s
    else
      match classOf (bits v.toNat 1 0) with
      | none => s
      | some c =>
        if s.rs.partBusy then { s with rs := { s.rs with partResult := 1 } }
        else partNext 4 (partitionGoOn (partitionStart s c x) c))

/-- PARTITION_PURGE_TIMEOUT: the running partition reset goes on; 3 ms into step 3 the units that still hold tags discard
them, count them in PURGED and report cause 0x0C (R428). -/
def execPartitionPurgeTimeout (x : PartitionPurge) (s : State) : Host.Outcome State Fault Refusal :=
  .next (
    let s := atTime x.t s
    let c := classOfD s.rs.partClass.toNat
    if !s.rs.partBusy then s
    else
      let s1 := partitionGoOn s c
      partNext 4 (match s1.rs.partBusy, s1.rs.partStep3 with
        | true, some t0 =>
          if now s1 < t0 + 3000000 then s1
          else
            let s2 := { s1 with rs := { s1.rs with purged := satAdd s1.rs.purged (x.holders.map (fun e => e.2)).sum } }
            partitionFinish (x.holders.foldl (fun a e => openReport a (unitDie e.1) e.1 0x0C none) s2) c
        | _, _ => s1))

/-- Function-level resets of some functions: each partition of theirs is reset, one after the other, a running reset is
joined, and then their queues are disabled (R424, R503, R504). -/
def resetFunctions (s : State) (fs : List Nat) : State :=
  let need := classes.filter (fun c => fs.any (fun f => f == 0 || classFunction s c == f))
  let running (c : Class) : Bool := (s.rs.partBusy && s.rs.partClass.toNat == classCode c) || s.rs.partQueue.contains c
  partNext 4 { s with rs := { s.rs with
    partQueue := s.rs.partQueue ++ need.filter (fun c => !running c),
    flrWaits := s.rs.flrWaits ++ fs.filter (fun f => !s.rs.flrWaits.contains f) } }

/-- FUNCTION_LEVEL_RESET (R504): a virtual function's partitions and queues; of the physical function every
partition and queue, with the SR-IOV capability at its reset values. -/
def execFunctionLevelReset (f : FnId) (t : Nat) (s : State) : Host.Outcome State Fault Refusal :=
  .next (
    let s := atTime t s
    if fnExists s f.val then resetFunctions s [f.val] else s)

/-- SRIOV_VF_CHANGE: every virtual function that ceases to exist is reset (R502, R503). A NumVFs above 8 leaves the
field as it is. -/
def execSriovVfChange (enable : Bool) (numVfs : Nat) (t : Nat) (s : State) : Host.Outcome State Fault Refusal :=
  .next (
    let s := atTime t s
    let n := if 8 < numVfs then s.hi.numVfs.toNat else numVfs
    let gone := ((List.range 9).drop 1).filter (fun f => fnExists s f && !(enable && decide (f ≤ n)))
    let s1 := resetFunctions s gone
    { s1 with hi := { s1.hi with vfEnable := enable, numVfs := BitVec.ofNat 4 n } })

/-! ## Hub warm reset (R60, R299, R337, R423 to R425) -/

/-- An item at a hub warm reset (R60): a done one keeps its record with SIGNALS_DROPPED, any other completes with
ST_RESET_ABORTED. -/
def abortItem (s : State) (x : Item) : State :=
  if x.stage = .rejected then s
  else if x.stage = .done then
    let y := { x with dropped := true, golden := .none }
    let v := x.verdict.getD (0, 0)
    journalWrite (modItem s x.id (fun _ => y)) x.id 72 (recordBytes (queueOf s x.id.queue) y v.1 v.2 (now s))
  else
    completeItem (modItem s x.id (fun y => { y with todo := [], engine := none, error := none, golden := .none }))
      x.id stResetAborted 0

/-- A tile at a hub warm reset: free, unless it is fenced, in reset or runs a self-test segment. -/
def hubTile (x : Tile) : Tile :=
  let y := { x with tlb := [], next := none, dbg := { x.dbg with state := 0, stepping := false, passing := false } }
  if x.state = .fenced ∨ x.state = .inReset ∨ x.state = .selfTest then y
  else { freeTile y with next := none }

/-- Windows open at the present phase under the default schedule (R346). -/
def defaultOpen (s : State) : Byte :=
  BitVec.ofNat 8 (((List.finRange 8).map (fun i =>
    if openAtPhase defaultSchedule[i] (now s % 1000000) then 2 ^ i.val else 0)).sum)

/-- The partitions' registers at a hub warm reset: those of GH_PART stay, the schedule and the regulators return to
their reset values. -/
def hubPartition (s : State) : Partition :=
  { partitionReset with
    dShelves := s.part.dShelves, bShelves := s.part.bShelves, dMem := s.part.dMem, bMem := s.part.bMem,
    mapQm := s.part.mapQm, mapB := s.part.mapB, mapD := s.part.mapD, busyErr := s.part.busyErr,
    rangeErr := s.part.rangeErr, openMask := defaultOpen s }

/-- The Maze at a hub warm reset: section 0x13 and the fences stay (R337). -/
def hubMaze (m : Maze) : Maze :=
  { mazeReset with
    config := m.config.filter (fun e => e.1 == 0x13),
    fenced0 := m.fenced0, fenced1 := m.fenced1, searchFenced := m.searchFenced }

/-- Every block that a context owned is to be scrubbed (R237); lent blocks stay lent. -/
def hubBlocks (l : Tab BlockUse) : Tab BlockUse :=
  l.map (fun e => match e.2 with
    | .owned _ _ => (e.1, .scrubbing)
    | _ => e)

/-- Both ends of the hub die's modules, and Pergola, run their reset sequence (R409, R423). -/
def hubLinks (s : State) : State :=
  let s1 := (modulesOf 4).foldl (fun a i => bothEnds a 4 i resetEnd) s
  pairLost { s1 with ln := { s1.ln with pergola := resetEnd s1.ln.pergola } }

/-- A queue with no descriptor in hand. -/
def idleFetch (e : Nat × Queue) : Nat × Queue :=
  (e.1, { e.2 with fetched := none, block := [], fetchFailed := false })

/-- A tile of the table at a hub warm reset. -/
def hubTileEntry (e : Nat × Tile) : Nat × Tile := (e.1, hubTile e.2)

/-- The hub's work: items, instances, chains, contexts, shelves, sync objects (R60). PUBLISHED counts since cold reset and
stays (R76), and HEARTBEAT too, on which the manual gives a reset no effect (DESIGN CHOICE, log 131). -/
def hubWork (s : State) : State :=
  let s1 : State := { s with
    gh := { s.gh with insts := [] },
    tl := { s.tl with chains := [], tiles := s.tl.tiles.map hubTileEntry },
    fe := { s.fe with waiting := [] },
    mz := { s.mz with waiting := [] } }
  let s2 : State := s1.gh.items.foldl abortItem s1
  { s2 with
    mem := memClear s2.mem (shelfBase 0) (shelfBase 65536),
    tl := { s2.tl with shelves := s2.tl.shelves.filter (fun e => e.2 == .fenced), badWords := [], softWords := [] },
    sync := syncReset,
    gh := { s2.gh with
      contexts := [],
      queues := s2.gh.queues.map idleFetch,
      ctxSelect := 0, faultCtx := gatehouseReset.faultCtx, lateDrop := 0, progress := [],
      moved := [false, false, false], batchSelect := 0, rejectEntries := 0, rejectItems := 0 } }

/-- The memory system at a hub warm reset: the hub's translation registers return to reset, the channels, the dies
and lent blocks stay. -/
def hubMemory (m : MemSys) : MemSys :=
  { memSysReset with
    badGranules := m.badGranules, softGranules := m.softGranules, channels := m.channels, dies := m.dies, blocks := hubBlocks m.blocks,
    generation := m.generation + 2 }

/-- The configuration of fusion and the Maze is cleared: the schedule, the watchdogs and the golden table go back to
their values after package cold reset (R299, R337). -/
def clearConfig (s : State) : State :=
  let s1 : State := endPlanQueue s
  mazeIdleCause { s1 with
    mem := memClear s1.mem storeBase 0x6000_2208_0000,
    part := { s1.part with schedule := defaultSchedule, openMask := defaultOpen s1 },
    fe := fusionReset, mz := hubMaze s1.mz,
    bv := { s1.bv with wd := defaultWatchdogs, golden := [], reserved := [], judged := 0, owed := 0 } }

/-- Reduced mode ends (R419). Sundial goes on to its source (R268); a free-running one has none to return to. -/
def leaveReduced (s : State) : State :=
  let s1 := setRate { s with rs := { s.rs with reduced := false } } false
  if s1.sun.state = .holdover ∧ sunSource s1 = 0 ∧ !pairDisciplined s1 then
    { s1 with sun := { s1.sun with state := .freeRun, ppb := 0 } }
  else s1

/-- Hub warm reset; `perst` when PERST_N triggered it, which resets the PCI Express endpoint too. -/
def hubReset (s : State) (perst : Bool) : State :=
  let s1 : State := hubWork (clearConfig s)
  let s2 : State := { s1 with
    ms := hubMemory s1.ms, part := hubPartition s1,
    ln := { s1.ln with partnerCtx := [] },
    bv := { s1.bv with points := [], held := [] },
    db := { s1.db with ghState := 0, ghCause := 0 },
    rs := { s1.rs with
      busy := false, result := 0, hubWaits := none,
      partResult := if s1.rs.partBusy then 2 else s1.rs.partResult, partBusy := false, partStep2 := none, partStep3 := none,
      partQueue := [] } }
  let s3 := hubLinks (finishFlrs s2)
  let s4 := if s3.rs.reduced && s3.rs.refValid then leaveReduced s3 else s3
  if perst then
    mboxFail { s4 with hi := { s4.hi with
      vfEnable := false, numVfs := 0, aer := [], fns := [], linkUp := false, linkSpeed := 0, linkWidth := 0 } }
  else s4

/-! ### The dump before it (R430) -/

/-- GH_FAULT_CTX as read. -/
def faultCtxReg (s : State) : Nat :=
  let x := s.gh.faultCtx
  x.ctx.toNat + x.status.toNat * 2 ^ 16 + x.tile.toNat * 2 ^ 32 + b2n x.tileValid * 2 ^ 40 + b2n x.valid * 2 ^ 63

/-- GH_PART_RESET_STATUS as read. -/
def partResetReg (s : State) : Nat :=
  let r := s.rs
  b2n r.partBusy + r.partClass.toNat * 2 + r.partResult.toNat * 8 + b2n r.stuckValid * 32 + r.stuckCtx.toNat * 64 +
    r.stuckUnit.toNat * 2 ^ 16 + r.purged.toNat * 2 ^ 32 + r.durationUs.toNat * 2 ^ 48

/-- A dump starts: its time, trigger and the two registers of its header. -/
def startDump (s : State) (trigger : Byte) : State :=
  { s with rs := { s.rs with
      dumpGo := true, dumpStart := now s, dumpTrigger := trigger, dumpFault := BitVec.ofNat 64 (faultCtxReg s),
      dumpPart := BitVec.ofNat 64 (partResetReg s) } }

/-- A hub warm reset is asked for: with AUTO it waits for its dump; one that waits already is the same reset. -/
def askHubReset (s : State) (perst : Bool) : State :=
  match s.rs.hubWaits with
  | some p => { s with rs := { s.rs with hubWaits := some (p || perst) } }
  | none =>
    if s.rs.dumpAuto then
      let s1 := { s with rs := { s.rs with hubWaits := some perst } }
      if s.rs.dumpGo then s1 else startDump s1 1
    else hubReset s perst

/-- PERST_N (R421). -/
def execPerstN (t : Nat) (s : State) : Host.Outcome State Fault Refusal :=
  .next (let s := atTime t s; if packageUp s then askHubReset s true else s)

/-- TL_RESET_HUB: a keyed write of TL_RESET with LEVEL 1 by the physical function (R422, R425). -/
def execTlResetHub (f : FnId) (v : Word32) (t : Nat) (s : State) : Host.Outcome State Fault Refusal :=
  .next (
    let s := atTime t s
    if pfReaches s f ∧ bits v.toNat 31 16 = 0x5AC3 ∧ v.getLsbD 3 ∧ packageUp s then askHubReset s false else s)

/-! ## Die reset (R426, R427) -/

/-- A tile at its die's reset: every register at its reset value; its fence, the hold for a targeted test that it has not
passed (R144), last full test and TI_SHELF_ECC.LAST_UE are the tile's own. -/
def dieTile (x : Tile) : Tile :=
  { tileReset with
    state := if x.state = .fenced then .fenced else .free, testing := x.testing, tested := x.tested, lastUe := x.lastUe, ue := x.ue }

/-- The die's tiles return to reset. -/
def resetTiles (s : State) (k : KilnId) : State :=
  { s with tl := { s.tl with tiles := s.tl.tiles.map (fun e =>
      (e.1, if e.1 / 64 = k.val then dieTile e.2 else e.2)) } }

/-- Every channel of the die that is not fenced is in service again. -/
def trainChannels (s : State) (k : KilnId) : State :=
  (List.range 8).foldl (fun a c =>
    let x := channelOf a k.val c
    if x.state = 1 then a else setChannel a k.val c { x with state := 0, reduced := s.rs.reduced }) s

/-- The die starts at P5 with no request in progress (R434). -/
def restartPower (s : State) (k : KilnId) : State :=
  let x := kilnPower s k
  setKilnPower s k { x with
    level := 5, parked := false, avsPending := false, request := none, queued := none, noRaise := false, retryAt := none,
    lowered := none, roomSince := none, grants := [],
    changes := if x.level = 5 then x.changes else satInc x.changes }

/-- Both ends of a die's modules run the reset sequence. -/
def resetModules (s : State) (d : Nat) : State := (modulesOf d).foldl (fun a i => bothEnds a d i resetEnd) s

/-- The loss detector of the die's forwarded clock lets the die go. -/
def clockBack (s : State) (d : Nat) : State :=
  { s with rs := { s.rs with clockOut := s.rs.clockOut &&& ~~~ (BitVec.ofNat 6 (2 ^ d)) } }

/-- Steps 4 to 6 for a Kiln die: modules, shelves, tiles, channels, replica, level (R426). -/
def startKiln (l : List (ModuleId × TrainingAttempt)) (s : State) (k : KilnId) : State :=
  let s1 := clearShelves (resetModules s k.val) k
  let s2 := clockBack (restartPower (trainChannels (resetTiles s1 k) k) k) k.val
  trainDie (setReplica s2 k.val .resync) k.val l

/-- Steps 1 to 8 for a Kiln die. A die that was lost comes back with it. -/
def resetKiln (s : State) (k : KilnId) (o : StartupOutcome) : State :=
  let s1 := noteMirrors (setDie s k.val .reset) k.val
  let s2 := startKiln o.training (dieWork s1 k) k
  let s3 := noteMirrors (setDie s2 k.val .service) k.val
  bumpTopology (dieStartup s3 k.val o)

/-- The Maze as a reset of its die leaves it: sections 0x10 to 0x13, the Gatehouse's copy of PLAN_QUEUE and RESULT_BASE,
the cycle's publication and the last consistent machine state stay (R310, R337, R427). -/
def mazeDieReset (m : Maze) : Maze :=
  { m with
    config := m.config.filter (fun e => decide (0x10 ≤ e.1) && decide (e.1 ≤ 0x13)),
    waiting := m.waiting.filter (fun w => decide (0x10 ≤ w.secNo) && decide (w.secNo ≤ 0x13)),
    loading := 0, loaded := 0, bank0 := bankDescReset, bank1 := bankDescReset, newest := 0, region := 0xF,
    bound := none, newer := false, aged := false, edges := [],
    chain := none, rechecking := false, running := false, pc := 0, opened := none, checkEpoch := 0, checkSpeed := 0 }

/-- Steps 1, 2, 4, 5 and 8 for the Maze die, and its checks (R427). -/
def resetMaze (s : State) (o : StartupOutcome) : State :=
  let s1 : State := resetModules (mazeGone s .reset) 5
  let s2 : State := { s1 with
    mem := memClear s1.mem storeBase 0x6000_2208_0000,
    tl := { s1.tl with
      badWords := s1.tl.badWords.filter (fun w => decide (w < storeBase) || decide (0x6000_2208_0000 ≤ w)),
      softWords := s1.tl.softWords.filter (fun w => decide (w < storeBase) || decide (0x6000_2208_0000 ≤ w)) },
    mz := mazeDieReset s1.mz }
  let s3 := setDie (trainDie (setReplica (clockBack s2 5) 5 .resync) 5 o.training) 5 .service
  bumpTopology (mazeIdleCause (dieStartup s3 5 o))

/-- TL_RESET_DIE: a keyed write of TL_RESET with LEVEL 0 by the physical function (R422, R424, R426, R427). -/
def execTlResetDie (f : FnId) (v : Word32) (t : Nat) (o : StartupOutcome) (s : State) : Host.Outcome State Fault Refusal :=
  .next (
    let s := atTime t s
    let d := bits v.toNat 2 0
    if !pfReaches s f ∨ bits v.toNat 31 16 ≠ 0x5AC3 ∨ v.getLsbD 3 ∨ !packageUp s then s
    else if d = 4 ∨ 5 < d ∨ dieState s d = .fenced ∨ s.rs.busy then { s with rs := { s.rs with result := 1 } }
    else
      let s1 := if d = 5 then resetMaze s o else resetKiln s (kilnId d) o
      { s1 with rs := { s1.rs with die := BitVec.ofNat 3 d, result := 0 } })

end Sys2Proof.Machine
end

