-- ==== Sys2Proof/Machine/Power.lean ====
section
/-! DEFINITION. Performance levels and the governor (R30, R434 to R438), voltage requests (R439 to R441), current steps
(R442), temperatures, the cap law, flow stop and trip (R451 to R456). -/

namespace Sys2Proof.Machine

/-! ## Fractions and their registers -/

/-- A fraction in lowest terms. -/
def frac (n : Int) (d : Nat) : Frac :=
  let g := max 1 (Nat.gcd n.natAbs d)
  ⟨n / g, max 1 (d / g)⟩

def fracAdd (a b : Frac) : Frac := frac (a.num * b.den + b.num * a.den) (a.den * b.den)
def fracSub (a b : Frac) : Frac := frac (a.num * b.den - b.num * a.den) (a.den * b.den)
def fracMul (a b : Frac) : Frac := frac (a.num * b.num) (a.den * b.den)

/-- `a / b` for a positive `b`. -/
def fracDiv (a b : Frac) : Frac := frac (a.num * b.den) (a.den * b.num.toNat)

def fracLt (a b : Frac) : Bool := decide (a.num * b.den < b.num * a.den)
def fracMin (a b : Frac) : Frac := if fracLt b a then b else a
def fracMax (a b : Frac) : Frac := if fracLt a b then b else a

/-- A fraction times `scale` as a register shows it: exact where it is whole; else one of the two neighbours, by a free
value, since the manual does not say how it is rounded (DEDUCED, log 94). -/
def fracShow (free : Nat) (scale : Nat) (a : Frac) : Int :=
  let n := a.num * scale
  n / a.den + (if n % a.den = 0 then 0 else ((free % 2 : Nat) : Int))

/-- One of a list, by a free value: for a tie that the manual does not break (DESIGN CHOICE, log 95). -/
def pickOne {α : Type} (free : Nat) (l : List α) : Option α := l[free % max 1 l.length]?

/-! ## Voltage requests (R435 to R441) -/

/-- Parks a die that draws `mw` (R438). It will resume at P5: a raise that waits is cancelled (R437). -/
def parkDie (s : State) (k : KilnId) (mw : Nat) : State :=
  let s1 := setKilnPower s k { cancelRaise (kilnPower s k) with parked := true, parkDraw := mw, roomSince := none }
  ((List.range 64).map (tileOn k)).foldl vacateTile s1

/-- The fastest level allowed: PM_KILN.CEILING, or P1 when it is faster than P1 in reduced mode (R435). -/
def ceilingOf (s : State) (k : KilnId) : Nat :=
  max (kilnPower s k).ceiling.toNat (if s.rs.reduced then 1 else 0)

/-- Full-load draw of a level in W (R434). -/
def fullLoad (level : Nat) : Nat := ([72, 57, 44, 32, 22, 14][level]?).getD 14

/-- Voltage of a level in mV (R434). -/
def levelMv (level : Nat) : Nat := ([800, 750, 700, 650, 600, 550][level]?).getD 550

/-- A voltage request that failed is due again (R441). -/
def retryDue (s : State) (k : KilnId) : State :=
  let x := kilnPower s k
  match x.retryAt with
  | some (t0, raise, level) =>
    if t0 ≤ now s ∧ x.request.isNone then sendRequest s k raise level else s
  | none => s

/-- What the governor does with a parked die: it unparks once its share has had room for 1 ms (R438). -/
def parkedTick (s : State) (k : KilnId) (share : Frac) : State :=
  let x := kilnPower s k
  let room := !fracLt share (frac (x.parkDraw + 2000) 1000)
  match x.roomSince with
  | none => if room then setKilnPower s k { x with roomSince := some (now s) } else s
  | some t0 =>
    if !room then setKilnPower s k { x with roomSince := none }
    else if t0 + 1000000 ≤ now s then setKilnPower s k { x with parked := false, roomSince := none }
    else s

/-- The decision of R435 for a die whose draws over 100 µs and 1 ms are in mW. -/
def decideDie (s : State) (k : KilnId) (share : Frac) (d100 d1000 : Nat) : State :=
  let x := kilnPower s k
  let n := x.level.toNat
  let quiet := match x.lowered with
    | some t0 => decide (t0 + 1000000 ≤ now s)
    | none => true
  let scaled := frac (d1000 * fullLoad (n - 1) * 100) (1000 * fullLoad n * 95)
  if fracLt share (frac d100 1000) then (if n < 5 then lowerDie s k else parkDie s k d100)
  else if n < ceilingOf s k then lowerDie s k
  else if ceilingOf s k < n ∧ quiet = true ∧ !fracLt share scaled ∧ x.request.isNone ∧ !x.noRaise then
    sendRequest s k true (x.level - 1)
  else s

/-- The share of each Kiln die in service (R30). -/
def dieShare (s : State) (d : PowerDraws) : Frac :=
  let fixed := frac (min d.hub 32000 + min d.maze 14000 + min d.lpddr 16000) 1000
  let each := fracDiv (fracSub s.pw.capExact fixed) ⟨max 1 (kilnsIn s).length, 1⟩
  fracMax ⟨0, 1⟩ (fracMin each ⟨72, 1⟩)

/-- One die's part of a governor tick. -/
def tickDie (d : PowerDraws) (share : Frac) (s : State) (k : KilnId) : State :=
  let d100 := (d.kiln100us[k.val]?).getD 0
  let d1000 := (d.kiln1ms[k.val]?).getD 0
  let y := { kilnPower s k with
    drawMw := d100,
    shareW := BitVec.ofInt 8 (fracShow (freeValue s) 1 share),
    drawW := BitVec.ofInt 8 (min 255 (fracShow (Config.freeNat (s.free + 1)) 1 (frac d100 1000))) }
  let s1 := retryDue (setKilnPower (drawFree (drawFree s)) k y) k
  if y.parked then parkedTick s1 k share else decideDie s1 k share d100 d1000

/-- GOVERNOR_TICK (R30, R435, R437, R438). -/
def execGovernorTick (d : PowerDraws) (t : Nat) (s : State) : Host.Outcome State Fault Refusal :=
  .next (
    let s := atTime t s
    if !packageUp s then s else (kilnsIn s).foldl (tickDie d (dieShare s d)) s)

/-- PM_KILN_CEILING_WRITE: CEILING, which holds the die from the next governor tick on (R435). -/
def execPmKilnCeilingWrite (f : FnId) (k : KilnId) (v : Word64) (s : State) : Host.Outcome State Fault Refusal :=
  .next (
    let c := bits v.toNat 5 3
    if !pfReaches s f ∨ 5 < c then s
    else setKilnPower s k { kilnPower s k with ceiling := BitVec.ofNat 3 c })

/-- Repeated attempts of a request (PM_AVS_STATUS.RETRIES). -/
def countRetries (s : State) (n : Nat) : State := { s with pw := { s.pw with retries := satAdd s.pw.retries n } }

/-- The request that follows one that has ended: the voltage of a level that a lowering chose meanwhile (R437). -/
def afterRequest (s : State) (k : KilnId) : State :=
  let x := kilnPower s k
  match x.queued with
  | some l => sendRequest (setKilnPower s k { x with queued := none }) k false l
  | none => s

/-- AVS_REQUEST: the die's voltage request completes at `mv`, within 10 mV of its target, after at most three repeats;
a raise not cancelled then takes the frequency up (R436, R437, R440). -/
def execAvsRequest (k : KilnId) (retries : Nat) (mv : Nat) (s : State) : Host.Outcome State Fault Refusal :=
  .next (
    let x := kilnPower s k
    match x.request with
    | none => s
    | some (raise, level) =>
      let target := levelMv level.toNat
      if 3 < retries ∨ mv + 10 < target ∨ target + 10 < mv ∨ s.rs.held then s
      else
        let y := { x with request := none, avsPending := false, noRaise := false }
        let z := if raise ∧ x.queued.isNone then { y with level := level, changes := satInc x.changes } else y
        afterRequest (setKilnPower (countRetries s retries) k z) k)

/-- AVS_REQUEST_FAIL: the level stays, FAIL and the log tell it, and the request is due again 1 ms later; a raise that a
lowering had cancelled is not sent again (R437, R441). -/
def execAvsRequestFail (k : KilnId) (retries : Nat) (t : Nat) (s : State) : Host.Outcome State Fault Refusal :=
  .next (
    let s := atTime t s
    let x := kilnPower s k
    match x.request with
    | none => s
    | some (raise, level) =>
      if s.rs.held then s
      else
        let s1 := countRetries (logEntry s 0x0031 (leBytes 1 k.val)) (min 3 retries)
        let s2 := { s1 with pw := { s1.pw with fail := true, failRail := BitVec.ofNat 4 k.val } }
        let y := { x with
          request := none, avsPending := false, noRaise := true,
          retryAt := if x.queued.isSome then none else some (now s + 1000000, raise, level) }
        afterRequest (setKilnPower s2 k y) k)

/-- POWER_TELEMETRY: voltages in mV and currents in mA of rail selects 0 to 6 make the package power (R439). -/
def execPowerTelemetry (rails : List (Nat × Nat)) (s : State) : Host.Outcome State Fault Refusal :=
  .next (
    if s.rs.held then s
    else
      let p := frac (((rails.take 7).map (fun r => r.1 * r.2)).sum : Nat) 1000000
      let q := BitVec.ofInt 16 (min 0xFFFF (fracShow (freeValue s) 16 p))
      let s1 := drawFree s
      { s1 with pw := { s1.pw with power := p, packageW := q } })

/-- SLEW_ADMIT: an activation is admitted when the current steps of any 1 µs stay within 40 A, else it waits (R442). -/
def execSlewAdmit (k : KilnId) (tl : TileId) (milliamps : Nat) (t : Nat) (s : State) : Host.Outcome State Fault Refusal :=
  .next (
    let s := atTime t s
    let x := kilnPower s k
    let recent := x.grants.filter (fun g => decide (now s < g.1 + 1000))
    if tileDie tl ≠ k ∨ !tileIn s tl ∨ 40000 < milliamps + (recent.map (fun g => g.2)).sum then s
    else setKilnPower s k { x with grants := recent ++ [(now s, milliamps)] })

/-! ## Temperatures (R451 to R456) -/

/-- The inlet temperature in °C (R451). -/
def inletOf (p : Power) : Frac :=
  let worst : Frac := ⟨p.inletMax.toInt, 1⟩
  if p.source ∧ !p.sensorFail then
    match p.coolant with
    | some c => frac c 16
    | none => worst
  else worst

/-- The cap that the law gives, in W (R453). -/
def capLaw (p : Power) : Frac :=
  let law := fracSub (fracDiv (fracSub ⟨115, 1⟩ (inletOf p)) p.rExact) ⟨p.marginW.toNat, 1⟩
  fracMax ⟨60, 1⟩ (fracMin ⟨p.userW.toNat, 1⟩ (fracMin law ⟨350, 1⟩))

/-- Puts an effective cap in force and shows it in PM_CAP. -/
def putCap (s : State) (c : Frac) : State :=
  let s1 := drawFree s
  { s1 with pw := { s1.pw with capExact := c, effectiveW := BitVec.ofInt 9 (fracShow (freeValue s) 1 c) } }

/-- The effective cap after the law or one of its inputs changed: a fall at once, a rise of at most 10 W per 100 ms
(R453); 60 W in a flow stop (R455). -/
def applyCap (s : State) : State :=
  let want := if s.pw.flowStop then ⟨60, 1⟩ else capLaw s.pw
  if fracLt s.pw.capExact want then
    if s.pw.capAt + 100000000 ≤ now s then
      let s1 := putCap s (fracMin want (fracAdd s.pw.capExact ⟨10, 1⟩))
      { s1 with pw := { s1.pw with capAt := now s } }
    else s
  else if fracLt want s.pw.capExact then putCap s want
  else s

/-- The hottest of a list of readings. -/
def hottest (l : List Int) : Option Int := l.max?

/-- Die ID of a sensor index. -/
def sensorDie (i : Nat) : Nat := if i < 64 then i / 16 else if i < 72 then 4 else 5

/-- Readings of a sample by sensor index. -/
def indexed (l : List Int) : List (Nat × Int) := (List.range l.length).zip l

/-- The 20 samples of a sensor, newest first. -/
def sensorRun (h : List (List Int)) (i : Nat) : List Int := h.filterMap (fun l => l[i]?)

/-- 1330 times the least-squares slope of 20 samples 1 ms apart, in 1/16 °C per ms. -/
def slopeSum (run : List Int) : Int :=
  ((List.range 20).zip run.reverse).foldl (fun a e => a + (2 * (e.1 : Int) - 19) * e.2) 0

/-- The least-squares slope of 20 samples exceeds `kps` K/s. -/
def slopeOver (run : List Int) (kps : Nat) : Bool :=
  run.length == 20 && decide (1330 * 16 * (kps : Int) < 1000 * slopeSum run)

/-- Some sensor climbs faster than 8 K/s with a rise of at least 0.125 °C (R455). -/
def climbing (h : List (List Int)) : Bool :=
  (List.range 76).any (fun i =>
    let r := sensorRun h i
    slopeOver r 8 && decide (2 ≤ r.headD 0 - r.getLastD 0))

/-- The coolant sensor's reading at a sample (R451). -/
def coolantSample (s : State) (c : Option Int) : State :=
  let p := s.pw
  match c with
  | some x =>
    let good := decide (-640 ≤ x) && decide (x ≤ 2000)
    let since := if good then some (p.coolantGood.getD (now s)) else none
    let fail := if good then p.sensorFail && decide (now s < (since.getD 0) + 1000000000) else true
    let s1 := { s with pw := { p with
      coolant := if good then some x else p.coolant, coolantAt := now s, coolantGood := since, sensorFail := fail,
      sensorFails := if fail ∧ !p.sensorFail then satInc p.sensorFails else p.sensorFails } }
    if fail ∧ !p.sensorFail then logEntry s1 0x0032 (leBytes 2 (wrapInt 16 x)) else s1
  | none =>
    let fail := p.sensorFail || decide (p.coolantAt + 100000000 ≤ now s)
    let s1 := { s with pw := { p with
      coolantGood := none, sensorFail := fail,
      sensorFails := if fail ∧ !p.sensorFail then satInc p.sensorFails else p.sensorFails } }
    if fail ∧ !p.sensorFail then
      match p.coolant with
      | some x => logEntry s1 0x0032 (leBytes 2 (wrapInt 16 x))
      | none => logEntry (drawFree s1) 0x0032 (leBytes 2 (freeValue s1))
    else s1

/-- The thermal readings of a sample: Tj, its die, the sensors' registers, the response of R454. -/
def thermalReadings (s : State) (temps : List Int) : State :=
  match hottest temps with
  | none => s
  | some tj =>
    let ties := ((indexed temps).filter (fun e => e.2 == tj)).map (fun e => sensorDie e.1)
    let die := (pickOne (freeValue s) ties.eraseDups).getD 0
    let shown := fracShow (Config.freeNat (s.free + 1)) 1 (frac tj 16)
    let inlet := fracShow (Config.freeNat (s.free + 2)) 1 (inletOf s.pw)
    let put (a : Tab (BitVec 16 × Bool)) (e : Nat × Int) : Tab (BitVec 16 × Bool) :=
      tabPut a e.1 (BitVec.ofInt 16 e.2, true)
    let s1 := drawFree (drawFree (drawFree s))
    { s1 with
      pw := { s1.pw with
        history := (temps :: s1.pw.history).take 20, sampledAt := some (now s),
        tjC := BitVec.ofInt 8 shown, inletC := BitVec.ofInt 8 inlet, hotDie := BitVec.ofNat 3 die,
        hot := if decide (118 * 16 < tj) then true else if decide (tj < 116 * 16) then false else s1.pw.hot },
      lg := { s1.lg with sensors := (indexed temps).foldl put s1.lg.sensors } }

/-- Tj exceeds inlet + r_est × P by more than 3 K (R455). -/
def overSteady (p : Power) (tj : Int) : Bool :=
  fracLt (fracAdd (fracAdd (inletOf p) (fracMul p.rExact p.power)) ⟨3, 1⟩) (frac tj 16)

/-- Flow stop: its detection, and its end after 10 s of calm (R455). -/
def flowCheck (s : State) (tj : Int) : State :=
  if climbing s.pw.history && overSteady s.pw tj then
    let s1 := { s with pw := { s.pw with
      flowStop := true, calmSince := none,
      flowStops := if s.pw.flowStop then s.pw.flowStops else satInc s.pw.flowStops } }
    raiseCause (raiseCause (applyCap s1) .a causeThermal) .b causeThermal
  else if !s.pw.flowStop then s
  else
    let calm := decide (tj < 105 * 16) && s.pw.history.length == 20 &&
      !(List.range 76).any (fun i => !(decide (1000 * slopeSum (sensorRun s.pw.history i) < 1330 * 16 * 2)))
    match s.pw.calmSince with
    | none => if calm then { s with pw := { s.pw with calmSince := some (now s) } } else s
    | some t0 =>
      if !calm then { s with pw := { s.pw with calmSince := none } }
      else if t0 + 10000000000 ≤ now s then { s with pw := { s.pw with flowStop := false, calmSince := none } }
      else s

/-- r_est after one update, clamped to 0.08 and 1.0 (R452). -/
def nextEstimate (p : Power) (tj : Int) : Frac :=
  let sample := fracDiv (fracSub (frac tj 16) (inletOf p)) p.power
  let r := fracAdd p.rExact (fracDiv (fracSub sample p.rExact) ⟨100, 1⟩)
  fracMin ⟨1, 1⟩ (fracMax ⟨2, 25⟩ r)

/-- R_EST_UPDATE: the estimate, from 50 W up, and the cap law (R452, R453). -/
def execREstUpdate (t : Nat) (s : State) : Host.Outcome State Fault Refusal :=
  .next (
    let s := atTime t s
    match s.pw.history.head? with
    | none => s
    | some temps =>
      if s.rs.held then s
      else
        let s1 := if fracLt s.pw.power ⟨50, 1⟩ then s
          else
            let r := nextEstimate s.pw ((hottest temps).getD 0)
            let shown := BitVec.ofInt 16 (fracShow (freeValue s) 4096 r)
            { drawFree s with pw := { s.pw with rExact := r, rEst := shown } }
        applyCap s1)

/-- Kiln dies that R454 may lower: in service and not parked. -/
def unparked (s : State) : List KilnId := (kilnsIn s).filter (fun k => !(kilnPower s k).parked)

/-- Hottest reading of a Kiln die in the latest sample. -/
def dieHottest (s : State) (k : KilnId) : Int :=
  match s.pw.history.head? with
  | some l => (hottest ((l.drop (16 * k.val)).take 16)).getD (-0x8000)
  | none => -0x8000

/-- HOT_STEP: the hottest Kiln die goes one level down, or parks at P5 (R454). -/
def execHotStep (t : Nat) (s : State) : Host.Outcome State Fault Refusal :=
  .next (
    let s := atTime t s
    let l := unparked s
    let top := ((l.map (dieHottest s)).max?).getD 0
    match pickOne (freeValue s) (l.filter (fun k => dieHottest s k == top)) with
    | none => s
    | some k =>
      let x := kilnPower s k
      let falling := match x.request with
        | some (false, _) => true
        | _ => false
      if !s.pw.hot ∨ !packageUp s ∨ (falling = true ∧ x.level.toNat < 5) then s
      else
        let s1 := if x.level.toNat < 5 then lowerDie (drawFree s) k else parkDie (drawFree s) k x.drawMw
        { s1 with pw := { s1.pw with hotSteps := satInc s1.pw.hotSteps } })

/-- THERMAL_TRIP: both islands latch THERMAL and every core rail ramps down; the device stays off until package cold
reset, whatever held it before (R456). -/
def execThermalTrip (_sensor : Fin 76) (s : State) : Host.Outcome State Fault Refusal :=
  .next (
    if s.rs.tripped then s
    else
      let s1 := raiseCause (raiseCause s .a causeThermal) .b causeThermal
      { s1 with
        rs := { s1.rs with tripped := true, held := true, heldHot := none, heldByRail := false },
        hi := { s1.hi with linkUp := false, linkSpeed := 0, linkWidth := 0 } })

end Sys2Proof.Machine
end

