-- ==== Sys2Proof/Machine/Boot.lean ====
section
/-! DEFINITION. Package cold reset and the Lodge's boot (R421, R464, R465), the mailbox commands that end in it (R469,
R473), supply rails (R520), and sleep and wake (R445 to R450). -/

namespace Sys2Proof.Machine

/-! ## Boot (R464, R465) -/

/-- The log entry with which a boot ends (R476). -/
def bootEnded (s : State) (step : Nat) : State :=
  logEntry s 0x0001 (leBytes 1 s.lg.onB.toNat ++ leBytes 1 s.lg.lifecycle.toNat ++ leBytes 1 step)

/-- The hub die stays in reset. -/
def holdHub (s : State) (recovery : Bool) : State := { s with lg := { s.lg with hubHeld := true, recovery := recovery } }

/-- The certificate chain goes to Keep SRAM, none in Blank and Return, and the measurements after it (R458, R471). Their place
and format in the range the manual does not give: those of R472's MEASURE, after the chain (DESIGN CHOICE, log 167). -/
def keepMeasures (s : State) : State :=
  let chain := if s.lg.lifecycle = 0 ∨ s.lg.lifecycle = 3 then [] else certChain s
  { s with
    mem := memWrites s.mem (keepBase + 0x19_0000) ((chain ++ (List.range 5).flatMap (measureOf s)).take 0x1_0000),
    free := s.free + 5 }

/-- Steps 5 to 9: the other kinds, the certificates, the fence list and the start-up test, which needs both islands. -/
def bootRest (s : State) (bad : BadReads) (o : StartupOutcome) : State :=
  let c := bootKind s bad 4
  let s1 : State := { c.1 with bv := { c.1.bv with
    a := { c.1.bv.a with trimmed := c.2 }, b := { c.1.bv.b with trimmed := c.2 } } }
  let p := bootKind s1 bad 3
  let a := bootKind p.1 bad 1
  let b := bootKind a.1 bad 2
  let s2 := b.1
  let s3 := keepMeasures s2
  let s4 := keepFences (s3.lg.fences.foldl (fun x u => applyFence x u.1 u.2) s3)
  let s5 := if a.2 ∧ b.2 then startupTest s4 o else s4
  bootEnded s5 9

/-- The boot sequence after package cold reset. -/
def boot (s : State) (bad : BadReads) (o : StartupOutcome) : State :=
  let s1 := readDirectory { s with lg := { s.lg with measures := [[], [], [], [], []], versions := [0, 0, 0, 0, 0] } }
  match bootKind s1 bad 0 with
  | (s2, false) => bootEnded (holdHub s2 true) 3
  | (s2, true) =>
    let s3 := { s2 with lg := { s2.lg with secretLocked := true } }
    if s3.lg.lifecycle = 4 then bootEnded (holdHub s3 false) 4 else bootRest s3 bad o

/-- What package cold reset keeps: the fuses, the flash with its fence list, and what lies outside the device (R423). -/
def keptByColdReset (s : State) : Lodge :=
  { lodgeReset with
    lifecycle := s.lg.lifecycle, keyHash := s.lg.keyHash, revoke := s.lg.revoke, counters := s.lg.counters,
    serial := s.lg.serial, flash := s.lg.flash, fences := s.lg.fences, subsystem := s.lg.subsystem }

/-- Package cold reset, and the boot unless a rail out of range or a sensor above 105 °C holds the device in reset
(R456, R520). Without a valid reference the hub finds it lost, and reduced mode is in force (R418, R419). -/
def coldReset (s : State) (b : BootInput) : State :=
  let held := b.hot || !s.rs.railsOut.isEmpty
  let s1 : State := { State.reset with
    pending := s.pending, free := s.free, lastRead := s.lastRead, lastBytes := s.lastBytes, lastPoison := s.lastPoison, hostMem := s.hostMem,
    partnerMem := s.partnerMem, lg := keptByColdReset s,
    ln := { linksReset with leader := b.pairLead },
    rs := { resetsReset with
      refValid := b.refValid, railsOut := s.rs.railsOut, held := held,
      heldByRail := !s.rs.railsOut.isEmpty, heldHot := if b.hot then some b else none } }
  let s2 := setIsland (setIsland s1 .a { s1.bv.a with inReset := s.bv.a.inReset }) .b { s1.bv.b with inReset := s.bv.b.inReset }
  if held then s2
  else
    let s3 := boot s2 b.badReads b.startup
    if b.refValid then s3 else loseReference s3

/-- COLD_RESET (R421). -/
def execColdReset (b : BootInput) (s : State) : Host.Outcome State Fault Refusal := .next (coldReset s b)

/-- A sample's readings while a sensor above 105 °C holds a package cold reset: with every one below, the device leaves
reset unless a rail is out, which then holds it until it is back (R456, R520). -/
def coolDown (s : State) (temps : List Int) : State :=
  match s.rs.heldHot with
  | none => s
  | some b =>
    if !temps.all (fun x => decide (x < 105 * 16)) then s
    else if s.rs.railsOut.isEmpty then coldReset s { b with hot := false }
    else { s with rs := { s.rs with heldHot := none, heldByRail := true } }

/-- The voltage monitors' readings of a sample; one that gives none keeps its latest (R479). -/
def monitorReadings (s : State) (l : List (Option (BitVec 16))) : State :=
  let put (a : Tab (BitVec 16 × Option Nat)) (e : Nat × Option (BitVec 16)) : Tab (BitVec 16 × Option Nat) :=
    match e.2 with
    | some v => tabPut a e.1 (v, some (now s))
    | none => a
  { s with lg := { s.lg with monitors := (((List.range 16).zip l)).foldl put s.lg.monitors } }

/-- THERMAL_SAMPLE: the Lodge's 1 ms sample of 76 thermal sensors and the coolant sensor, in 1/16 °C, and of the voltage
monitors (R451, R454, R455, R479). -/
def execThermalSample (x : LodgeSample) (coolant : Option Int) (t : Nat) (s : State) : Host.Outcome State Fault Refusal :=
  .next (
    let temps := x.temps
    if temps.length ≠ 76 then s
    else if s.rs.held then coolDown s temps
    else
      let s := monitorReadings (atTime t s) x.monitors
      if s.pw.sleepState = 4 then s
      else flowCheck (thermalReadings (coolantSample s coolant) temps) ((hottest temps).getD 0))

/-! ## Mailbox commands that reset the device -/

/-- A kind's inactive slot is valid. -/
def inactiveValid (s : State) (k : Nat) : Bool := slotState (slotOf s k) (!(slotOf s k).activeB) == 1

/-- MBOX_ACTIVATE (R469). -/
def execMboxActivate (g : MboxGo) (b : BootInput) (s : State) : Host.Outcome State Fault Refusal :=
  .next (
    match mboxStart s g 3 false with
    | (s1, false) => s1
    | (s1, true) =>
      let m := s1.lg.arg0.toNat
      let ks := (List.range 5).filter (fun k => bit m k)
      if mboxBarred s1 3 then mboxEnd s1 6 0
      else if 31 < m ∨ s1.lg.arg1 ≠ 0 ∨ !noBuffer s1 then mboxEnd s1 2 0
      else if !ks.all (inactiveValid s1) then mboxEnd s1 8 0
      else
        let s2 := ks.foldl (fun a k => setSlot a k { slotOf a k with trial := true, tried := false }) s1
        coldReset (writeDirectory s2) b)

/-- A lifecycle transition that the table of R474 permits; a target equal to the present state is none. -/
def lifecycleStep (now' target : Nat) : Bool :=
  target == now' || (now' == 0 && target == 1) || (decide (now' ≤ 1) && target == 2) || (now' == 2 && target == 3) ||
    target == 4

/-- MBOX_LIFECYCLE (R473, R474). In Return, a target of 3 with no key to revoke clears the fence list. -/
def execMboxLifecycle (g : MboxGo) (b : BootInput) (s : State) : Host.Outcome State Fault Refusal :=
  .next (
    match mboxStart s g 7 true with
    | (s1, false) => s1
    | (s1, true) =>
      let n := s1.lg.len.toNat
      if mboxBarred s1 7 then mboxEnd s1 6 0
      else if !noArgs s1 then mboxEnd s1 2 0
      else if !g.bufOk then mboxEnd s1 7 0
      else
        let img := mboxIn s1 0 n
        if n < 416 ∨ field img 8 4 ≠ n then mboxEnd s1 2 0
        else
          match verifyImage s1 img 0xA 0 with
          | some c => mboxEnd s1 (checkResult c) 0
          | none =>
            let d := slice img (imgData img).1 64
            let old := s1.lg.lifecycle.toNat
            let target := field d 16 1
            let rev := field d 17 1
            let revoked := s1.lg.revoke ||| BitVec.ofNat 4 rev
            if slice d 0 16 ≠ slice s1.lg.serial 0 16 ∨ !lifecycleStep old target then mboxEnd s1 6 0
            else if 15 < rev ∨ revoked = 15 then mboxEnd s1 2 0
            else
              let clear := old == 3 && target == 3 && rev == 0
              let s2 : State := { s1 with lg := { s1.lg with
                lifecycle := BitVec.ofNat 3 target, revoke := revoked,
                fences := if clear then [] else s1.lg.fences } }
              let s3 := if clear then keepFences (flashFences s2) else s2
              coldReset (logEntry s3 0x0005 (leBytes 1 old ++ leBytes 1 target ++ leBytes 1 rev)) b)

/-! ## Supply rails (R520) -/

/-- RAIL_FAULT: a rail out of its operating range. The rails for which R520 names no action are only noted: with them
too the hold lasts until every rail is back. -/
def execRailFault (rail : Rail) (t : Nat) (s : State) : Host.Outcome State Fault Refusal :=
  .next (
    let s := atTime t s
    let s1 := noteRail s rail
    match rail with
    | .kiln k => if s.rs.held then s1 else clockLost s1 (dieId k.val)
    | .maze => if s.rs.held then s1 else clockLost s1 5
    | .package =>
      let s2 := { s1 with
        rs := { s1.rs with held := true, heldByRail := true },
        hi := { s1.hi with linkUp := false, linkSpeed := 0, linkWidth := 0 } }
      raiseCause s2 .a causeDevice
    | .island i => raiseWhile s1 i causeSupply 0x16
    | .other => s1)

/-- RAIL_RESTORED: an island's SUPPLY cause clears; with every rail back a device that a rail held in package cold reset
boots. -/
def execRailRestored (rail : Rail) (b : BootInput) (s : State) : Host.Outcome State Fault Refusal :=
  .next (
    if !s.rs.railsOut.contains rail then s
    else
      let s1 : State := { s with rs := { s.rs with railsOut := s.rs.railsOut.erase rail } }
      let s2 : State := match rail with
        | .island i => clearCause s1 i causeSupply
        | _ => s1
      if s2.rs.held ∧ s2.rs.heldByRail ∧ s2.rs.railsOut.isEmpty ∧ !s2.rs.tripped then coldReset s2 b else s2)

/-! ## Sleep (R445 to R447) -/

/-- No queue is enabled and the Maze is idle (S1). -/
def quietS1 (s : State) : Bool := !s.gh.queues.any (fun e => e.2.enable) && mazeIdle s

/-- Every context is FREE and the Fusion Engine idle (S2). -/
def quietS2 (s : State) : Bool := !s.gh.contexts.any (fun e => e.2.state != .free) && s.fe.state == 0

/-- The conditions of state Sn and of every lighter one hold (R445). -/
def sleepReady (s : State) (n : Nat) : Bool :=
  quietS1 s && (decide (n < 2) || quietS2 s) && (decide (n < 3) || !s.rs.dumpGo)

/-- Device physical range of a retention segment (R222). -/
def segmentRange (s : State) (k seg : Nat) : Nat × Nat :=
  let w := (channelsIn s k).length * 0x2000_0000
  (dieBase k + seg * w, dieBase k + (seg + 1) * w)

/-- The contents of the segments of a mask are lost, and their blocks are freed (R446, R447). -/
def loseSegments (s : State) (mask : Word32) : State :=
  (List.range 32).foldl (fun a i =>
    if !mask.getLsbD i then a
    else
      let r := segmentRange a (i / 8) (i % 8)
      { a with
        mem := memClear a.mem r.1 r.2,
        ms := { a.ms with
          badGranules := a.ms.badGranules.filter (fun g => decide (g < r.1) || decide (r.2 ≤ g)),
          softGranules := a.ms.softGranules.filter (fun g => decide (g < r.1) || decide (r.2 ≤ g)),
          blocks := a.ms.blocks.filter (fun e => decide (e.1 < r.1) || decide (r.2 ≤ e.1)) },
        ln := { a.ln with lend := a.ln.lend.filter (fun b => decide (b < r.1) || decide (r.2 ≤ b)) } }) s

/-- At each entry to S2 or deeper the segments that are not selected are lost (R446). -/
def loseUnselected (s : State) : State :=
  let m := ~~~ s.pw.retain
  let s1 := loseSegments s m
  { s1 with pw := { s1.pw with lostAtEntry := s1.pw.lostAtEntry ||| m } }

/-- The 64 granules of a segment's guard on a channel: every 8 MiB of its channel addresses (R218, R222, R447). -/
def guardGranules (s : State) (k c seg : Nat) : List Nat :=
  let l := channelsIn s k
  (List.range 64).map (fun j =>
    dieBase k + (seg * 0x20_0000 + j * 0x8000) * (l.length * 256) + (l.takeWhile (fun x => x != c)).length * 256)

/-- The guard of a segment on a channel: the CRC-32C of its granules. -/
def guardOf (s : State) (k c seg : Nat) : Word32 :=
  crc32c ((guardGranules s k c seg).flatMap (fun g => memReads s.mem g 32))

/-- Die, channel and segment of the guards of the selected segments. -/
def guardKeys (s : State) : List (Nat × Nat × Nat) :=
  (kilnsIn s).flatMap (fun k => (channelsIn s k.val).flatMap (fun c =>
    ((List.range 8).filter (fun seg => s.pw.retain.getLsbD (8 * k.val + seg))).map (fun seg => (k.val, c, seg))))

/-- The controllers take their guards (R447). The manual gives no place in the device-reserved area for them: they are kept
by die, channel and segment (DESIGN CHOICE, log 165). -/
def takeGuards (s : State) : State :=
  { s with pw := { s.pw with
    guards := (guardKeys s).map (fun e => (64 * e.1 + 8 * e.2.1 + e.2.2, guardOf s e.1 e.2.1 e.2.2)) } }

/-- The segments whose guards do not hold at a return: a CRC that differs, or a granule that cannot be read. -/
def brokenGuards (s : State) : Word32 :=
  s.pw.guards.foldl (fun m e =>
    let k := e.1 / 64
    let c := e.1 / 8 % 8
    let seg := e.1 % 8
    let bad := (guardGranules s k c seg).any (fun g => s.ms.badGranules.contains g)
    if bad || guardOf s k c seg != e.2 then m ||| BitVec.ofNat 32 (2 ^ (8 * k + seg)) else m) 0

/-- Entry to S2: Kiln and Maze dies lose their power and shelves, the configuration of fusion and the Maze is cleared,
Trellis goes down. -/
def enterS2 (s : State) : State :=
  let s1 : State := clearConfig s
  let s2 : State := { s1 with
    mem := memClear s1.mem (shelfBase 0) (shelfBase 65536),
    tl := { s1.tl with badWords := [], softWords := [] } }
  let s3 := ([0, 1, 2, 3, 5] : List Nat).foldl dropEnds s2
  bumpTopology <| ([0, 1, 2, 3, 5] : List Nat).foldl (fun a d => { a with sun := { a.sun with
    replicas := tabPut a.sun.replicas d .stopped,
    stoppedEver := if replicaOf a d = .stopped then a.sun.stoppedEver
      else a.sun.stoppedEver ||| BitVec.ofNat 6 (2 ^ d) } }) s3

/-- Entry to S3: a partial log page is flushed, the link is taken down, Pergola with it, and Sundial stops. The paths to the
host and the partner change (R241). -/
def enterS3 (s : State) : State :=
  let s1 : State := mirrorTo (mboxFail s) s.lg.nextSeq
  bumpTopology <| pairLost { s1 with
    hi := { s1.hi with linkUp := false, linkSpeed := 0, linkWidth := 0 },
    ln := { s1.ln with pergola := if s1.ln.pergola.state = 7 then s1.ln.pergola else downModule 0 s1.ln.pergola },
    bv := { s1.bv with lastBoundary := none, resuming := 2 } }

/-- Entry to S4: Keep SRAM is lost. -/
def enterS4 (s : State) : State := { s with mem := memClear s.mem keepBase (keepBase + 0x80_0000) }

/-- The device enters Sn, from the state that it is in. -/
def enterSleep (s : State) (n : Nat) : State :=
  let from' := s.pw.sleepState.toNat
  let s0 := if 2 ≤ n then loseUnselected s else s
  let s1 := if from' < 2 ∧ 2 ≤ n then enterS2 s0 else s0
  let s2 := if from' < 3 ∧ 3 ≤ n then enterS3 s1 else s1
  let s3 := if from' < 4 ∧ 4 ≤ n then enterS4 s2 else s2
  let s4 := if 2 ≤ n then takeGuards s3 else s3
  { s4 with pw := { s4.pw with sleepState := BitVec.ofNat 3 n, matcher := s.pw.wake } }

/-- TARGET after a write of PM_SLEEP: a reserved value leaves it (R12). -/
def sleepTargetOf (s : State) (v : Word32) : Nat :=
  if bits v.toNat 2 0 ≤ 4 then bits v.toNat 2 0 else s.pw.sleepTarget.toNat

/-- SLEEP_ENTRY: PM_SLEEP written with GO and TARGET 1 to 4. `wake` is the state that the entry has reached, 0 for none,
when a wake event ends it at a step boundary (R448): the return then starts. -/
def execSleepEntry (f : FnId) (v : Word32) (t : Nat) (wake : Option (Fin 4)) (s : State) : Host.Outcome State Fault Refusal :=
  .next (
    let s := atTime t s
    let n := sleepTargetOf s v
    if !pfReaches s f ∨ !v.getLsbD 3 ∨ n = 0 then s
    else if s.pw.sleepGo then { s with pw := { s.pw with sleepResult := 2 } }
    else
      let s1 := { s with pw := { s.pw with sleepTarget := BitVec.ofNat 3 n } }
      if n ≤ s.pw.sleepState.toNat ∨ !sleepReady s n then { s1 with pw := { s1.pw with sleepResult := 1 } }
      else
        match wake with
        | none => { enterSleep s1 n with pw := { (enterSleep s1 n).pw with sleepResult := 0 } }
        | some w =>
          let m := max (min w.val n) s.pw.sleepState.toNat
          let s2 := enterSleep s1 m
          { s2 with pw := { s2.pw with sleepResult := 0, sleepGo := decide (0 < m), byPort := decide (0 < m) || s2.pw.byPort } })

/-- SLEEP_RETURN_REQUEST: PM_SLEEP written with GO and TARGET 0 in S1 or S2 (R448). -/
def execSleepReturnRequest (f : FnId) (v : Word32) (s : State) : Host.Outcome State Fault Refusal :=
  .next (
    let n := s.pw.sleepState.toNat
    if !pfReaches s f ∨ !v.getLsbD 3 ∨ sleepTargetOf s v ≠ 0 then s
    else if s.pw.sleepGo then { s with pw := { s.pw with sleepResult := 2 } }
    else if n = 1 ∨ n = 2 then { s with pw := { s.pw with sleepTarget := 0, sleepGo := true, byPort := false } }
    else { s with pw := { s.pw with sleepTarget := 0, sleepResult := 0 } })

/-- WAKE_ADDRESS: an address byte on the wake port, its 7-bit address in bits [7:1] (R448). -/
def execWakeAddress (b : Byte) (s : State) : Host.Outcome State Fault Refusal :=
  .next (
    if s.pw.sleepState = 0 ∨ s.pw.sleepGo ∨ bits b.toNat 7 1 ≠ s.pw.matcher.toNat ∨ s.rs.held then s
    else { s with pw := { s.pw with sleepGo := true, byPort := true } })

/-! ## The return (R449, R450) -/

/-- Kiln and Maze dies start as after a die reset, with their start-up checks (R449). -/
def startDies (s : State) (o : StartupOutcome) : State :=
  let s1 := (kilnsIn s).foldl (startKiln o.training) s
  let s2 := (kilnsIn s1).foldl (fun a k => dieStartup a k.val o) s1
  if dieState s2 5 = .service then dieStartup (setReplica (trainDie (resetModules s2 5) 5 o.training) 5 .resync) 5 o else s2

/-- Sundial restarts at 0 and counts to `t` (R265, R450). The islands' oscillators have counted on: how long, the manual
leaves open (DESIGN CHOICE, log 173). -/
def restartSundial (s : State) (t : Nat) : State :=
  let source := sunSource s
  { drawFree s with sun := { sundialReset with
      ns := t, elapsed := s.sun.elapsed + freeValue s, cfg := s.sun.cfg, fracLatch := s.sun.fracLatch, replicas := tabPut s.sun.replicas 4 .sync,
      stoppedEver := s.sun.stoppedEver, gptpSync := s.sun.gptpSync,
      state := if source = 0 then .freeRun else .unset, timeSet := source == 0 } }

/-- What a return from S3 or S4 sets back: the Gatehouse, the Sync Fabric, the translation unit, the partitions and the
regulators at reset, Sundial restarted, r_est at R_INIT (R450, R452). PUBLISHED counts since cold reset (R76); what becomes of
HEARTBEAT no rule says: it starts again at 0 (DESIGN CHOICE, log 131). -/
def returnFromS3 (s : State) (t : Nat) : State :=
  let s1 : State := restartSundial s t
  { s1 with
    gh := { gatehouseReset with
      published := s1.gh.published, mirrorA := s1.gh.mirrorA, mirrorB := s1.gh.mirrorB, rebuilding := s1.gh.rebuilding, single := s1.gh.single },
    sync := syncReset, ms := { hubMemory s1.ms with blocks := s1.ms.blocks },
    part := { partitionReset with openMask := defaultOpen s1 },
    lg := { s1.lg with monitors := s1.lg.monitors.map (fun e => (e.1, (e.2.1, none))) },
    pw := { s1.pw with
      rExact := frac s1.pw.rInit.toNat 4096, rEst := s1.pw.rInit, history := [], calmSince := none, capAt := 0,
      coolantAt := 0, coolantGood := none, sampledAt := none } }

/-- PM_ registers after S4: reset values but for PM_WAKE.ADDRESS and PM_WAKE_STATUS (R450); PM_CLK_STATUS is reset beside. -/
def returnFromS4 (p : Power) : Power :=
  { powerReset with
    wake := p.wake, matcher := p.matcher, wakeFrom := p.wakeFrom, byPort := p.byPort, lost := p.lost,
    returnUs := p.returnUs, sleepState := p.sleepState }

/-- A return that succeeds from Sn. -/
def returnFrom (s : State) (n : Nat) (o : ReturnOutcome) (t : Nat) : State :=
  if n = 1 then atTime t s
  else
    let found := o.lost ||| brokenGuards s
    let s1 := loseSegments s found
    let s2 := { s1 with pw := { s1.pw with lost := s.pw.lostAtEntry ||| found, lostAtEntry := 0, guards := [] } }
    let s3 := if 3 ≤ n then returnFromS3 s2 t else atTime t s2
    let s4 : State := if n = 4 then
        keepFences { s3 with pw := returnFromS4 s3.pw, rs := { s3.rs with refLost := false, fwdLost := 0 } }
      else s3
    bumpTopology (startDies s4 o.boot.startup)

/-- SLEEP_RETURN: the steps of the return; one that fails twice ends in package cold reset (R449). For S3 and S4, `t` is
the time that the restarted Sundial shows at the end. -/
def execSleepReturn (o : ReturnOutcome) (t : Nat) (s : State) : Host.Outcome State Fault Refusal :=
  .next (
    let n := s.pw.sleepState.toNat
    if !s.pw.sleepGo ∨ n = 0 ∨ s.rs.held then s
    else
      match o.failedStep with
      | some i =>
        if i.val = 0 ∨ (n = 1 ∧ i.val ≠ 4) then s
        else
          let s1 := { s with pw := { s.pw with sleepResult := 3, sleepGo := false } }
          coldReset (logEntry s1 0x0033 (leBytes 1 i.val)) o.boot
      | none =>
        let s1 := returnFrom s n o t
        { s1 with pw := { s1.pw with
          sleepState := 0, sleepGo := false, sleepResult := 0, wakeFrom := BitVec.ofNat 3 n, returnedAt := some (now s1),
          returnUs := BitVec.ofNat 16 (min 0xFFFF o.lengthUs) } })

/-- PM_RETAIN_WRITE: a byte that selects a segment and not the device-reserved area's keeps its value (R446). -/
def execPmRetainWrite (f : FnId) (v : Word64) (s : State) : Host.Outcome State Fault Refusal :=
  .next (
    let pick (i : Nat) : Nat :=
      let b := bits v.toNat (8 * i + 7) (8 * i)
      if b ≠ 0 ∧ !bit b 7 then bits s.pw.retain.toNat (8 * i + 7) (8 * i) else b
    if !pfReaches s f then s
    else { s with pw := { s.pw with
      retain := BitVec.ofNat 32 (((List.range 4).map (fun i => pick i * 2 ^ (8 * i))).sum) } })

end Sys2Proof.Machine
end

