-- ==== Sys2Proof/Machine/Control.lean ====
section
/-! DEFINITION. The control class of the tile instruction set (R150, R151, R160 to R163). -/

namespace Sys2Proof.Machine

/-- `nop`: no effect (Control class table). -/
def execInstrNop (tl : TileId) (clk : Nat) (s : State) : Host.Outcome State Fault Refusal :=
  .next (issue s tl clk 0x01 (fun s _ => s))

/-- `yield`: a yield point; RESUME_PC is the next instruction (R98, R161). -/
def execInstrYield (tl : TileId) (clk : Nat) (s : State) : Host.Outcome State Fault Refusal :=
  .next (issue s tl clk 0x02 (fun s z =>
    afterAhead s z (fun s => yieldPoint s tl z.inst (BitVec.ofNat 32 (z.pc + 8)) .ready)))

/-- `end`: the instance ends (R162). -/
def execInstrEnd (tl : TileId) (clk : Nat) (s : State) : Host.Outcome State Fault Refusal :=
  .next (issue s tl clk 0x03 (fun s z => afterAhead s z (fun s => endOnTile s tl z.inst)))

/-- `trap`: ST_PROGRAM_TRAP with IMM32[15:0] (R163). -/
def execInstrTrap (tl : TileId) (clk : Nat) (s : State) : Host.Outcome State Fault Refusal :=
  .next (issue s tl clk 0x04 (fun s z => programFault s tl stProgramTrap (BitVec.ofNat 32 (fIMM z.w % 65536))))

/-- The BRANCH record of a taken branch: its addresses and the untaken branches since the previous one (R494). -/
def branchDue (x : Tile) (source target : Word32) : TraceDue :=
  ⟨2, BitVec.ofNat 16 x.ctx.val, leBytes 4 source.toNat ++ leBytes 4 target.toNat ++ leBytes 2 x.dbg.untaken.toNat⟩

/-- A jump within the program (R160): the target is taken modulo 2³². -/
def jumpTo (s : State) (z : Site) (target : Word32) : State :=
  modTile s z.tl (fun x => { x with
    pc := target,
    dbg := { x.dbg with
      untaken := 0,
      due := if tileTraced s z.tl 2 x.ctx then x.dbg.due ++ [branchDue x (BitVec.ofNat 32 z.pc) target] else x.dbg.due } })

/-- The signed byte offset of a branch; a word whose bits [2:0] are set is illegal (R160). -/
def branchTarget (z : Site) : Word32 := BitVec.ofNat 32 z.pc + BitVec.ofNat 32 (fIMM z.w)

/-- `b`: PC ← PC + OFF32 when COND holds (R160). -/
def execInstrB (tl : TileId) (clk : Nat) (s : State) : Host.Outcome State Fault Refusal :=
  .next (issue s tl clk 0x05 (fun s z =>
    let x := tileOf s tl
    if condHolds (fCOND z.w) (sReg x (fRS1 z.w)) (sReg x (fRS2 z.w)) then jumpTo s z (branchTarget z)
    else modTile s tl (fun x => { x with dbg := { x.dbg with untaken := satInc x.dbg.untaken } })))

/-- `call`: sRD ← PC + 8; PC ← PC + OFF32 (R160). -/
def execInstrCall (tl : TileId) (clk : Nat) (s : State) : Host.Outcome State Fault Refusal :=
  .next (issue s tl clk 0x06 (fun s z =>
    jumpTo (putS s z 0 (fRD z.w) (BitVec.ofNat 64 ((z.pc + 8) % 2 ^ 32))) z (branchTarget z)))

/-- `jr`: PC ← sRS1[31:0], illegal when bits [2:0] are set (R160). -/
def execInstrJr (tl : TileId) (clk : Nat) (s : State) : Host.Outcome State Fault Refusal :=
  .next (issue s tl clk 0x07 (fun s z =>
    let v := (sReg (tileOf s tl) (fRS1 z.w)).toNat
    if v % 8 ≠ 0 then illegal s z else jumpTo s z (BitVec.ofNat 32 v)))

/-- SR_WINDOW (R150, R346): the lowest-numbered open window that lets the context run. -/
def windowRegister (s : State) (c : Context) : Nat :=
  match (List.finRange 8).find? (fun i =>
    s.part.openMask.getLsbD i.val && c.windowMask.getLsbD i.val && s.part.schedule[i].cls == c.cls) with
  | none => 0
  | some i => i.val + 8 + (s.part.schedule[i].closeUs * 1000 - now s % 1000000) % 2 ^ 32 * 2 ^ 32

/-- A special register's value (R150); in a PAIRED instance SR_TILE, SR_CLOCKS, SR_TIME, SR_WINDOW and
SR_LEVEL read as zero (R151). -/
def specialRegister (s : State) (z : Site) (n : Nat) : Nat :=
  let x := tileOf s z.tl
  let c := ctxOf s z.ctx
  if n = 0 then z.ctx.val + classCode c.cls * 1024
  else if n = 1 then x.slot.toNat + c.seedShelf % 65536 * 256
  else if z.paired then 0
  else if n = 2 then z.tl.val
  else if n = 3 then x.count
  else if n = 4 then (if replicaOf s (tileDie z.tl).val = .sync then replicaTime s (tileDie z.tl).val else 2 ^ 64 - 1)
  else if n = 5 then windowRegister s c
  else (kilnPower s (tileDie z.tl)).level.toNat

/-- `rdsr`: sRD ← special register IMM32[15:0], read at Sundial time `t` (R150). -/
def execInstrRdsr (tl : TileId) (clk : Nat) (t : Nat) (s : State) : Host.Outcome State Fault Refusal :=
  .next (issue (atTime t s) tl clk 0x08 (fun s z =>
    putS s z 0 (fRD z.w) (BitVec.ofNat 64 (specialRegister s z (fIMM z.w)))))

end Sys2Proof.Machine
end

