-- ==== Sys2Proof/Machine/Debug.lean ====
section
/-! DEFINITION. Breakpoints, watches, halts and steps of tiles and of the Gatehouse (R480 to R487), the engine counters'
select (R491), trace records and the local trace buffers (R494 to R497). -/

namespace Sys2Proof.Machine

/-! ## Tiles (R482 to R485) -/

/-- BREAKPOINT_HIT: the Sequencer is about to issue at an armed address (R482). -/
def execBreakpointHit (tl : TileId) (s : State) : Host.Outcome State Fault Refusal :=
  .next (
    let x := tileOf s tl
    match breakpointAt s tl with
    | none => s
    | some i =>
      if x.inst.isNone ∨ x.state ≠ .running ∨ x.dbg.passing ∨ x.dbg.watchHit.isSome then s
      else askHalt s tl (1 + i))

/-- WATCH_HIT: the access that hit has completed (R483). -/
def execWatchHit (tl : TileId) (s : State) : Host.Outcome State Fault Refusal :=
  .next (
    let x := tileOf s tl
    match x.dbg.watchHit with
    | none => s
    | some j =>
      let s1 := modTile s tl (fun y => { y with dbg := { y.dbg with watchHit := none } })
      if x.inst.isNone ∨ x.state ≠ .running then s1 else askHalt s1 tl (5 + j.val))

/-- The debug window of a tile answers a function: the physical function's, outside Retired (R480, R511). -/
def debugReaches (s : State) (f : FnId) : Bool := pfReaches s f && s.lg.lifecycle != 4

/-- Registers on a Kiln die answer while the die is neither lost nor fenced and has power (R445). -/
def kilnAnswers (s : State) (k : KilnId) : Bool :=
  dieState s k.val != .lost && dieState s k.val != .fenced && decide (s.pw.sleepState.toNat < 2)

/-- A write to a tile's debug window arrives: the function reaches it and the tile's die answers. -/
def windowReaches (s : State) (f : FnId) (tl : TileId) : Bool := debugReaches s f && kilnAnswers s (tileDie tl)

/-- DB_HALT: a write of DB_HALT_CTRL with HALT. With no instance running the request waits for one (R484, R485). -/
def execDbHalt (f : FnId) (tl : TileId) (v : Word32) (s : State) : Host.Outcome State Fault Refusal :=
  .next (
    let x := tileOf s tl
    if !windowReaches s f tl ∨ !v.getLsbD 0 ∨ x.dbg.state ≠ 0 then s
    else if x.inst.isSome ∧ x.state = .running then askHalt s tl 0
    else setTile s tl { x with dbg := { x.dbg with wanted := true } })

/-- HALT_DRAINED: no engine instruction of the halted instance remains (R484). Engines run to their end as they are issued
here; only a drain or check whose verdict is not known and a `tldw` that waits for its fetch hold the halt. -/
def execHaltDrained (tl : TileId) (s : State) : Host.Outcome State Fault Refusal :=
  .next (
    let x := tileOf s tl
    if x.dbg.state = 1 ∧ x.tensor.drain.isNone ∧ x.tensor.fetches = [] then
      modTile (haltTime s tl) tl (fun y => { y with dbg := { y.dbg with state := 2, used := y.dbg.used &&& 16 } })
    else s)

/-- Issue goes on from the halted PC, where a breakpoint does not hit again (R485). -/
def resumeTile (s : State) (tl : TileId) (step : Bool) : State :=
  modTile (haltTime s tl) tl (fun x =>
    { x with
      state := if x.state = .halted then .running else x.state,
      dbg := { x.dbg with state := 0, passing := true, stepping := step } })

/-- DB_RESUME: a write of DB_HALT_CTRL with RESUME. -/
def execDbResume (f : FnId) (tl : TileId) (v : Word32) (s : State) : Host.Outcome State Fault Refusal :=
  .next (
    if !windowReaches s f tl ∨ !v.getLsbD 1 ∨ (tileOf s tl).dbg.state = 0 then s else resumeTile s tl false)

/-- DB_STEP: a write of DB_HALT_CTRL with STEP. -/
def execDbStep (f : FnId) (tl : TileId) (v : Word32) (s : State) : Host.Outcome State Fault Refusal :=
  .next (
    let x := tileOf s tl
    if !windowReaches s f tl ∨ !v.getLsbD 2 ∨ x.dbg.state = 0 then s
    else if !debugActs s x.ctx then refuseHalt s tl
    else resumeTile s tl true)

/-- ENG_SELECT_WRITE: DB_ENG_SELECT; a write of REASON restarts its count at zero (R490, R491). A reserved engine keeps
the field. -/
def execEngSelectWrite (f : FnId) (tl : TileId) (v : Word32) (s : State) : Host.Outcome State Fault Refusal :=
  .next (
    if !windowReaches s f tl then s
    else modTile s tl (fun x => { x with dbg := { x.dbg with
      engSelect := if bits v.toNat 2 0 ≤ 4 then BitVec.ofNat 3 (bits v.toNat 2 0) else x.dbg.engSelect,
      reason := BitVec.ofNat 4 (bits v.toNat 11 8),
      engines := x.dbg.engines.map (fun (e : Nat × Engine) => (e.1, { e.2 with selected := 0 })) } }))

/-! ## The Gatehouse (R487) -/

/-- The lifecycle state lets debug act on the Gatehouse (R474, R480). -/
def ghDebugActs (s : State) : Bool := s.lg.lifecycle != 2 && s.lg.lifecycle != 4

/-- The Gatehouse halts: its helpers have finished what they had in hand. A used patch slot redirects the fetch at the PC
(R470). Where the state forbids it, REFUSED is set. -/
def haltGatehouse (s : State) (cause : Nat) (pc : Word32) : State :=
  if s.lg.lifecycle = 4 then s
  else if !ghDebugActs s then { s with db := { s.db with ghRefused := true } }
  else { s with
    db := { s.db with
      ghState := 2, ghCause := BitVec.ofNat 4 cause, ghPc := pc, ghPatch := patchTarget s pc.toNat },
    lg := { s.lg with haltUsed := true } }

/-- A Gatehouse watch hits an access: it is armed for its kind, and their ranges meet (R483, R487). -/
def ghWatchHits (w : Word64) (addr : Addr48) (n : Nat) (store : Bool) : Bool :=
  let v := w.toNat
  let size := 2 ^ bits v 50 48
  let base := bits v 47 0 / size * size
  bit v 63 && bit v (if store then 52 else 51) && decide (addr.toNat < base + size) && decide (base < addr.toNat + n)

/-- GH_HALT: a request, a hit of an armed breakpoint, or of an armed watch by an access. -/
def execGhHalt (cause : GhHaltCause) (s : State) : Host.Outcome State Fault Refusal :=
  .next (
    if s.db.ghState ≠ 0 then s
    else
      match cause with
      | .request f v pc => if debugReaches s f ∧ v.getLsbD 0 then haltGatehouse s 0 pc else s
      | .breakpoint i pc =>
        let b := (tabGet 0 s.db.ghBp i.val).toNat
        if bit b 63 ∧ bits b 47 1 = pc.toNat / 2 then haltGatehouse s (1 + i.val) pc else s
      | .watch j pc addr n store =>
        if ghWatchHits (tabGet 0 s.db.ghWatch j.val) addr n store then haltGatehouse s (5 + j.val) pc else s)

/-- GH_RESUME: a write of DB_GH_HALT with RESUME. -/
def execGhResume (f : FnId) (v : Word32) (s : State) : Host.Outcome State Fault Refusal :=
  .next (
    if debugReaches s f ∧ v.getLsbD 1 ∧ s.db.ghState ≠ 0 then { s with db := { s.db with ghState := 0 } } else s)

/-- GH_STEP: one Gatehouse instruction issues and the core halts at `pc`. -/
def execGhStep (f : FnId) (v : Word32) (pc : Word32) (s : State) : Host.Outcome State Fault Refusal :=
  .next (
    if debugReaches s f ∧ v.getLsbD 2 ∧ s.db.ghState ≠ 0 then haltGatehouse { s with db := { s.db with ghState := 0 } } 7 pc
    else s)

/-! ## Trace (R494 to R497) -/

def traceSourceReset : TraceSource := { queue := [], lost := 0 }
def traceBufferReset : TraceBuffer := { filling := [], full := none, started := 0 }

def sourceOf (s : State) (m : Nat) : TraceSource := tabGet traceSourceReset s.db.sources m
def setSource (s : State) (m : Nat) (x : TraceSource) : State :=
  { s with db := { s.db with sources := tabPut s.db.sources m x } }

def bufferOf (s : State) (i : Nat) : TraceBuffer := tabGet traceBufferReset s.db.buffers i
def setBuffer (s : State) (i : Nat) (x : TraceBuffer) : State :=
  { s with db := { s.db with buffers := tabPut s.db.buffers i x } }

/-- The 16 bytes of a record (R494). -/
def traceBytes (kind : Byte) (invalid : Bool) (ctx : BitVec 16) (body : List Byte) : List Byte :=
  [kind, BitVec.ofNat 8 (b2n invalid)] ++ leBytes 2 ctx.toNat ++ slice body 0 12

/-- The controls let LOST records out (KINDS bit of 0x06). -/
def lostLets (s : State) : Bool := s.db.traceCtrl.getLsbD 7

/-- A dropped record of a source is counted (R495). -/
def dropRecord (s : State) (m : Nat) : State :=
  let x := sourceOf s m
  let s1 := setSource s m { x with lost := satInc x.lost }
  { s1 with db := { s1.db with lost := satInc s1.db.lost } }

/-- The local buffer of a source: its Kiln die's, or the hub's (R497). -/
def bufferIndex (m : Nat) : Nat := if m < 256 then m / 64 else 4

/-- The die of a record's source: a tile's, an aggregator's, the hub for the Gatehouse (R494). -/
def masterDieOf (m : Nat) : Nat := if m < 256 then m / 64 else if 0x110 ≤ m then m - 0x110 else 4

/-- The half being filled closes: it is full, and the other half fills from now on. -/
def closeHalf (b : TraceBuffer) : TraceBuffer :=
  if b.full.isNone then { b with filling := [], full := some b.filling } else b

/-- A local buffer as a record finds it now: a half whose first entry is 10 ms old counts as full (R497). -/
def bufferNow (s : State) (i : Nat) : TraceBuffer :=
  let b := bufferOf s i
  if !b.filling.isEmpty && decide (b.started + 10000000 ≤ now s) then closeHalf b else b

/-- A record finds room in a local buffer: something drains it, and not both halves are full. -/
def localRoom (s : State) (i n : Nat) : Bool :=
  let b := bufferNow s i
  let old := !b.filling.isEmpty && decide (b.started + 10000000 ≤ now s)
  s.db.ltbSlots != 0 && !old && decide (b.filling.length + n ≤ (if b.full.isNone then 2048 else 1024))

/-- A record goes into a local buffer with its die's replica time, or is dropped when nothing drains it or both halves are full (R497). -/
def localRecord (s : State) (m : Nat) (rcd : List Byte) : State :=
  let i := bufferIndex m
  let b := bufferNow s i
  let entry := leBytes 8 (replicaTime s (masterDieOf m)) ++ leBytes 2 m ++ zeros 6 ++ rcd
  if !localRoom s i 1 then
    let s1 := dropRecord s m
    { s1 with db := { s1.db with ltbLost := satInc s1.db.ltbLost } }
  else
    let y := { b with filling := b.filling ++ [entry], started := if b.filling.isEmpty then now s else b.started }
    setBuffer s i (if y.filling.length = 1024 then closeHalf y else y)

/-- Records wait in the source's queue for the port (master 4, which aims at no outbound queue). How many of them it has sent
since the latest record the manual's rates do not fix: a free number, none without a link, and no more than its regulator lets
through at 16 B each (R348, R351, R495; DESIGN CHOICE, log 102). -/
def portDrains (s : State) (m : Nat) : State :=
  let x := sourceOf s m
  if s.db.traceCtrl.getLsbD 0 ∧ s.db.linkUp then
    let n := freeValue s % (requestRoom s 4 (shelfBase 0) 16 x.queue.length + 1)
    countMaster (setSource (drawFree s) m { x with queue := x.queue.drop n }) 4 (16 * n)
  else s

/-- A record enters its source's queue for the port, or finds it full (R495). -/
def portRecord (s : State) (m : Nat) (rcd : List Byte) : State :=
  let x := sourceOf s m
  if 64 ≤ x.queue.length then dropRecord s m else setSource s m { x with queue := x.queue ++ [rcd] }

/-- A LOST record is due ahead of the source's next record, and there is room for both (R495). -/
def lostDue (s : State) (m : Nat) : Bool :=
  let x := sourceOf s m
  x.lost != 0 && lostLets s && (!s.db.traceCtrl.getLsbD 0 || decide (x.queue.length ≤ 62)) &&
    (!s.db.traceCtrl.getLsbD 1 || localRoom s (bufferIndex m) 2)

/-- A record goes where DB_TRACE_CTRL sends it. -/
def sendRecord (s : State) (m : Nat) (rcd : List Byte) : State :=
  let s1 := if s.db.traceCtrl.getLsbD 1 then localRecord s m rcd else s
  if s.db.traceCtrl.getLsbD 0 then portRecord s1 m rcd else s1

/-- The stamps of a source's die are invalid (R271): its replica is not SYNC, or enters SYNC in this clock cycle, as the
record says. The hub die's never are. -/
def traceInvalid (s : State) (r : TraceInput) : Bool :=
  let d := masterDieOf r.master.toNat
  d != 4 && (replicaOf s d != .sync || r.timeInvalid)

/-- The records that a source's events have formed and that it has not emitted. -/
def dueOf (s : State) (m : Nat) : List TraceDue :=
  if m < 256 then (tileOf s (tileId m)).dbg.due else (s.db.due.filter (fun e => e.1.toNat == m)).map (fun e => e.2)

/-- The source has emitted its earliest record. -/
def dropDue (s : State) (m : Nat) : State :=
  if m < 256 then modTile s (tileId m) (fun x => { x with dbg := { x.dbg with due := x.dbg.due.drop 1 } })
  else { s with db := { s.db with due := s.db.due.eraseP (fun e => e.1.toNat == m) } }

/-- TRACE_RECORD: a source emits the earliest record that its events have formed, which has the command's KIND, and a LOST
record ahead of it when some were dropped (R494, R495). -/
def execTraceRecord (r : TraceInput) (t : Nat) (s : State) : Host.Outcome State Fault Refusal :=
  .next (
    let s := atTime t s
    let m := r.master.toNat
    match (dueOf s m).head? with
    | none => s
    | some d =>
      if d.kind ≠ r.kind then s
      else
        let s1 := portDrains (dropDue s m) m
        let bad := traceInvalid s r
        let s2 := if lostDue s1 m then
            sendRecord (setSource s1 m { sourceOf s1 m with lost := 0 }) m
              (traceBytes 6 bad 0xFFFF (leBytes 4 (sourceOf s1 m).lost.toNat))
          else s1
        sendRecord s2 m (traceBytes d.kind bad d.ctx d.body))

/-- The bytes of a half, its empty entries marked (R497). -/
def traceHalf (l : List (List Byte)) : List Byte :=
  l.flatten ++ (List.replicate (1024 - l.length) (zeros 8 ++ [0xFF, 0xFF] ++ zeros 22)).flatten

/-- The requests that write a half to its host slot, 256 B each, and the count after it; the registers of the ring are those
at its start (R497). -/
def halfRequests (s : State) (l : List (List Byte)) : List (Nat × List Byte) :=
  let h := s.db.halves
  let slot := s.db.ltbBase.toNat + h.toNat % max 1 s.db.ltbSlots.toNat * 32768
  (List.range 128).map (fun k => (slot + 256 * k, slice (traceHalf l) (256 * k) 256)) ++
    [(s.db.ltbPtr.toNat, leBytes 8 (h + 1).toNat)]

/-- The trace DMA's full half is written whole: it is free, and the half that fills is the next when it is full, too. -/
def freeHalf (b : TraceBuffer) : TraceBuffer :=
  let more := decide (1024 ≤ b.filling.length)
  { b with full := if more then some b.filling else none, filling := if more then [] else b.filling }

/-- Issues the requests of the half in hand until the trace port's regulator pauses them (R348, R351; DEDUCED, log 60). The
count of halves advances when the half is written, before its own write. -/
def pumpHalf (s : State) (d : TraceDrain) : State :=
  let n := requestRoom s 4 0xC000_0000_0000 256 d.todo.length
  let now_ := d.todo.take n
  let rest := d.todo.drop n
  let s1 := countMaster s 4 (now_.map (fun e => e.2.length)).sum
  let s2 := { s1 with
    hostMem := now_.foldl (fun h e => memWrites h e.1 e.2) s1.hostMem,
    db := { s1.db with
      halves := if rest.length ≤ 1 ∧ 1 < d.todo.length then s1.db.halves + 1 else s1.db.halves,
      drain := if rest.isEmpty then none else some { d with todo := rest } } }
  if rest.isEmpty then setBuffer s2 d.buf.val (freeHalf (bufferOf s2 d.buf.val)) else s2

/-- LTB_HALF_DRAIN: a full half, or one whose first entry is 10 ms old, goes to its host slot, request by request; one half
after another. The writes carry the physical function's requester ID (R505). -/
def execLtbHalfDrain (buf : Fin 5) (t : Nat) (s : State) : Host.Outcome State Fault Refusal :=
  .next (
    let s := atTime t s
    if !fnCanIssue s 0 ∨ s.rs.held then s
    else
      match s.db.drain with
      | some d => if d.buf = buf then pumpHalf s d else s
      | none =>
        let b := bufferNow s buf.val
        match b.full with
        | some l => if s.db.ltbSlots = 0 then s else pumpHalf (setBuffer s buf.val b) ⟨buf, halfRequests s l⟩
        | none => s)

/-- TRACE_LINK_CHANGE: the probe gains or loses lane lock. What goes out on the lanes is no state (R496). -/
def execTraceLinkChange (up : Bool) (s : State) : Host.Outcome State Fault Refusal :=
  .next { s with db := { s.db with linkUp := up } }

end Sys2Proof.Machine
end

