-- ==== Sys2Proof/Machine/RegReads.lean ====
section
/-! DEFINITION. What each register reads as: the register map of R510 and R511, block by block. A register file is read in
units of 8 bytes at 8 B aligned offsets, which hold one 64-bit register or two 32-bit ones. -/

namespace Sys2Proof.Machine

/-- A register's value from its fields: (lowest bit, value). -/
def pack (l : List (Nat × Nat)) : Nat := (l.map (fun e => e.2 * 2 ^ e.1)).sum

/-- Two 32-bit registers that share a unit. -/
def two (lo hi : Nat) : Nat := lo % 0x1_0000_0000 + hi * 0x1_0000_0000

/-! ## HI_ and SY_ -/

def readHi (s : State) (o : Nat) : Nat :=
  let h := s.hi
  if o = 0x00 then 0x0001_0800
  else if o = 0x08 then pack [(0, h.linkSpeed.toNat), (3, h.linkWidth.toNat), (7, b2n h.linkUp)]
  else if o = 0x10 then h.bar4Base.toNat * 2 ^ 30
  else if o = 0x18 then pack [(0, h.errKind.toNat), (3, h.errFn.toNat), (7, h.errSource.toNat), (10, h.errQueue.toNat),
    (16, h.errCount.toNat), (63, b2n h.errValid)]
  else if o = 0x20 then h.errAddr.toNat
  else if o = 0x28 then pack [(0, h.badAccess.toNat), (16, h.poisoned.toNat)]
  else 0

/-- A sync object that a function may read: any for the physical function, else one in the range of a partition mapped to
the function (R511). -/
def syncShows (s : State) (f : FnId) (i : Nat) : Bool :=
  f.val == 0 || classes.any (fun c => classFunction s c == f.val && inSyncRange s.part c i)

def syncWord (s : State) (f : FnId) (i : Nat) : Nat := if syncShows s f i then (syncGet s i).toNat else 0

/-- 64 bits of SY_SATURATED from object `i` on. -/
def saturatedWord (s : State) (i : Nat) : Nat :=
  ((List.range 64).map (fun k => if tabGet false s.sync.saturated (i + k) then 2 ^ k else 0)).sum

def readSy (s : State) (f : FnId) (o : Nat) : Nat :=
  if o < 0x4_0000 then two (syncWord s f (o / 4)) (syncWord s f (o / 4 + 1))
  else if o < 0x4_2000 ∧ f.val = 0 then saturatedWord s ((o - 0x4_0000) * 8)
  else 0

/-! ## GH_ -/

def queueReg (s : State) (q : QueueId) (o : Nat) : Nat :=
  let x := queueOf s q
  if o = 0x00 then
    two (pack [(0, x.sizeLog2.toNat), (4, b2n x.enable), (5, classCode x.cls), (7, b2n x.planQueue), (8, x.function.toNat)])
      (pack [(0, x.head.toNat), (12, b2n x.doorbellErr), (13, b2n (acceptStall s q)), (14, b2n (cqFull s q)),
        (15, b2n x.planDrop)])
  else if o = 0x08 then x.base.toNat
  else if o = 0x10 then x.cqBase.toNat
  else 0

/-- GH_CTX_STATE of the selected context. -/
def ctxStateReg (s : State) : Nat :=
  let c := ctxOf s (ctxId s.gh.ctxSelect.toNat)
  pack [(0, ctxCode c.state), (4, classCode c.cls), (8, c.home.val), (16, c.shelves)]

/-- GH_JOURNAL_STATUS; the die of a mirror that does not exist is not stated: a free value (DESIGN CHOICE, log 23). -/
def journalReg (s : State) : Nat :=
  let die (m : Option KilnId) : Nat := match m with
    | some k => k.val
    | none => freeValue s % 8
  pack [(0, die s.gh.mirrorA), (3, die s.gh.mirrorB), (6, b2n s.gh.rebuilding), (7, b2n s.gh.single)]

def mapReg (m : PartMap) : Nat := pack [(0, m.syncBase.toNat), (16, m.syncLast.toNat), (32, m.function.toNat)]

def partStatusReg (s : State) : Nat :=
  pack [(0, b2n s.part.busyErr), (1, b2n s.part.rangeErr), (2, b2n (partitionEmpty s .qm)), (3, b2n (partitionEmpty s .b)),
    (4, b2n (partitionEmpty s .d))]

def readGh (s : State) (f : FnId) (o : Nat) : Nat :=
  if o = 0x100 then two s.gh.ctxSelect.toNat (ctxStateReg s)
  else if o = 0x108 then faultCtxReg s
  else if o = 0x110 then two s.gh.lateDrop.toNat (journalReg s)
  else if o = 0x120 then (progressOf s f.val).base.toNat
  else if o = 0x180 then s.gh.batchSelect.toNat
  else if o = 0x188 then (ctxOf s (ctxId s.gh.batchSelect.toNat)).batch.toNat
  else if o = 0x190 then pack [(0, s.gh.rejectEntries.toNat), (16, s.gh.rejectItems.toNat)]
  else if o = 0x200 then pack [(0, s.part.dShelves.toNat), (8, s.part.bShelves.toNat), (16, s.part.dMem.toNat),
    (24, s.part.bMem.toNat)]
  else if o = 0x210 then mapReg s.part.mapQm
  else if o = 0x218 then mapReg s.part.mapB
  else if o = 0x220 then mapReg s.part.mapD
  else if o = 0x228 then partStatusReg s
  else if o = 0x248 then partResetReg s
  else if 0x1_0000 ≤ o ∧ o < 0x1_0800 then queueReg s (queueId ((o - 0x1_0000) / 0x20)) (o % 0x20)
  else 0

/-! ## TI_ -/

/-- Code of TI_STATUS.STATE. -/
def tileCode : TileState → Nat
  | .free => 0
  | .running => 1
  | .switching => 2
  | .waiting => 3
  | .halted => 4
  | .inReset => 5
  | .fenced => 6
  | .selfTest => 7

def tileStatus (x : Tile) : Nat :=
  let c := tileCode x.state
  pack [(0, c), (8, if c = 0 ∨ 5 ≤ c then 0 else x.ctx.val), (18, x.slot.toNat)]

def tileNext (x : Tile) : Nat :=
  match x.next with
  | none => 0
  | some p => pack [(0, p.ctx.val), (10, p.slot.toNat), (29, b2n p.inst.isNone), (30, b2n p.staged.isSome), (31, 1)]

/-- TI_SHELF_INFO of the selected shelf. -/
def shelfInfo (s : State) (tl : TileId) (x : Tile) : Nat :=
  let l := x.shelfSelect.toNat
  let head (st : Nat) : Nat := pack [(0, st), (2, classCode (shelfClass s.part l))]
  match shelfUse s (tl.val * 256 + l) with
  | .free => head 0
  | .fenced => head 2
  | .bound c i _ => head 1 + pack [(4, c.val), (16, i)]

def tileReg (s : State) (tl : TileId) (o : Nat) : Nat :=
  let x := tileOf s tl
  let k := x.checks
  if o = 0x00 then two (tileStatus x) (tileNext x)
  else if o = 0x08 then two (pack [(0, min 30000 x.count), (16, 0x7530)]) (pack [(0, x.yieldMax.toNat), (16, x.yieldMaxCtx.toNat)])
  else if o = 0x10 then two x.switchMax.toNat x.switches.toNat
  else if o = 0x18 then two x.shelfSelect.toNat (shelfInfo s tl x)
  else if o = 0x20 then pack [(0, x.corrected.toNat), (16, x.lastUe.toNat), (24, b2n x.ue)]
  else if o = 0x40 then two k.pass.toNat k.skip.toNat
  else if o = 0x48 then two (pack [(0, k.checksum.toNat), (8, k.residue.toNat), (16, k.lastFormat.toNat), (20, b2n k.lastUnit),
    (22, k.lastCtx.toNat)]) k.whereReg.toNat
  else if o = 0x50 then k.sat.toNat
  else 0

/-- What a read of a register on a die that does not answer returns the manual does not state: a free value (DESIGN CHOICE, log 22). -/
def onKiln (s : State) (k : KilnId) (v : Nat) : Nat := if kilnAnswers s k then v else freeValue s

/-! ## TU_ and MC_ -/

/-- TU_PAIR_LEND.LENT: blocks that the partner holds. -/
def lentBlocks (s : State) : Nat := (s.ms.blocks.filter (fun e => e.2 == .lent)).length

/-- The allocation registers of one function (R235 to R237). -/
def allocReg (s : State) (f o : Nat) : Nat :=
  let a := allocOf s f
  if o = 0x00 then a.ctrl.toNat
  else if o = 0x08 then a.list.toNat
  else if o = 0x10 then pack [(0, a.result.toNat), (3, b2n a.freeErr), (4, a.spilled.toNat)]
  else if o = 0x20 then a.pool.toNat
  else 0

def readTu (s : State) (o : Nat) : Nat :=
  let c := ctxOf s (ctxId s.ms.ctxSelect.toNat)
  if o < 0x240 then allocReg s (o / 0x40) (o % 0x40)
  else if o = 0x240 then pack [(0, s.ms.pairLimit.toNat), (16, min 0xFFFF (lentBlocks s))]
  else if o = 0x248 then pack [(0, s.ms.invalCtx.toNat), (31, b2n s.ms.invalGo)]
  else if o = 0x250 then pack [(0, s.ms.fault.va.toNat), (48, s.ms.fault.ctx.toNat), (58, s.ms.fault.reason.toNat),
    (63, b2n s.ms.fault.valid)]
  else if o = 0x258 then pack [(0, s.ms.spillL3.toNat), (16, s.ms.spillL4.toNat), (32, s.ms.spillL5.toNat)]
  else if o = 0x260 then s.ms.ctxSelect.toNat
  else if o = 0x268 then c.traffic3.toNat
  else if o = 0x270 then c.traffic4.toNat
  else if o = 0x278 then c.traffic5.toNat
  else if 0x1000 ≤ o ∧ o < 0x1400 then field (topologyTable s) (o - 0x1000) 8
  else 0

def channelReg (s : State) (k c o : Nat) : Nat :=
  let x := channelOf s k c
  if o = 0x00 then two (pack [(0, x.state.toNat), (2, b2n x.reduced)]) (pack [(0, x.corrected.toNat), (16, x.uncorrectable.toNat)])
  else if o = 0x08 then pack [(0, x.ueAddr.toNat), (48, b2n x.patrol), (63, b2n x.ueValid)]
  else 0

def readMc (s : State) (o : Nat) : Nat :=
  if o < 0x4000 ∧ o % 0x1000 < 0x100 then onKiln s (kilnId (o / 0x1000)) (channelReg s (o / 0x1000) (o % 0x1000 / 0x20) (o % 0x20))
  else 0

/-! ## BW_ and SD_ -/

/-- The selected master's registers. -/
def masterReg (s : State) (o : Nat) : Nat :=
  match selectedMaster s with
  | none => 0
  | some m =>
    let x := s.part.masters[m]
    if o = 0x10 then two x.guarantee.toNat x.limit.toNat else classCode x.cls

/-- A Kiln die's level: the highest of its channels' (R352). -/
def dieLevel (s : State) (k : Nat) : Nat :=
  ((List.range 8).map (fun c => (tabGet 0 s.part.levels (8 * k + c)).toNat)).foldl max 0

def readBw (s : State) (o : Nat) : Nat :=
  if o = 0x00 then pack [(0, s.part.bwWindow.toNat), (8, s.part.bwHigh.toNat), (16, s.part.bwStep.toNat)]
  else if o = 0x08 then s.part.bwSelect.toNat
  else if o = 0x10 ∨ o = 0x18 then masterReg s o
  else if o = 0x20 then two s.part.pools[0].toNat s.part.pools[1].toNat
  else if o = 0x28 then s.part.pools[2].toNat
  else if o = 0x30 then pack [(0, dieLevel s 0), (2, dieLevel s 1), (4, dieLevel s 2), (6, dieLevel s 3),
    (8, (tabGet 0 s.part.levels 32).toNat), (10, (tabGet 0 s.part.levels 33).toNat)]
  else if o = 0x38 then pack [(0, s.part.miss.count.toNat), (16, s.part.miss.master.toNat), (25, s.part.miss.ctx.toNat),
    (63, b2n s.part.miss.valid)]
  else 0

/-- Code of SD_STATUS.STATE. -/
def sunCode : SunState → Nat
  | .unset => 0
  | .acquiring => 1
  | .locked => 2
  | .holdover => 3
  | .freeRun => 4
  | .pairLocked => 5

def readSd (s : State) (o : Nat) : Nat :=
  let u := s.sun
  if o = 0x00 then u.ns % 2 ^ 64
  else if o = 0x08 then u.fracLatch.toNat
  else if o = 0x10 then u.cfg.toNat
  else if o = 0x20 then pack [(0, sunCode u.state), (3, b2n u.sourceLost), (4, b2n u.offsetFault), (32, u.offsetNs.toNat)]
  else if o = 0x28 then pack [(0, ((List.range 6).map (fun d => if d = 4 ∨ replicaOf s d = .sync then 2 ^ d else 0)).sum),
    (8, u.stoppedEver.toNat)]
  else if o = 0x30 then u.ppb.toNat
  else 0

/-! ## FE_, MZ_ and BV_ -/

/-- FE_SENSOR_STATE.VOTE: 3 for an entry that the sensor table in force does not configure; with no table in force the
reset value stands. -/
def voteReg (s : State) (i : Nat) : Nat :=
  if tabHas s.fe.config 1 ∧ sensorType (feSection s 1) i = 0 then 3 else (sensorOf s i).vote.toNat

def readFe (s : State) (o : Nat) : Nat :=
  let e := s.fe
  let i := e.select.toNat
  let x := sensorOf s i
  if o = 0x00 then pack [(0, e.state.toNat), (32, e.cycle.toNat)]
  else if o = 0x08 then two i (pack [(0, voteReg s i), (4, x.confidence.toNat), (8, x.disagree.toNat), (16, x.staleRun.toNat)])
  else if o = 0x10 then pack [(0, x.late.toNat), (16, x.stale.toNat), (32, x.frozen.toNat), (48, x.invalid.toNat)]
  else if o = 0x18 then pack [(0, e.conCount.toNat), (16, e.conRegion.toNat), (24, e.conA.toNat), (29, e.conB.toNat),
    (63, b2n e.conValid)]
  else if o = 0x20 then pack [(0, e.coarsen.toNat), (16, e.maxLevel.toNat)]
  else 0

def bankInfo (b : WorldBank) : Nat :=
  pack [(0, b.count % 2 ^ 14), (14, b.state.toNat), (16, b2n b.additions), (32, b.speed.toNat), (48, b.cycle % 65536)]

def readMz (s : State) (o : Nat) : Nat :=
  let m := s.mz
  if o = 0x00 then pack [(0, m.state.toNat), (2, b2n (safetyMode s)), (3, b2n m.fenced0), (4, b2n m.fenced1),
    (5, b2n m.searchFenced), (8, m.region.toNat), (32, m.lastCycle.toNat)]
  else if o = 0x08 then m.bank0.epoch.toNat
  else if o = 0x10 then m.bank1.epoch.toNat
  else if o = 0x18 then bankInfo m.bank0
  else if o = 0x20 then bankInfo m.bank1
  else if o = 0x28 then pack [(0, m.trajectory.toNat), (16, m.held.toNat), (32, m.maxDecel.toNat), (48, m.recheck.toNat)]
  else if o = 0x30 then pack [(0, m.mismatch.toNat), (16, m.checker.toNat), (63, b2n m.mismatchValid)]
  else if o = 0x38 then pack [(0, m.programMax.toNat), (32, m.closed.toNat)]
  else 0

/-- BV_SELFTEST.OLDEST_MS: whole ms since the oldest full test of a tile in service. -/
def oldestTest (s : State) : Nat :=
  let l := ((List.range 256).filter (fun i => tileIn s (tileId i))).map (fun i => now s - (tileOf s (tileId i)).tested)
  min 0xFFFF (l.foldl max 0 / 1000000)

/-- Bytes 8j to 8j + 7 of the selected fault record. -/
def faultData (s : State) (j : Nat) : Nat :=
  let v := s.bv.faultSelect.toNat
  let x := islandOf s (if v % 2 = 0 then .a else .b)
  match x.records[v / 2]? with
  | some r => field r (8 * j) 8
  | none => 0

def readBv (s : State) (o : Nat) : Nat :=
  let b := s.bv
  if o = 0x00 then pack [(0, b.a.causes.toNat), (16, b.b.causes.toNat), (32, b2n (!b.pins.getLsbD 0)), (33, b2n (!b.pins.getLsbD 2))]
  else if o = 0x08 then two 0 b.releaseReject.toNat
  else if o = 0x10 then pack [(0, b.wdEarly.toNat), (8, b.wdLate.toNat),
    (16, ((List.finRange 8).map (fun i => if b.wd[i].on then 2 ^ i.val else 0)).sum), (24, b2n b.wdOff), (32, b.wdCount.toNat)]
  else if o = 0x18 then pack [(0, b.pairChecked.toNat), (16, b.pairMismatch.toNat), (24, b.pairTimeout.toNat),
    (32, b.pairPrimary.toNat), (40, b.pairSecond.toNat), (48, b2n b.pairService), (63, b2n b.pairValid)]
  else if o = 0x20 then pack [(0, b.goldPassed.toNat), (16, b.goldMismatch.toNat), (24, b.goldDeferred.toNat),
    (32, b.goldCtx.toNat), (63, b2n b.goldValid)]
  else if o = 0x28 then pack [(0, b.segments.toNat), (16, b.aborted.toNat), (32, b.lagTile.toNat), (40, b2n b.lag),
    (48, oldestTest s)]
  else if o = 0x30 then b.inject.toNat
  else if o = 0x38 then pack [(0, b.busOff.toNat), (16, b.stopReject.toNat)]
  else if o = 0x40 then b.faultSelect.toNat
  else if 0x48 ≤ o ∧ o < 0x88 then faultData s ((o - 0x48) / 8)
  else 0

/-! ## TL_, PG_ and PM_ -/

/-- The module that TL_MOD_SELECT names. -/
def selectedModule (s : State) : Module :=
  let v := s.ln.modSelect.toNat
  moduleOf s (v % 8) (v / 8)

def readTl (s : State) (o : Nat) : Nat :=
  let m := selectedModule s
  if o = 0x00 then s.ln.modSelect.toNat
  else if o = 0x08 then pack [(0, m.state.toNat), (4, m.width.toNat), (6, m.lanes.toNat), (8, m.localMask.toNat),
    (12, m.remoteMask.toNat), (16, m.retrains.toNat)]
  else if o = 0x10 then pack [(0, m.replays.toNat), (16, m.errorRetrains.toNat), (24, m.resetRetrains.toNat)]
  else if o = 0x28 then pack [(0, b2n s.rs.busy), (1, s.rs.die.toNat), (4, s.rs.result.toNat)]
  else 0

def readPg (s : State) (o : Nat) : Nat :=
  let m := s.ln.pergola
  if o = 0x00 then pack [(0, m.state.toNat), (4, m.width.toNat), (6, b2n s.ln.leader), (7, b2n s.ln.roleErr), (16, s.ln.losses.toNat)]
  else if o = 0x08 then two s.ln.delayNs.toNat s.ln.offsetNs.toNat
  else 0

def kilnReg (x : KilnPower) : Nat :=
  pack [(0, x.level.toNat), (3, x.ceiling.toNat), (6, b2n x.parked), (7, b2n x.avsPending), (8, x.shareW.toNat),
    (16, x.drawW.toNat), (32, x.changes.toNat)]

def readPm (s : State) (o : Nat) : Nat :=
  let p := s.pw
  if o = 0x00 then pack [(0, p.userW.toNat), (16, p.effectiveW.toNat)]
  else if o = 0x10 then pack [(0, b2n p.source), (8, p.inletMax.toNat), (16, p.marginW.toNat), (32, p.rInit.toNat)]
  else if o = 0x18 then pack [(0, p.rEst.toNat), (16, p.inletC.toNat), (24, p.tjC.toNat), (32, p.hotDie.toNat),
    (35, b2n p.sensorFail), (36, b2n p.flowStop), (37, b2n p.hot)]
  else if o = 0x20 then pack [(0, p.flowStops.toNat), (16, p.hotSteps.toNat), (32, p.sensorFails.toNat)]
  else if 0x40 ≤ o ∧ o < 0x60 then kilnReg (kilnPower s (kilnId ((o - 0x40) / 8)))
  else if o = 0x60 then pack [(0, p.failRail.toNat), (4, b2n p.fail), (16, p.retries.toNat)]
  else if o = 0x68 then p.packageW.toNat
  else if o = 0x100 then pack [(0, p.sleepTarget.toNat), (3, b2n p.sleepGo), (4, p.sleepResult.toNat), (8, p.sleepState.toNat)]
  else if o = 0x108 then p.retain.toNat
  else if o = 0x110 then p.wake.toNat
  else if o = 0x118 then pack [(0, p.wakeFrom.toNat), (3, b2n p.byPort), (16, p.lost.toNat), (48, p.returnUs.toNat)]
  else if o = 0x200 then pack [(0, b2n s.rs.refValid), (1, b2n s.rs.reduced), (2, b2n s.rs.refLost), (8, s.rs.fwdLost.toNat)]
  else 0

/-! ## LG_ -/

/-- LG_SENSOR_DATA: the selected sensor's or monitor's latest reading, VALID while that is at most 2 ms old (R479, R521). -/
def sensorData (s : State) : Nat :=
  let i := s.lg.sensorSelect.toNat
  let fresh (at_ : Option Nat) : Bool := at_.any (fun t => decide (now s ≤ t + 2000000))
  if 0x80 ≤ i then
    let x := tabGet (0, none) s.lg.monitors (i - 0x80)
    pack [(0, x.1.toNat), (16, b2n (fresh x.2))]
  else
    let x := tabGet (0, false) s.lg.sensors i
    pack [(0, x.1.toNat), (16, b2n (x.2 && fresh s.pw.sampledAt))]

def readLg (s : State) (o : Nat) : Nat :=
  let g := s.lg
  if o = 0x00 then pack [(0, g.lifecycle.toNat), (3, b2n g.recovery), (4, g.onTrial.toNat), (9, g.onB.toNat)]
  else if o = 0x08 then pack [(0, g.mboxCmd.toNat), (31, b2n g.mboxGo)]
  else if o = 0x10 then g.arg0.toNat
  else if o = 0x18 then g.arg1.toNat
  else if o = 0x20 then g.buf.toNat
  else if o = 0x28 then g.len.toNat
  else if o = 0x30 then pack [(0, g.result.toNat), (4, b2n g.refused), (32, g.outLen.toNat)]
  else if o = 0x38 then pack [(0, g.nextSeq.toNat), (32, g.logLost.toNat), (48, min 0xFFFF (g.nextSeq - g.mirrored).toNat)]
  else if o = 0x40 then g.sensorSelect.toNat
  else if o = 0x48 then sensorData s
  else 0

/-! ## DB_ -/

/-- DB_REG_DATA (R486). A register number that its file does not have reads as a free value (DESIGN CHOICE, log 29). -/
def regData (s : State) (x : Tile) : Nat :=
  let v := x.dbg.regSelect.toNat
  let file := bits v 2 0
  let i := bits v 7 3
  let row := bits v 12 8
  if x.dbg.state ≠ 2 then 0
  else if file = 0 then (sReg x i).toNat
  else if file = 1 then (if i < 16 then (aReg x i).toNat else freeValue s % 2 ^ 64)
  else if file = 2 then (if i < 8 then (pReg x i).toNat else freeValue s % 2 ^ 64)
  else if file = 3 then
    match x.v[i]? with
    | some l => (l[row]?.getD 0).toNat
    | none => freeValue s % 2 ^ 64
  else if file = 4 then (tabGet 0 (tabGet bankReset x.tensor.banks (bits v 4 3)).acc (row * 64 + bits v 18 13)).toNat
  else if file = 5 then x.pc.toNat
  else 0

def haltStatus (d : TileDebug) : Nat :=
  pack [(0, d.state.toNat), (2, d.cause.toNat), (6, b2n d.stepLost), (7, b2n d.refused), (8, d.ctx.toNat), (32, d.pc.toNat)]

/-- The counters of the selected engine (R488 to R491), as the latest sample has brought them up to date. -/
def engineReg (x : Tile) (o : Nat) : Nat :=
  let d := x.dbg
  let e := tabGet engineReset d.engines d.engSelect.toNat
  if o = 0x58 then e.busy.toNat
  else if o = 0x60 then e.stall.toNat
  else if o = 0x68 then e.idle.toNat
  else if o = 0x70 then
    pack [(0, e.cmdBusy.toNat), (16, e.cmdStall.toNat), (32, e.cmdIdle.toNat), (48, d.cmdCtx.toNat), (63, b2n d.current)]
  else if o = 0x78 then pack [(0, e.last.toNat), (8, e.selected.toNat)]
  else if o = 0x80 then e.other.toNat
  else 0

/-- A tile carries census counters: tiles 0, 16, 32 and 48 of each Kiln die. -/
def censusTile (tl : TileId) : Bool := tl.val % 16 == 0

def debugWindow (s : State) (tl : TileId) (o : Nat) : Nat :=
  let x := tileOf s tl
  let d := x.dbg
  if o < 0x20 then (tabGet 0 d.bp (o / 8)).toNat
  else if o < 0x30 then (tabGet 0 d.watch ((o - 0x20) / 8)).toNat
  else if o = 0x38 then haltStatus d
  else if o = 0x40 then d.regSelect.toNat % 2 ^ 63 + (if d.state = 2 then 2 ^ 63 else 0)
  else if o = 0x48 then regData s x
  else if o = 0x50 then pack [(0, d.engSelect.toNat), (8, d.reason.toNat)]
  else if 0x58 ≤ o ∧ o ≤ 0x80 then engineReg x o
  else if !censusTile tl then 0
  else if o = 0x90 then d.censusSelect.toNat
  else if o = 0x98 then (tabGet 0 d.census d.censusSelect.toNat).toNat
  else if o = 0xA0 then d.censusFilter.toNat
  else 0

def ghDebugReg (s : State) (o : Nat) : Nat :=
  let d := s.db
  if 0x100 ≤ o ∧ o < 0x120 then (tabGet 0 d.ghBp ((o - 0x100) / 8)).toNat
  else if 0x120 ≤ o ∧ o < 0x130 then (tabGet 0 d.ghWatch ((o - 0x120) / 8)).toNat
  else if o = 0x138 then pack [(0, d.ghState.toNat), (2, d.ghCause.toNat), (7, b2n d.ghRefused), (32, d.ghPc.toNat)]
  else 0

def dumpReg (s : State) (o : Nat) : Nat :=
  let r := s.rs
  if o = 0x800 then r.dumpBase.toNat
  else if o = 0x808 then r.dumpSize.toNat
  else if o = 0x810 then pack [(0, r.dumpRegions.toNat), (8, b2n r.dumpAuto), (31, b2n r.dumpGo)]
  else if o = 0x818 then pack [(0, r.dumpResult.toNat), (32, r.unreadable.toNat)]
  else 0

def traceReg (s : State) (o : Nat) : Nat :=
  let d := s.db
  if o = 0x1000 then d.traceCtrl.toNat
  else if o = 0x1008 then pack [(0, b2n d.linkUp), (16, d.lost.toNat)]
  else if o = 0x1100 then d.ltbBase.toNat
  else if o = 0x1108 then d.ltbSlots.toNat
  else if o = 0x1110 then d.ltbPtr.toNat
  else if o = 0x1118 then pack [(0, d.halves.toNat), (32, d.ltbLost.toNat)]
  else 0

/-- The DB_ block (R481); zero in Retired (R480). -/
def readDb (s : State) (o : Nat) : Nat :=
  if s.lg.lifecycle = 4 then 0
  else if o < 0x800 then ghDebugReg s o
  else if o < 0x1000 then dumpReg s o
  else if o < 0x1_0000 then traceReg s o
  else if o < 0x2_0000 then
    let tl := tileId ((o - 0x1_0000) / 0x100)
    onKiln s (tileDie tl) (debugWindow s tl (o % 0x100))
  else 0

/-! ## The map (R510, R511) -/

/-- The 8-byte unit at an 8 B aligned BAR0 offset of the physical function. -/
def readUnit (s : State) (f : FnId) (off : Nat) : Nat :=
  let o := off % 0x10_0000
  match off / 0x10_0000 with
  | 0x0 => readHi s o
  | 0x1 => readGh s f o
  | 0x2 => readSy s f o
  | 0x3 => if o < 0x1_0000 then onKiln s (tileDie (tileId (o / 0x100))) (tileReg s (tileId (o / 0x100)) (o % 0x100)) else 0
  | 0x4 => readTu s o
  | 0x5 => readMc s o
  | 0x6 => readBw s o
  | 0x7 => readSd s o
  | 0x8 => readFe s o
  | 0x9 => readMz s o
  | 0xA => readBv s o
  | 0xB => readTl s o
  | 0xC => readPg s o
  | 0xD => readPm s o
  | 0xE => readLg s o
  | 0xF => readDb s o
  | _ => 0

/-- The queue whose registers a BAR0 offset reaches. -/
def queueAt (off : Nat) : Option QueueId :=
  if 0x11_0000 ≤ off ∧ off < 0x11_0800 then some (queueId ((off - 0x11_0000) / 0x20)) else none

/-- A virtual function's registers (R511): those of its queues, its progress block, the sync counters, its allocation registers,
the topology table and Sundial's time and status, of which the last three are read only. -/
def vfReaches (s : State) (f : FnId) (off : Nat) (write : Bool) : Bool :=
  (match queueAt off with
    | some q => (queueOf s q).function.toNat == f.val
    | none => false) ||
    off == 0x10_0120 ||
    (decide (0x40_0000 + 0x40 * f.val ≤ off) && decide (off < 0x40_0000 + 0x40 * f.val + 0x40)) ||
    (!write && ((decide (0x20_0000 ≤ off) && decide (off < 0x24_0000)) ||
      (decide (0x40_1000 ≤ off) && decide (off < 0x40_1400)) || off == 0x70_0000 || off == 0x70_0008 || off == 0x70_0020))

/-- A function's BAR0 reaches the unit. -/
def unitReaches (s : State) (f : FnId) (off : Nat) (write : Bool) : Bool := f.val == 0 || vfReaches s f off write

end Sys2Proof.Machine
end

