-- ==== Sys2Proof/Machine/Registers.lean ====
section
/-! DEFINITION. The host's register accesses (R8 to R12, R507, R510, R511): the RC fields that a read clears, the RW, W1C and
W1S fields that a write sets or clears, REGISTER_WRITE and REGISTER_READ_CLEAR. A field with a row of its own in the
table is written by that row. -/

namespace Sys2Proof.Machine

/-! ## Clearing reads -/

/-- Applies a change when a half of a unit is accessed. -/
def onHalf {α : Type} (half : Bool) (f : α → α) (x : α) : α := if half then f x else x

def clearHi (h : HostIf) (o : Nat) (lo : Bool) : HostIf :=
  if o = 0x18 then onHalf lo (fun x => { x with errCount := 0 }) h
  else if o = 0x28 then onHalf lo (fun x => { x with badAccess := 0, poisoned := 0 }) h
  else h

def clearGh (g : Gatehouse) (o : Nat) (lo : Bool) : Gatehouse :=
  if o = 0x110 then onHalf lo (fun x => { x with lateDrop := 0 }) g
  else if o = 0x190 then onHalf lo (fun x => { x with rejectEntries := 0, rejectItems := 0 }) g
  else g

def clearTile (x : Tile) (o : Nat) (lo hi : Bool) : Tile :=
  if o = 0x08 then onHalf hi (fun y => { y with yieldMax := 0 }) x
  else if o = 0x10 then onHalf hi (fun y => { y with switches := 0 }) (onHalf lo (fun y => { y with switchMax := 0 }) x)
  else if o = 0x20 then onHalf lo (fun y => { y with corrected := 0 }) x
  else if o = 0x40 then
    onHalf hi (fun y => { y with checks := { y.checks with skip := 0 } })
      (onHalf lo (fun y => { y with checks := { y.checks with pass := 0 } }) x)
  else if o = 0x48 then onHalf lo (fun y => { y with checks := { y.checks with checksum := 0, residue := 0 } }) x
  else if o = 0x50 then onHalf lo (fun y => { y with checks := { y.checks with sat := 0 } }) x
  else x

/-- A 64-bit counter read by halves keeps the half that was not read. -/
def clearHalves (v : Word64) (lo hi : Bool) : Word64 :=
  v &&& BitVec.ofNat 64 ((if lo then 0 else 0xFFFFFFFF) + (if hi then 0 else 0xFFFFFFFF_00000000))

def clearTu (s : State) (o : Nat) (lo hi : Bool) : State :=
  let c := ctxId s.ms.ctxSelect.toNat
  if o = 0x258 then
    { s with ms := onHalf hi (fun x => { x with spillL5 := 0 }) (onHalf lo (fun x => { x with spillL3 := 0, spillL4 := 0 }) s.ms) }
  else if o = 0x268 then modCtx s c (fun x => { x with traffic3 := clearHalves x.traffic3 lo hi })
  else if o = 0x270 then modCtx s c (fun x => { x with traffic4 := clearHalves x.traffic4 lo hi })
  else if o = 0x278 then modCtx s c (fun x => { x with traffic5 := clearHalves x.traffic5 lo hi })
  else s

def clearMc (s : State) (o : Nat) (hi : Bool) : State :=
  let k := o / 0x1000
  let c := o % 0x1000 / 0x20
  if o < 0x4000 ∧ o % 0x1000 < 0x100 ∧ o % 0x20 = 0 ∧ hi ∧ kilnAnswers s (kilnId k) then
    setChannel s k c { channelOf s k c with corrected := 0, uncorrectable := 0 }
  else s

def clearFe (e : Fusion) (o : Nat) (lo hi : Bool) : Fusion :=
  let i := e.select.toNat
  let put (f : Sensor → Sensor) (x : Fusion) : Fusion :=
    { x with sensors := tabPut x.sensors i (f (tabGet sensorReset x.sensors i)) }
  if o = 0x10 then
    onHalf hi (put (fun x => { x with frozen := 0, invalid := 0 })) (onHalf lo (put (fun x => { x with late := 0, stale := 0 })) e)
  else if o = 0x18 then onHalf lo (fun x => { x with conCount := 0 }) e
  else if o = 0x20 then onHalf lo (fun x => { x with coarsen := 0, maxLevel := 0 }) e
  else e

def clearMz (m : Maze) (o : Nat) (lo hi : Bool) : Maze :=
  if o = 0x28 then
    onHalf hi (fun x => { x with maxDecel := 0, recheck := 0 }) (onHalf lo (fun x => { x with trajectory := 0, held := 0 }) m)
  else if o = 0x30 then onHalf lo (fun x => { x with mismatch := 0 }) m
  else if o = 0x38 then onHalf hi (fun x => { x with closed := 0 }) (onHalf lo (fun x => { x with programMax := 0 }) m)
  else m

def clearBv (b : Belvedere) (o : Nat) (lo hi : Bool) : Belvedere :=
  if o = 0x08 then onHalf hi (fun x => { x with releaseReject := 0 }) b
  else if o = 0x10 then onHalf hi (fun x => { x with wdCount := 0 }) b
  else if o = 0x18 then onHalf lo (fun x => { x with pairChecked := 0, pairMismatch := 0, pairTimeout := 0 }) b
  else if o = 0x20 then onHalf lo (fun x => { x with goldPassed := 0, goldMismatch := 0, goldDeferred := 0 }) b
  else if o = 0x28 then onHalf lo (fun x => { x with segments := 0, aborted := 0 }) b
  else if o = 0x38 then onHalf lo (fun x => { x with stopReject := 0 }) b
  else b

/-- Clears the counters of the selected module, where the package has it. -/
def clearTl (l : Links) (o : Nat) (lo : Bool) : Links :=
  let v := l.modSelect.toNat
  let key := 16 * (v % 8) + v / 8
  if o = 0x10 ∧ lo ∧ tabHas l.modules key then
    let m := { tabGet moduleReset l.modules key with replays := 0, errorRetrains := 0, resetRetrains := 0 }
    { l with modules := tabPut l.modules key m }
  else l

def clearPm (s : State) (o : Nat) (lo hi : Bool) : State :=
  if o = 0x20 then
    let p := onHalf lo (fun x => { x with flowStops := 0, hotSteps := 0 }) s.pw
    { s with pw := onHalf hi (fun x => { x with sensorFails := 0 }) p }
  else if 0x40 ≤ o ∧ o < 0x60 ∧ hi then
    setKilnPower s (kilnId ((o - 0x40) / 8)) { kilnPower s (kilnId ((o - 0x40) / 8)) with changes := 0 }
  else if o = 0x60 then { s with pw := onHalf lo (fun x => { x with retries := 0 }) s.pw }
  else s

def clearDb (d : Debug) (o : Nat) (lo hi : Bool) : Debug :=
  if o = 0x1008 then
    { d with lost := d.lost &&& BitVec.ofNat 32 ((if lo then 0 else 0xFFFF) + (if hi then 0 else 0xFFFF0000)) }
  else if o = 0x1118 then onHalf hi (fun x => { x with ltbLost := 0 }) d
  else d

/-- Clears the RC fields that an access reaches (R8, R507); a read of SD_TIME_NS latches the fraction. -/
def clearUnit (s : State) (off : Nat) (lo hi : Bool) : State :=
  let o := off % 0x10_0000
  match off / 0x10_0000 with
  | 0x0 => { s with hi := clearHi s.hi o lo }
  | 0x1 => { s with gh := clearGh s.gh o lo }
  | 0x3 =>
    if o < 0x1_0000 ∧ kilnAnswers s (tileDie (tileId (o / 0x100))) then
      modTile s (tileId (o / 0x100)) (fun x => clearTile x (o % 0x100) lo hi)
    else s
  | 0x4 => clearTu s o lo hi
  | 0x5 => clearMc s o hi
  | 0x6 => if o = 0x38 ∧ lo then { s with part := { s.part with miss := { s.part.miss with count := 0 } } } else s
  | 0x7 => if o = 0x00 then { s with sun := { s.sun with fracLatch := s.sun.frac } } else s
  | 0x8 => { s with fe := clearFe s.fe o lo hi }
  | 0x9 => { s with mz := clearMz s.mz o lo hi }
  | 0xA => { s with bv := clearBv s.bv o lo hi }
  | 0xB => { s with ln := clearTl s.ln o lo }
  | 0xC => if o = 0x00 ∧ lo then { s with ln := { s.ln with losses := 0 } } else s
  | 0xD => clearPm s o lo hi
  | 0xE => if o = 0x38 ∧ hi then { s with lg := { s.lg with logLost := 0 } } else s
  | 0xF => if s.lg.lifecycle = 4 then s else { s with db := clearDb s.db o lo hi }
  | _ => s

/-- A read of DB_REG_DATA that shows a lane of a v register checks the lane's parity (R142); TI_CHECK_WHERE has no code for
this reader, and its ENGINE is 0 (DESIGN CHOICE, log 148). -/
def readParity (s : State) (base : Nat) : State :=
  let o := base % 0x10_0000
  let tl := tileId ((o - 0x1_0000) / 0x100)
  let x := tileOf s tl
  let v := x.dbg.regSelect.toNat
  let lane := bits v 12 8
  if base / 0x10_0000 = 0xF ∧ 0x1_0000 ≤ o ∧ o < 0x2_0000 ∧ o % 0x100 = 0x48 ∧ s.lg.lifecycle ≠ 4 ∧ x.dbg.state = 2 ∧
      bits v 2 0 = 3 ∧ kilnAnswers s (tileDie tl) ∧ x.vbad.contains (32 * bits v 7 3 + lane) then
    checkFail s tl (laneRecord x.checks (Fin.ofNat 32 lane) 0) stResidueMismatch
  else s

/-- A read of a tile's engine counters is a sample (R491). -/
def readSample (s : State) (base : Nat) : State :=
  let o := base % 0x10_0000
  let tl := tileId ((o - 0x1_0000) / 0x100)
  if base / 0x10_0000 = 0xF ∧ 0x1_0000 ≤ o ∧ o < 0x2_0000 ∧ 0x58 ≤ o % 0x100 ∧ o % 0x100 ≤ 0x80 ∧ s.lg.lifecycle ≠ 4 ∧
      kilnAnswers s (tileDie tl) then sampleTile s tl
  else s

/-! ## Accesses -/

/-- A BAR0 access is 4 B or 8 B and naturally aligned (R507). -/
def goodAccess (off size : Nat) : Bool := (size == 4 || size == 8) && off % size == 0

/-- The halves of its unit that an access reaches: low, high. -/
def halves (off size : Nat) : Bool × Bool := (size == 8 || off % 8 == 0, size == 8 || off % 8 == 4)

/-- Counts a discarded access. -/
def badAccess (s : State) : State := { s with hi := { s.hi with badAccess := satInc s.hi.badAccess } }

/-- REGISTER_READ_CLEAR: a host read through BAR0. Its data goes to `lastRead`; RC fields of the bytes read clear. -/
def execRegisterReadClear (a : BusRead) (s : State) : Host.Outcome State Fault Refusal :=
  .next (
    let off := a.off.toNat
    let base := off / 8 * 8
    if !hostReaches s a.fn then s
    else if !goodAccess off a.size then { badAccess s with lastRead := 0 }
    else
      let h := halves off a.size
      let s1 := drawFree s
      if !unitReaches s a.fn base false then { s1 with lastRead := 0 }
      else
        let s0 := readSample s1 base
        let v := readUnit { s0 with free := s.free } a.fn base
        let data := if a.size = 8 then v else if h.1 then v % 0x1_0000_0000 else v / 0x1_0000_0000 % 0x1_0000_0000
        let s2 := readParity (clearUnit s0 base h.1 h.2) base
        { s2 with lastRead := BitVec.ofNat 64 data })

/-! ## Writes -/

/-- A register as a write leaves it, before its fields are checked: the bytes written are new. -/
def mix (old d : Nat) (lo hi : Bool) : Nat :=
  two (if lo then d % 0x1_0000_0000 else old % 0x1_0000_0000)
    (if hi then d / 0x1_0000_0000 % 0x1_0000_0000 else old / 0x1_0000_0000 % 0x1_0000_0000)

/-- A field [hi:lo] of a written register; a reserved encoding keeps the old value (R12). -/
def keepField {w : Nat} (old : BitVec w) (v lo : Nat) (ok : Nat → Bool) : BitVec w :=
  let x := v / 2 ^ lo % 2 ^ w
  if ok x then BitVec.ofNat w x else old

/-- Every encoding of a field is valid. -/
def anyOk (_ : Nat) : Bool := true

/-- All-ones is reserved in a value field with no stated range that includes it (R15). -/
def notOnes (w : Nat) (x : Nat) : Bool := x != 2 ^ w - 1

/-- A W1C bit after a write of ones `d`. -/
def w1c (b : Bool) (d i : Nat) : Bool := b && !bit d i

/-- W1C bits [hi:lo] after a write of ones `d`. -/
def w1cBits {w : Nat} (x : BitVec w) (d lo : Nat) : BitVec w := x &&& ~~~ (BitVec.ofNat w (d / 2 ^ lo))

/-- Clears the low `n` bits of an address register. -/
def aligned (v n : Nat) : Word64 := BitVec.ofNat 64 (v / 2 ^ n * 2 ^ n)

def writeHi (s : State) (o v d : Nat) : State :=
  if o = 0x10 then { s with hi := { s.hi with bar4Base := keepField s.hi.bar4Base v 30 anyOk } }
  else if o = 0x18 then { s with hi := { s.hi with errValid := w1c s.hi.errValid d 63 } }
  else s

/-- The registers of a queue: the fields of GH_SQ_CFG but ENABLE, the ring addresses, W1C bits (R31 to R35, R511). -/
def writeQueue (s : State) (f : FnId) (q : QueueId) (o v d : Nat) (lo : Bool) : State :=
  let x := queueOf s q
  if o = 0x00 then
    let y := if x.enable || !lo then x else configQueue s f q (BitVec.ofNat 32 v)
    setQueue s q { y with doorbellErr := w1c x.doorbellErr d 44, planDrop := w1c x.planDrop d 47 }
  else if o = 0x08 then (if x.enable then s else setQueue s q { x with base := aligned v 12 })
  else if o = 0x10 then (if x.enable then s else setQueue s q { x with cqBase := aligned v 12 })
  else s

def writeGh (s : State) (f : FnId) (o v d : Nat) (lo : Bool) : State :=
  if o = 0x100 then { s with gh := { s.gh with ctxSelect := keepField s.gh.ctxSelect v 0 anyOk } }
  else if o = 0x108 then
    { s with gh := { s.gh with faultCtx := { s.gh.faultCtx with valid := w1c s.gh.faultCtx.valid d 63 } } }
  else if o = 0x120 then
    let p := progressOf s f.val
    setProgress s f.val { p with
      base := BitVec.ofNat 64 (v / 256 * 256 + v % 2),
      writeCount := if !p.base.getLsbD 0 && bit v 0 then 0 else p.writeCount }
  else if o = 0x180 then { s with gh := { s.gh with batchSelect := keepField s.gh.batchSelect v 0 anyOk } }
  else if o = 0x228 then
    { s with part := { s.part with busyErr := w1c s.part.busyErr d 0, rangeErr := w1c s.part.rangeErr d 1 } }
  else if 0x1_0000 ≤ o ∧ o < 0x1_0800 then writeQueue s f (queueId ((o - 0x1_0000) / 0x20)) (o % 0x20) v d lo
  else s

/-- W1C bits of SY_SATURATED. -/
def writeSy (s : State) (o d : Nat) : State :=
  if 0x4_0000 ≤ o ∧ o < 0x4_2000 then
    let i := (o - 0x4_0000) * 8
    { s with sync := { s.sync with
        saturated := s.sync.saturated.filter (fun e => !(decide (i ≤ e.1) && decide (e.1 < i + 64) && bit d (e.1 - i))) } }
  else s

/-- TI_SHELF_SELECT and the W1C bit of TI_SHELF_ECC (R109). -/
def writeTile (x : Tile) (o v d : Nat) : Tile :=
  if o = 0x18 then { x with shelfSelect := keepField x.shelfSelect v 0 (fun n => decide (n < 160)) }
  else if o = 0x20 then { x with ue := w1c x.ue d 24 }
  else x

/-- A function's allocation registers. TU_ALLOC_CTRL's fields are held while GO is 1; GO itself is its own row's. -/
def writeAlloc (s : State) (f o v d : Nat) : State :=
  let a := allocOf s f
  if o = 0x00 then (if a.ctrl.getLsbD 31 then s else setAlloc s f { a with ctrl := writeCtrl a.ctrl (BitVec.ofNat 32 v) })
  else if o = 0x08 then setAlloc s f { a with list := aligned v 3 }
  else if o = 0x10 then setAlloc s f { a with freeErr := w1c a.freeErr d 3 }
  else if o = 0x20 then
    let blocks := if notOnes 16 (v % 65536) then v % 65536 else bits a.pool.toNat 15 0
    setAlloc s f { a with pool := BitVec.ofNat 64 (v / 0x20_0000 * 0x20_0000 + blocks) }
  else s

def writeTu (s : State) (o v d : Nat) : State :=
  if o < 0x240 then writeAlloc s (o / 0x40) (o % 0x40) v d
  else if o = 0x240 then { s with ms := { s.ms with pairLimit := keepField s.ms.pairLimit v 0 (notOnes 16) } }
  else if o = 0x248 then (if s.ms.invalGo then s else { s with ms := { s.ms with invalCtx := keepField s.ms.invalCtx v 0 anyOk } })
  else if o = 0x250 then { s with ms := { s.ms with fault := { s.ms.fault with valid := w1c s.ms.fault.valid d 63 } } }
  else if o = 0x260 then { s with ms := { s.ms with ctxSelect := keepField s.ms.ctxSelect v 0 anyOk } }
  else s

def writeMc (s : State) (o d : Nat) : State :=
  let k := o / 0x1000
  let c := o % 0x1000 / 0x20
  if o < 0x4000 ∧ o % 0x1000 < 0x100 ∧ o % 0x20 = 8 ∧ kilnAnswers s (kilnId k) then
    setChannel s k c { channelOf s k c with ueValid := w1c (channelOf s k c).ueValid d 63 }
  else s

/-- Values of BW_CFG.WINDOW_US. -/
def windowOk (n : Nat) : Bool := [1, 2, 4, 5, 8, 10, 20, 25, 40, 50, 100].contains n

/-- The limit of the selected master; one below its guarantee is ignored (R354). -/
def writeLimit (s : State) (v : Nat) : State :=
  match selectedMaster s with
  | none => s
  | some m =>
    let x := s.part.masters[m]
    if v < x.guarantee.toNat then s else setMaster s m { x with limit := BitVec.ofNat 32 v }

/-- A class's pool (R354). -/
def setPool (s : State) (k : Fin 3) (v : Nat) : State :=
  { s with part := { s.part with pools := s.part.pools.set k (BitVec.ofNat 32 v) } }

def writeBw (s : State) (o v : Nat) (lo hi : Bool) : State :=
  if o = 0x00 then { s with part := { s.part with
      bwWindow := keepField s.part.bwWindow v 0 windowOk,
      bwHigh := keepField s.part.bwHigh v 8 (fun n => decide (0 < n)),
      bwStep := keepField s.part.bwStep v 16 (fun n => decide (0 < n)) } }
  else if o = 0x08 then { s with part := { s.part with bwSelect := keepField s.part.bwSelect v 0 (fun n => decide (n < 6)) } }
  else if o = 0x10 then (if hi then writeLimit s (v / 0x1_0000_0000) else s)
  else if o = 0x20 then onHalf hi (fun x => setPool x 1 (v / 0x1_0000_0000)) (onHalf lo (fun x => setPool x 0 v) s)
  else if o = 0x28 then onHalf lo (fun x => setPool x 2 v) s
  else s

/-- SD_CFG but SOURCE, and the W1C bits. -/
def writeSd (s : State) (o v d : Nat) : State :=
  if o = 0x10 then writeSdCfg s (BitVec.ofNat 9 (v % 2 ^ 9 / 4 * 4 + sunSource s))
  else if o = 0x20 then
    { s with sun := { s.sun with sourceLost := w1c s.sun.sourceLost d 3, offsetFault := w1c s.sun.offsetFault d 4 } }
  else if o = 0x28 then { s with sun := { s.sun with stoppedEver := w1cBits s.sun.stoppedEver d 8 } }
  else s

def writeFe (e : Fusion) (o v d : Nat) : Fusion :=
  if o = 0x08 then { e with select := keepField e.select v 0 anyOk }
  else if o = 0x18 then { e with conValid := w1c e.conValid d 63 }
  else e

def writeBv (b : Belvedere) (o v d : Nat) : Belvedere :=
  if o = 0x10 then { b with wdEarly := w1cBits b.wdEarly d 0, wdLate := w1cBits b.wdLate d 8, wdOff := w1c b.wdOff d 24 }
  else if o = 0x18 then { b with pairValid := w1c b.pairValid d 63 }
  else if o = 0x20 then { b with goldValid := w1c b.goldValid d 63 }
  else if o = 0x28 then { b with lag := w1c b.lag d 40 }
  else if o = 0x40 then { b with faultSelect := keepField b.faultSelect v 0 anyOk }
  else b

/-- TL_MOD_SELECT: the reserved dies keep DIE, all-ones keeps MODULE. -/
def writeTl (l : Links) (o v : Nat) : Links :=
  if o = 0x00 then
    let old := l.modSelect.toNat
    let die := if v % 8 < 6 then v % 8 else old % 8
    let m := if v / 8 % 16 = 15 then old / 8 else v / 8 % 16
    { l with modSelect := BitVec.ofNat 7 (die + 8 * m) }
  else l

/-- PM_COOLANT: values outside their stated ranges keep their field. The cap law follows (R453). -/
def writeCoolant (s : State) (v : Nat) : State :=
  applyCap { s with pw := { s.pw with
    source := bit v 0,
    inletMax := keepField s.pw.inletMax v 8 (fun n => decide (-40 ≤ signedOf 8 n) && decide (signedOf 8 n ≤ 100)),
    marginW := keepField s.pw.marginW v 16 (fun n => decide (n ≤ 100)),
    rInit := keepField s.pw.rInit v 32 (fun n => decide (0x148 ≤ n) && decide (n ≤ 0x1000)) } }

def writePm (s : State) (o v d : Nat) : State :=
  if o = 0x00 then
    applyCap { s with pw := { s.pw with userW := keepField s.pw.userW v 0 (fun n => decide (80 ≤ n) && decide (n ≤ 350)) } }
  else if o = 0x10 then writeCoolant s v
  else if o = 0x60 then { s with pw := { s.pw with fail := w1c s.pw.fail d 4 } }
  else if o = 0x100 then { s with pw := { s.pw with sleepTarget := keepField s.pw.sleepTarget v 0 (fun n => decide (n ≤ 4)) } }
  else if o = 0x110 then
    { s with pw := { s.pw with wake := keepField s.pw.wake v 0 (fun n => decide (8 ≤ n) && decide (n < 0x78)) } }
  else if o = 0x200 then
    { s with rs := { s.rs with refLost := w1c s.rs.refLost d 2, fwdLost := w1cBits s.rs.fwdLost d 8 } }
  else s

/-- Commands of the mailbox (R478): 1 to 8. -/
def knownCommand (n : Nat) : Bool := decide (1 ≤ n) && decide (n ≤ 8)

/-- LG_MBOX_CTRL: CMD is held while GO is 1, and a GO then is refused. A GO of an unknown command ends at once with RESULT 1; a
known one's is its own row's. -/
def writeMbox (s : State) (v d : Nat) : State :=
  let cmd := v % 256
  if s.lg.mboxGo then { s with lg := { s.lg with refused := s.lg.refused || (bit d 31 && !knownCommand (d % 256)) } }
  else
    let s1 := { s with lg := { s.lg with mboxCmd := BitVec.ofNat 8 cmd } }
    if bit d 31 && !knownCommand cmd then mboxEnd s1 1 0 else s1

/-- LG_SENSOR_SELECT's values: 0x00 to 0x4B and 0x80 to 0x8F. -/
def sensorIndexOk (n : Nat) : Bool := decide (n < 0x4C) || (decide (0x80 ≤ n) && decide (n < 0x90))

def writeLg (s : State) (o v d : Nat) (lo : Bool) : State :=
  if o = 0x08 then (if lo then writeMbox s v d else s)
  else if o = 0x10 then { s with lg := { s.lg with arg0 := keepField s.lg.arg0 v 0 (notOnes 64) } }
  else if o = 0x18 then { s with lg := { s.lg with arg1 := keepField s.lg.arg1 v 0 (notOnes 64) } }
  else if o = 0x20 then { s with lg := { s.lg with buf := aligned v 6 } }
  else if o = 0x28 then { s with lg := { s.lg with len := keepField s.lg.len v 0 (fun n => decide (n ≤ 0x20_0000)) } }
  else if o = 0x30 then { s with lg := { s.lg with refused := w1c s.lg.refused d 4 } }
  else if o = 0x40 then { s with lg := { s.lg with sensorSelect := keepField s.lg.sensorSelect v 0 sensorIndexOk } }
  else s

/-- DB_WATCH: a reserved size or access keeps its field. -/
def watchWrite (old v sizeAt sizeMax accessAt : Nat) : Nat :=
  let size := if sizeMax < bits v (sizeAt + 2) sizeAt then bits old (sizeAt + 2) sizeAt else bits v (sizeAt + 2) sizeAt
  let acc := if bits v (accessAt + 1) accessAt = 0 then bits old (accessAt + 1) accessAt else bits v (accessAt + 1) accessAt
  size * 2 ^ sizeAt + acc * 2 ^ accessAt

/-- A tile's debug window (R482 to R493). DB_HALT_CTRL and DB_ENG_SELECT.REASON have their own rows. -/
def writeWindow (tl : TileId) (x : TileDebug) (o v d : Nat) : TileDebug :=
  if o < 0x20 then { x with bp := tabSet 0 x.bp (o / 8) (BitVec.ofNat 64 (v % 2 ^ 44 / 8 * 8)) }
  else if o < 0x30 then
    let i := (o - 0x20) / 8
    let w := v % 2 ^ 32 + watchWrite (tabGet 0 x.watch i).toNat v 32 6 35 + bits v 48 37 * 2 ^ 37
    { x with watch := tabSet 0 x.watch i (BitVec.ofNat 64 w) }
  else if o = 0x38 then { x with stepLost := w1c x.stepLost d 6, refused := w1c x.refused d 7 }
  else if o = 0x40 then
    let file := if v % 8 < 6 then v % 8 else x.regSelect.toNat % 8
    { x with regSelect := BitVec.ofNat 64 (v % 2 ^ 19 / 8 * 8 + file) }
  else if o = 0x50 then { x with engSelect := keepField x.engSelect v 0 (fun n => decide (n ≤ 4)) }
  else if o = 0x90 ∧ censusTile tl then
    let ty := if v % 16 < 10 then v % 16 else x.censusSelect.toNat % 16
    let fm := if v / 16 % 16 = 15 then x.censusSelect.toNat / 16 else v / 16 % 16
    { x with censusSelect := BitVec.ofNat 8 (ty + 16 * fm) }
  else if o = 0xA0 ∧ censusTile tl then { x with censusFilter := keepField x.censusFilter v 0 anyOk }
  else x

def writeGhDebug (x : Debug) (o v d : Nat) : Debug :=
  if 0x100 ≤ o ∧ o < 0x120 then
    { x with ghBp := tabSet 0 x.ghBp ((o - 0x100) / 8) (BitVec.ofNat 64 (v % 2 ^ 48 / 2 * 2 + bits v 63 63 * 2 ^ 63)) }
  else if 0x120 ≤ o ∧ o < 0x130 then
    let i := (o - 0x120) / 8
    let w := v % 2 ^ 48 + watchWrite (tabGet 0 x.ghWatch i).toNat v 48 3 51 + bits v 63 63 * 2 ^ 63
    { x with ghWatch := tabSet 0 x.ghWatch i (BitVec.ofNat 64 w) }
  else if o = 0x138 then { x with ghRefused := w1c x.ghRefused d 7 }
  else x

/-- DB_DUMP registers but GO. -/
def writeDump (r : Resets) (o v : Nat) : Resets :=
  if o = 0x800 then { r with dumpBase := aligned v 12 }
  else if o = 0x808 then { r with dumpSize := keepField r.dumpSize v 0 (notOnes 32) }
  else if o = 0x810 then { r with dumpRegions := keepField r.dumpRegions v 0 anyOk, dumpAuto := bit v 8 }
  else r

/-- The trace registers; setting LOCAL starts the count of halves at 0 (R497). -/
def writeTrace (x : Debug) (o v : Nat) : Debug :=
  if o = 0x1000 then { x with
      traceCtrl := BitVec.ofNat 32 (v % 2 ^ 23), halves := if !x.traceCtrl.getLsbD 1 && bit v 1 then 0 else x.halves }
  else if o = 0x1100 then { x with ltbBase := aligned v 12 }
  else if o = 0x1108 then { x with ltbSlots := keepField x.ltbSlots v 0 (notOnes 16) }
  else if o = 0x1110 then { x with ltbPtr := aligned v 3 }
  else x

def writeDb (s : State) (o v d : Nat) : State :=
  if s.lg.lifecycle = 4 then s
  else if o < 0x800 then { s with db := writeGhDebug s.db o v d }
  else if o < 0x1000 then { s with rs := writeDump s.rs o v }
  else if o < 0x1_0000 then { s with db := writeTrace s.db o v }
  else if o < 0x2_0000 then
    let tl := tileId ((o - 0x1_0000) / 0x100)
    if kilnAnswers s (tileDie tl) then modTile s tl (fun x => { x with dbg := writeWindow tl x.dbg (o % 0x100) v d }) else s
  else s

/-- A write of a unit: `v` is the unit as the bytes written leave it, `d` the ones written. -/
def writeUnit (s : State) (f : FnId) (off v d : Nat) (lo hi : Bool) : State :=
  let o := off % 0x10_0000
  match off / 0x10_0000 with
  | 0x0 => writeHi s o v d
  | 0x1 => writeGh s f o v d lo
  | 0x2 => writeSy s o d
  | 0x3 =>
    if o < 0x1_0000 ∧ kilnAnswers s (tileDie (tileId (o / 0x100))) then
      modTile s (tileId (o / 0x100)) (fun x => writeTile x (o % 0x100) v d)
    else s
  | 0x4 => writeTu s o v d
  | 0x5 => writeMc s o d
  | 0x6 => writeBw s o v lo hi
  | 0x7 => writeSd s o v d
  | 0x8 => { s with fe := writeFe s.fe o v d }
  | 0x9 => if o = 0x30 then { s with mz := { s.mz with mismatchValid := w1c s.mz.mismatchValid d 63 } } else s
  | 0xA => { s with bv := writeBv s.bv o v d }
  | 0xB => { s with ln := writeTl s.ln o v }
  | 0xC => if o = 0x00 then { s with ln := { s.ln with roleErr := w1c s.ln.roleErr d 7 } } else s
  | 0xD => writePm s o v d
  | 0xE => writeLg s o v d lo
  | 0xF => writeDb s o v d
  | _ => s

/-- A function's Advanced Error Reporting capability shows an error: the bit of its Uncorrectable Error Status is that of the
base specification (PRESUMED, log 169). -/
def reportAer (s : State) (f bitNo : Nat) : State :=
  { s with hi := { s.hi with aer := tabSet 0 s.hi.aer f (tabGet 0 s.hi.aer f ||| BitVec.ofNat 32 (2 ^ bitNo)) } }

/-- Counts and reports a discarded poisoned write to a function (R507). -/
def poisonedWrite (s : State) (f : FnId) : State :=
  reportAer { s with hi := { s.hi with poisoned := satInc s.hi.poisoned } } f.val 12

/-- BW_MISS.VALID is W1C. -/
def clearMiss (s : State) (off d : Nat) : State :=
  if off = 0x60_0038 then { s with part := { s.part with miss := { s.part.miss with valid := w1c s.part.miss.valid d 63 } } } else s

/-- REGISTER_WRITE: a host write through BAR0 (R507, R511). -/
def execRegisterWrite (a : BusWrite) (s : State) : Host.Outcome State Fault Refusal :=
  .next (
    let off := a.off.toNat
    let base := off / 8 * 8
    if !hostReaches s a.fn then s
    else
      let s1 := if goodAccess off a.size then s else badAccess s
      let s2 := if a.poisoned then poisonedWrite s1 a.fn else s1
      if !goodAccess off a.size ∨ a.poisoned ∨ !unitReaches s a.fn base true then s2
      else
        let h := halves off a.size
        let d := if a.size = 8 then a.data.toNat
          else if h.1 then a.data.toNat % 0x1_0000_0000 else a.data.toNat % 0x1_0000_0000 * 0x1_0000_0000
        clearMiss (writeUnit s2 a.fn base (mix (readUnit s2 a.fn base) d h.1 h.2) d h.1 h.2) base d)

end Sys2Proof.Machine
end

