-- ==== Sys2Proof/Machine/Dump.lean ====
section
/-! DEFINITION. Crash dumps (R430 to R433). -/

namespace Sys2Proof.Machine

/-- Base of the register window (R214). -/
def registerWindow : Nat := 0x6000_0000_0000

/-- The pattern of an unreadable word (R431). -/
def dumpPattern : Nat := 0xBAD0_BAD0_BAD0_BAD0

/-- A region: the bit that selects it, its first byte's address, and its 8-byte reads in order. -/
structure DumpRegion where
  id     : Nat
  source : Nat
  words  : List (Nat × Nat)
  deriving DecidableEq, Repr

/-- `n` bytes of registers from a BAR0 offset. -/
def registerRegion (s : State) (id off n : Nat) : DumpRegion :=
  { id := id, source := registerWindow + off,
    words := (List.range (n / 8)).map (fun i => (registerWindow + off + 8 * i, readUnit s 0 (off + 8 * i))) }

/-- A block of registers, 1 MiB (R510). -/
def blockRegion (s : State) (id k : Nat) : DumpRegion := registerRegion s id (k * 0x10_0000) 0x10_0000

/-- Memory words. -/
def memoryWords (s : State) (a n : Nat) : List (Nat × Nat) :=
  (List.range (n / 8)).map (fun i => (a + 8 * i, leNat (memReads s.mem (a + 8 * i) 8)))

def memoryRegion (s : State) (id a n : Nat) : DumpRegion := { id := id, source := a, words := memoryWords s a n }

/-- An island's 64 fault records, the newest first. The manual gives their memory no address: a free value (DEDUCED, log 104). -/
def recordRegion (s : State) (i : Island) : DumpRegion :=
  let a := freeValue s / (match i with
    | .a => 1
    | .b => 2 ^ 48) % 2 ^ 48
  let l := (islandOf s i).records.flatMap (fun r => slice r 0 64)
  { id := 3, source := a, words := (List.range 512).map (fun j => (a + 8 * j, field l (8 * j) 8)) }

/-- Physical shelves bound on a die, in increasing number. -/
def boundOn (s : State) (k : Nat) : List Nat :=
  (s.tl.shelves.filter (fun e => e.1 / 0x4000 == k && (match e.2 with
    | .bound _ _ _ => true
    | _ => false))).map (fun e => e.1)

/-- The bound shelves of a die as one region; with none, its address is not stated: a free value (DEDUCED, log 104). -/
def shelfRegion (s : State) (k : Nat) : DumpRegion :=
  let l := boundOn s k
  { id := 7, source := ((l.head?).map shelfBase).getD (freeValue s % 2 ^ 48),
    words := l.flatMap (fun p => memoryWords s (shelfBase p) 0x1_0000) }

/-- The seed shelf of each context that is not FREE, in increasing ID. -/
def seedRegions (s : State) : List DumpRegion :=
  s.gh.contexts.filterMap (fun e =>
    if e.2.state = .free then none
    else (boundShelf s (ctxId e.1) false e.2.seedShelf).map (fun p => memoryRegion s 6 (shelfBase p) 0x1_0000))

/-- SD_, FE_, MZ_ and BV_ register blocks and the islands' fault records. -/
def safetyRegions (s : State) : List DumpRegion :=
  [blockRegion s 3 7, blockRegion s 3 8, blockRegion s 3 9, blockRegion s 3 10, recordRegion s .a, recordRegion s .b]

/-- The regions of one bit of DB_DUMP_CTRL.REGIONS, in order (R432). -/
def regionsOf (s : State) (b : Nat) : List DumpRegion :=
  match b with
  | 0 => [blockRegion s 0 1, blockRegion s 0 2]
  | 1 => (List.range 4).map (fun k => registerRegion s 1 (0x30_0000 + k * 0x4000) 0x4000)
  | 2 => [blockRegion s 2 4, blockRegion s 2 5, blockRegion s 2 6, blockRegion s 2 11, blockRegion s 2 12]
  | 3 => safetyRegions s
  | 4 => match s.gh.mirrorA with
    | some k => [memoryRegion s 4 (reservedBase s k.val) 0x200_0000]
    | none => []
  | 5 => [memoryRegion s 5 keepBase 0x80_0000]
  | 6 => seedRegions s
  | 7 => (List.range 4).map (shelfRegion s)
  | _ => []

/-- The selected regions in order. -/
def dumpRegionsOf (s : State) : List DumpRegion :=
  ((List.range 8).filter (fun b => s.rs.dumpRegions.getLsbD b)).flatMap (regionsOf s)

/-- The Kiln die that holds what an address names: registers of its tiles or channels, its shelves, its memory. -/
def addressDie (a : Nat) : Option Nat :=
  let o := a - registerWindow
  if a < 0x20_0000_0000 then some (a / 0x8_0000_0000)
  else if shelfBase 0 ≤ a ∧ a < shelfBase 0x1_0000 then some ((a - shelfBase 0) / 0x4000_0000)
  else if registerWindow + 0x30_0000 ≤ a ∧ a < registerWindow + 0x31_0000 then some ((o - 0x30_0000) / 0x4000)
  else if registerWindow + 0x50_0000 ≤ a ∧ a < registerWindow + 0x50_4000 then some ((o - 0x50_0000) / 0x1000)
  else none

/-- A read times out: the unit does not answer, or its die is not in service. -/
def timesOut (s : State) (dead : List Nat) (a : Nat) : Bool :=
  dead.contains a || (match addressDie a with
    | some k => !kilnIn s (kilnId k)
    | none => false)

/-- A read returns an uncorrectable error. -/
def uncorrectableAt (s : State) (a : Nat) : Bool :=
  s.tl.badWords.any (fun w => decide (w < a + 8) && decide (a < w + 8)) || (badGranule s a 8).isSome

/-- A word of a region as written, its mark, and the address that the read reached, if it reached one. -/
structure DumpWord where
  value  : Nat
  marked : Bool
  reached : Option Nat
  deriving DecidableEq, Repr

/-- The words of a region as written (R431): `i` counts them, `run` consecutive time-outs in the page, `skip` says that the
rest of the page is not read. -/
def readWords (s : State) (dead : List Nat) : Nat → Nat → Bool → List (Nat × Nat) → List DumpWord
  | _, _, _, [] => []
  | i, run, skip, (a, v) :: r =>
    let n := if i % 512 = 0 then 0 else run
    let k := i % 512 != 0 && skip
    if k then ⟨dumpPattern, true, none⟩ :: readWords s dead (i + 1) n true r
    else if timesOut s dead a then ⟨dumpPattern, true, none⟩ :: readWords s dead (i + 1) (n + 1) (decide (4 ≤ n + 1)) r
    else if uncorrectableAt s a then ⟨dumpPattern, true, some a⟩ :: readWords s dead (i + 1) 0 false r
    else ⟨v, false, some a⟩ :: readWords s dead (i + 1) 0 false r

/-- Marks of the 64 B granules, for a number of granules. -/
def granuleMarks : Nat → List DumpWord → List Bool
  | 0, _ => []
  | n + 1, l => (l.take 8).any (fun e => e.marked) :: granuleMarks n (l.drop 8)

/-- A bit map's bytes. -/
def mapBytes (l : List Bool) : Nat → List Byte
  | 0 => []
  | n + 1 => BitVec.ofNat 8 (((List.range 8).map (fun i => if (l[i]?).getD false then 2 ^ i else 0)).sum) ::
      mapBytes (l.drop 8) n

/-- A region's data and map, the number of granules marked, and the addresses that its reads reached. -/
def regionBytes (s : State) (dead : List Nat) (r : DumpRegion) : List Byte × Nat × List Nat :=
  let w := readWords s dead 0 0 false r.words
  let marks := granuleMarks ((w.length + 7) / 8) w
  let len := (8 * w.length + 511) / 512
  (w.flatMap (fun e => leBytes 8 e.value) ++ mapBytes marks ((len + 7) / 8 * 8), (marks.filter (fun b => b)).length,
    w.filterMap (fun e => e.reached))

/-- A dump as it is made: the table's entries, the bytes after the table, granules marked, whether a region was cut, and the
addresses read. -/
structure DumpBody where
  table  : List Byte
  data   : List Byte
  marked : Nat
  cut    : Bool
  reads  : List Nat
  deriving DecidableEq, Repr

/-- Adds a region: whole when it fits in `room` bytes and `want` holds of it, else with LENGTH 0 and TRUNCATED; the DATA_OFF of
such an entry is not stated: a free value (DEDUCED, log 104). -/
def addRegion (s : State) (dead : List Nat) (head room : Nat) (want : DumpRegion → Bool) (b : DumpBody) (r : DumpRegion) : DumpBody :=
  let x := regionBytes s dead r
  let at' := head + b.data.length
  let entry (flags len off : Nat) : List Byte :=
    leBytes 1 r.id ++ leBytes 1 flags ++ zeros 6 ++ leBytes 8 r.source ++ leBytes 8 len ++ leBytes 8 off
  if want r ∧ at' + x.1.length ≤ room then
    { table := b.table ++ entry 0 (8 * r.words.length) at', data := b.data ++ x.1, marked := b.marked + x.2.1, cut := b.cut,
      reads := b.reads ++ x.2.2 }
  else { b with table := b.table ++ entry 1 0 (freeValue s), cut := true }

/-- A dump: its bytes, its count of granules marked, whether it was truncated, and the addresses read. -/
structure Dump where
  bytes  : List Byte
  marked : Nat
  cut    : Bool
  reads  : List Nat
  deriving DecidableEq, Repr

/-- The whole dump. -/
def dumpImage (s : State) (dead : List Nat) (l : List DumpRegion) (room : Nat) (want : DumpRegion → Bool) : Dump :=
  let head := 128 + 32 * l.length
  let b := l.foldl (addRegion s dead head room want) { table := [], data := [], marked := 0, cut := false, reads := [] }
  let total := head + b.data.length
  let front := [0x44, 0x55, 0x4D, 0x50] ++ leBytes 2 1 ++ leBytes 2 l.length ++ leBytes 8 s.rs.dumpStart ++ leBytes 8 (now s) ++
    leBytes 8 total ++ leBytes 1 s.rs.dumpTrigger.toNat ++ leBytes 1 (b2n b.cut) ++ zeros 2 ++ leBytes 4 b.marked ++
    leBytes 8 dumpPattern ++ leBytes 8 s.rs.dumpFault.toNat ++ leBytes 8 s.rs.dumpPart.toNat ++ zeros 60
  let rest := b.table ++ b.data
  { bytes := front ++ leBytes 4 (crc32c (front ++ zeros 4 ++ rest)).toNat ++ rest, marked := b.marked, cut := b.cut,
    reads := b.reads }

/-- What a dump's read of one word leaves (R91, R225, R226): a corrected error is counted, and in LPDDR6 written back; an
uncorrectable one is counted, latched and reported. -/
def dumpRead (s : State) (a : Nat) : State :=
  match s.tl.badWords.find? (fun w => decide (w < a + 8) && decide (a < w + 8)), badGranule s a 8 with
  | some w, _ =>
    if shelfBase 0 ≤ w ∧ w < shelfBase 0x1_0000 then shelfReport s w none else s
  | none, some g => portUncorrectable s g
  | none, none => noteSoft (correctGranules s a 8) [(a, 8)]

/-- The dump goes to host memory. Where the table alone is longer than the buffer nothing is written past the buffer's end. -/
def dumpToHost (s : State) (dead : List Nat) : State :=
  let room := s.rs.dumpSize.toNat * 4096
  let x := dumpImage s dead (dumpRegionsOf s) room (fun _ => true)
  let s1 := x.reads.foldl dumpRead s
  { s1 with
    hostMem := memWrites s.hostMem s.rs.dumpBase.toNat (x.bytes.take room),
    rs := { s1.rs with dumpResult := if x.cut then 1 else 0, unreadable := BitVec.ofNat 32 x.marked } }

/-- The dump goes to the flash: header, table, and the data of bit 3's regions (R433, CODE 0x0034 of R476). -/
def dumpToFlash (s : State) (dead : List Nat) : State :=
  let l := if s.rs.dumpRegions.getLsbD 3 then dumpRegionsOf s else dumpRegionsOf s ++ safetyRegions s
  let x := dumpImage s dead l 0x100_0000 (fun r => r.id == 3)
  let s1 := flashWrites (flashErase (x.reads.foldl dumpRead s) 0x140_0000 0x100_0000) 0x140_0000 x.bytes
  let s2 := { s1 with rs := { s1.rs with dumpResult := 2, unreadable := BitVec.ofNat 32 x.marked } }
  logEntry s2 0x0034 (leBytes 4 x.marked)

/-- DUMP_START: a write of DB_DUMP_CTRL with GO by the physical function; a dump that runs goes on. -/
def execDumpStart (f : FnId) (v : Word32) (t : Nat) (s : State) : Host.Outcome State Fault Refusal :=
  .next (
    let s := atTime t s
    if !debugReaches s f ∨ !v.getLsbD 31 ∨ s.rs.dumpGo then s
    else
      startDump { s with rs := { s.rs with dumpRegions := v.setWidth 8, dumpAuto := v.getLsbD 8 } } 0)

/-- A hub warm reset that waited for its dump runs (R430). -/
def resetAfterDump (s : State) : State :=
  match s.rs.hubWaits with
  | some p => hubReset { s with rs := { s.rs with hubWaits := none } } p
  | none => s

/-- DUMP_END: the running dump's regions have been read and written. A write to host memory waits while the physical function
cannot issue requests (R505). -/
def execDumpEnd (hostOk : Bool) (unreadable : List Nat) (t : Nat) (s : State) : Host.Outcome State Fault Refusal :=
  .next (
    let s := atTime t s
    if !s.rs.dumpGo ∨ s.rs.held then s
    else if s.rs.dumpSize = 0 ∨ !hostOk then
      let s1 := drawFree (dumpToFlash s unreadable)
      resetAfterDump { s1 with rs := { s1.rs with dumpGo := false } }
    else if !fnCanIssue s 0 then s
    else
      let s1 := drawFree (dumpToHost s unreadable)
      resetAfterDump { s1 with rs := { s1.rs with dumpGo := false } })

end Sys2Proof.Machine
end

