-- ==== Sys2Proof/Machine/HostPort.lean ====
section
/-! DEFINITION. The PCI Express function and the pair partner as requesters: power states (R505), the link (R241, R501), BAR4
(R506, R509), failed host reads (R513), and the partner's accesses and block requests (R235, R415). -/

namespace Sys2Proof.Machine

/-- FUNCTION_POWER_STATE: the power state and Bus Master Enable of a function (R505). -/
def execFunctionPowerState (f : FnId) (d3hot busMaster : Bool) (s : State) : Host.Outcome State Fault Refusal :=
  .next (if fnExists s f.val then setFnPower s f.val { fnPower s f.val with d3hot := d3hot, busMaster := busMaster } else s)

/-- PCIE_LINK_CHANGE: HI_LINK shows the trained speed and width, and the topology table changes (R241, R501). -/
def execPcieLinkChange (speed : Fin 6) (width : Nat) (up : Bool) (s : State) : Host.Outcome State Fault Refusal :=
  .next (
    if s.rs.held then s
    else if !up then bumpTopology { s with hi := { s.hi with linkUp := false, linkSpeed := 0, linkWidth := 0 } }
    else if speed.val = 0 ∨ !([1, 2, 4, 8].contains width) then s
    else bumpTopology { s with hi := { s.hi with
      linkUp := true, linkSpeed := BitVec.ofNat 3 speed.val, linkWidth := BitVec.ofNat 4 width } })

/-! ## BAR4 -/

/-- Device physical address of a BAR4 offset (R509). -/
def bar4Address (s : State) (off : Nat) : Nat :=
  let size := 2 ^ s.hi.bar4Log
  s.hi.bar4Base.toNat * 2 ^ 30 / size * size + off

/-- The present bytes of a read at LPDDR6, all-ones where the address is absent or has no route (R219, R242). -/
def readPresent (s : State) (pa n : Nat) : List Byte :=
  (List.range n).map (fun i => if hubSees s (pa + i) then memRead s.mem (pa + i) else 0xFF)

/-- A BAR4 read: all-ones and a poisoned completion where a granule is uncorrectable (R226). -/
def bar4Read (s : State) (pa n : Nat) : State :=
  let good : State := { correctGranules s pa n with lastBytes := readPresent s pa n, lastPoison := false }
  match badGranule s pa n with
  | some g =>
    if hubSees s g then
      { portUncorrectable s g with lastBytes := List.replicate n 0xFF, lastPoison := true }
    else good
  | none => good

/-- The device-reserved area of the die holds the address (R220). -/
def inReserved (s : State) (pa : Nat) : Bool :=
  let k := pa / 0x8_0000_0000
  lpddrPresent s pa && decide (reservedBase s k ≤ pa)

/-- Writes the part of one granule that a port's write covers; a partial write of an uncorrectable granule is discarded (R225). -/
def writePiece (ok : State → Nat → Bool) (s : State) (pa : Nat) (l : List Byte) : State :=
  if !ok s pa then s
  else
    match partialGranule s pa l.length with
    | some g => portUncorrectable s g
    | none => paWrites s pa l

/-- Writes bytes granule by granule. -/
def writePieces (ok : State → Nat → Bool) : Nat → State → Nat → List Byte → State
  | 0, s, _, _ => s
  | n + 1, s, pa, l =>
    if l.isEmpty then s
    else
      let k := 32 - pa % 32
      writePieces ok n (writePiece ok s pa (l.take k)) (pa + k) (l.drop k)

/-- BAR4 writes act on present memory outside the device-reserved area (R219, R220). -/
def bar4Writes (s : State) (pa : Nat) : Bool := hubSees s pa && !inReserved s pa

/-- An access through BAR4 that the regulator lets go. With the Kiln dies unpowered (S2) the manual does not say what a read
returns, or whether a write is kept: free (DESIGN CHOICE, log 106). -/
def bar4Move (s : State) (pa : Nat) (a : Bar4Access) : State :=
  let asleep := decide (2 ≤ s.pw.sleepState.toNat)
  match a.write with
  | none =>
    let s1 := countMaster s 1 a.n
    if asleep then { drawFree s1 with lastBytes := leBytes a.n (freeValue s1), lastPoison := false } else bar4Read s1 pa a.n
  | some l =>
    if a.poisoned then poisonedWrite s 0
    else
      let s1 := countMaster s 1 l.length
      if asleep ∧ freeValue s1 % 2 = 0 then drawFree s1
      else writePieces bar4Writes (l.length / 32 + 2) (if asleep then drawFree s1 else s1) pa l

/-- BAR4_ACCESS: a read or write by the physical function (R509). A paused one waits: nothing happens until it comes again. -/
def execBar4Access (a : Bar4Access) (s : State) : Host.Outcome State Fault Refusal :=
  .next (
    let pa := bar4Address s a.off
    let n := match a.write with
      | none => a.n
      | some l => l.length
    if !hostReaches s 0 ∨ 2 ^ s.hi.bar4Log < a.off + n ∨ masterPaused s 1 pa then s else bar4Move s pa a)

/-! ## Failed host reads -/

/-- The function whose requester ID a failed read carried (R217): the queue's for a descriptor fetch or a block, that of the
context's class for an instance or a chain, the physical function's for the mailbox; another reader's its input names. -/
def requester (s : State) (e : HostReadError) : Nat :=
  match e.source, e.reader with
  | 0, _ => (queueOf s e.queue).function.toNat
  | 1, some w => classFunction s (ctxOf s (itemCtx s w.item)).cls
  | 2, _ => (queueOf s e.queue).function.toNat
  | 3, _ => 0
  | _, _ => e.fn.val

/-- HI_HOST_ERR and HI_HOST_ERR_ADDR after a failed read. -/
def latchHostError (s : State) (e : HostReadError) : State :=
  { s with hi := { s.hi with
    errKind := BitVec.ofNat 3 e.kind.val, errFn := BitVec.ofNat 4 (requester s e), errSource := BitVec.ofNat 3 e.source.val,
    errQueue := if e.source.val = 0 then BitVec.ofNat 6 e.queue.val else 0,
    errCount := satInc s.hi.errCount, errValid := true, errAddr := e.addr } }

/-- A descriptor fetch failed: HEAD stays, and the fetch is retried. -/
def failFetch (s : State) (q : QueueId) : State :=
  if canFetch s q then setQueue s q { queueOf s q with fetchFailed := true } else s

/-- A creation or configuration block of the descriptor at HEAD could not be read: ST_FIELD_RANGE with DETAIL 16, unless a rule
of higher rank is broken too. -/
def failBlock (s : State) (q : QueueId) : State :=
  if !canFetch s q then s
  else
    let d := headEntry s q
    match worst (descriptorViols s q d .unreadable) with
    | some v => rejectEntry s q d v
    | none => s

/-- DETAIL of ST_MEMORY_UNCORRECTABLE for host memory. -/
def hostDetail : Word32 := 0x406

/-- An item's error on the engine of a tile: its replay goes elsewhere (R58). -/
def failOn (s : State) (i : ItemId) (tl : Option TileId) : State :=
  let s1 := match tl with
    | some t => avoidTile s i t
    | none => s
  hardwareError s1 i stMemoryUncorrectable hostDetail

/-- An instance's read, or a read of its chains or of a COPY, failed. -/
def failReader (s : State) (w : InstanceId) : State :=
  match findInst s w with
  | some x => if x.golden then goldenFail s x else failOn s w.item x.ranOn
  | none =>
    match findItem s w.item with
    | some x =>
      match x.engine, itemChains s w.item with
      | some tl, _ => failOn (modItem s w.item (fun y => { y with engine := none })) w.item (some tl)
      | none, c :: _ => failOn s w.item (some c.tile)
      | none, [] => s
    | none => s

/-- HOST_READ_ERROR (R513). -/
def execHostReadError (e : HostReadError) (s : State) : Host.Outcome State Fault Refusal :=
  .next (
    if !packageUp s then s
    else
      let s0 := latchHostError s e
      let s1 := if e.kind.val < 2 then s0 else reportAer s0 (requester s e) (if e.kind.val = 2 then 12 else 14)
      match e.source with
      | 0 => failFetch s1 e.queue
      | 1 => match e.reader with
        | some w => failReader s1 w
        | none => s1
      | 2 => failBlock s1 e.queue
      | 3 => mboxFail s1
      | _ => s1)

/-! ## The partner -/

/-- A present block lent to the partner holds the address: the inbound lend map (R415). -/
def lentAt (s : State) (pa : Nat) : Bool :=
  hubSees s pa && s.ms.blocks.any (fun e => e.2 == .lent && e.1 == pa / blockBytesN * blockBytesN)

/-- Every block that an access of `len` bytes touches is lent. -/
def lentRange (s : State) (a len : Nat) : Bool :=
  (List.range (len / blockBytesN + 2)).all (fun i => lentAt s (min (a + i * blockBytesN) (a + (len - 1))))

/-- PARTNER_ACCESS: an access of the partner reaches lent blocks; one that leaves them is refused. Its traffic counts for the
Pergola link. -/
def execPartnerAccess (pa : Addr48) (write : Option (List Byte)) (n : Nat) (s : State) : Host.Outcome State Fault Refusal :=
  .next (
    let a := pa.toNat
    let len := match write with
      | none => n
      | some l => l.length
    if !s.ln.pairUp ∨ !packageUp s ∨ masterPaused s 5 a then s
    else if !lentRange s a len then { s with lastBytes := [] }
    else
      let s1 := countMaster s 5 len
      match write with
      | some l => writePieces lentAt (l.length / 32 + 2) s1 a l
      | none =>
        match badGranule s1 a n with
        | some g => { portUncorrectable s1 g with lastBytes := [] }
        | none => { correctGranules s1 a n with lastBytes := memReads s1.mem a n })

/-- Free blocks of QM memory that may be lent. -/
def lendable (s : State) : List Nat := (kilnsIn s).flatMap (fun k => freeBlocks s k .qm)

/-- Lends blocks one by one; the manual gives no order: each is a free choice among the free ones (DEDUCED, log 108). -/
def lendBlocks : Nat → State → State
  | 0, s => s
  | n + 1, s =>
    match pickOne (freeValue s) (lendable s) with
    | none => s
    | some pa =>
      let s1 := drawFree s
      lendBlocks n { s1 with
        ms := { s1.ms with blocks := tabPut s1.ms.blocks pa .lent }, ln := { s1.ln with lend := s1.ln.lend ++ [pa] } }

/-- PARTNER_LEND_REQUEST: blocks for the partner up to TU_PAIR_LEND.LIMIT (R235). -/
def execPartnerLendRequest (count : Nat) (s : State) : Host.Outcome State Fault Refusal :=
  .next (
    if !s.ln.pairUp ∨ !packageUp s then s
    else lendBlocks (min count (s.ms.pairLimit.toNat - lentBlocks s)) s)

end Sys2Proof.Machine
end

