-- ==== Sys2Proof/Machine/Scalar.lean ====
section
/-! DEFINITION. The scalar class (R148, R163 to R166): integer, immediate, address, predicate and
floating operations of the Sequencer. -/

namespace Sys2Proof.Machine

/-- A format A integer operation: sRD ← f sRS1 sRS2. -/
def aluRR (tl : TileId) (clk op : Nat) (f : Word64 → Word64 → Word64) (s : State) : State :=
  issue s tl clk op (fun s z =>
    let x := tileOf s tl
    putS s z 0 (fRD z.w) (f (sReg x (fRS1 z.w)) (sReg x (fRS2 z.w))))

/-- IMM32 sign-extended to 64 bits. -/
def immS (w : Nat) : Word64 := BitVec.ofNat 64 (wrapInt 64 (signedOf 32 (fIMM w)))

/-- A format B integer operation on the sign-extended IMM32: sRD ← f sRS1 imm. -/
def aluRI (tl : TileId) (clk op : Nat) (f : Word64 → Word64 → Word64) (s : State) : State :=
  issue s tl clk op (fun s z => putS s z 0 (fRD z.w) (f (sReg (tileOf s tl) (fRS1 z.w)) (immS z.w)))

/-- Signed quotient, truncated; R164 for a zero divisor and for −2⁶³ by −1. -/
def divS (x y : Word64) : Word64 := if y = 0 then BitVec.allOnes 64 else x.sdiv y

/-- Unsigned quotient; all ones for a zero divisor (R164). -/
def divU (x y : Word64) : Word64 := if y = 0 then BitVec.allOnes 64 else x / y

/-- Signed remainder, sign of the dividend; the dividend for a zero divisor (R164). -/
def remS (x y : Word64) : Word64 := if y = 0 then x else x.srem y

/-- Unsigned remainder; the dividend for a zero divisor (R164). -/
def remU (x y : Word64) : Word64 := if y = 0 then x else x % y

/-- High 64 bits of the signed product. -/
def mulHighS (x y : Word64) : Word64 := BitVec.ofInt 64 (x.toInt * y.toInt / (2 ^ 64 : Nat))

/-- High 64 bits of the unsigned product. -/
def mulHighU (x y : Word64) : Word64 := BitVec.ofNat 64 (x.toNat * y.toNat / 2 ^ 64)

/-- Shift amount: the low six bits. -/
def shamt (y : Word64) : Nat := y.toNat % 64

def minS (x y : Word64) : Word64 := if x.slt y then x else y
def maxS (x y : Word64) : Word64 := if x.slt y then y else x

/-- `add.i64`: sum modulo 2⁶⁴ (Scalar class table). -/
def execInstrAddI64 (tl : TileId) (clk : Nat) (s : State) : Host.Outcome State Fault Refusal :=
  .next (aluRR tl clk 0x20 (fun x y => x + y) s)

/-- `sub.i64`: difference modulo 2⁶⁴ (Scalar class table). -/
def execInstrSubI64 (tl : TileId) (clk : Nat) (s : State) : Host.Outcome State Fault Refusal :=
  .next (aluRR tl clk 0x21 (fun x y => x - y) s)

/-- `mul.i64`: low 64 bits of the product (Scalar class table). -/
def execInstrMulI64 (tl : TileId) (clk : Nat) (s : State) : Host.Outcome State Fault Refusal :=
  .next (aluRR tl clk 0x22 (fun x y => x * y) s)

/-- `mulh.i64`: high 64 bits of the signed product (Scalar class table). -/
def execInstrMulhI64 (tl : TileId) (clk : Nat) (s : State) : Host.Outcome State Fault Refusal :=
  .next (aluRR tl clk 0x23 (mulHighS) s)

/-- `mulh.u64`: high 64 bits of the unsigned product (Scalar class table). -/
def execInstrMulhU64 (tl : TileId) (clk : Nat) (s : State) : Host.Outcome State Fault Refusal :=
  .next (aluRR tl clk 0x24 (mulHighU) s)

/-- `div.i64`: signed quotient (R164) (Scalar class table). -/
def execInstrDivI64 (tl : TileId) (clk : Nat) (s : State) : Host.Outcome State Fault Refusal :=
  .next (aluRR tl clk 0x25 (divS) s)

/-- `div.u64`: unsigned quotient (R164) (Scalar class table). -/
def execInstrDivU64 (tl : TileId) (clk : Nat) (s : State) : Host.Outcome State Fault Refusal :=
  .next (aluRR tl clk 0x26 (divU) s)

/-- `rem.i64`: signed remainder (R164) (Scalar class table). -/
def execInstrRemI64 (tl : TileId) (clk : Nat) (s : State) : Host.Outcome State Fault Refusal :=
  .next (aluRR tl clk 0x27 (remS) s)

/-- `rem.u64`: unsigned remainder (R164) (Scalar class table). -/
def execInstrRemU64 (tl : TileId) (clk : Nat) (s : State) : Host.Outcome State Fault Refusal :=
  .next (aluRR tl clk 0x28 (remU) s)

/-- `and.i64` (Scalar class table). -/
def execInstrAndI64 (tl : TileId) (clk : Nat) (s : State) : Host.Outcome State Fault Refusal :=
  .next (aluRR tl clk 0x29 (fun x y => x &&& y) s)

/-- `or.i64` (Scalar class table). -/
def execInstrOrI64 (tl : TileId) (clk : Nat) (s : State) : Host.Outcome State Fault Refusal :=
  .next (aluRR tl clk 0x2A (fun x y => x ||| y) s)

/-- `xor.i64` (Scalar class table). -/
def execInstrXorI64 (tl : TileId) (clk : Nat) (s : State) : Host.Outcome State Fault Refusal :=
  .next (aluRR tl clk 0x2B (fun x y => x ^^^ y) s)

/-- `shl.i64`: shift left by sRS2[5:0] (Scalar class table). -/
def execInstrShlI64 (tl : TileId) (clk : Nat) (s : State) : Host.Outcome State Fault Refusal :=
  .next (aluRR tl clk 0x2C (fun x y => x <<< shamt y) s)

/-- `shr.u64`: logical right shift by sRS2[5:0] (Scalar class table). -/
def execInstrShrU64 (tl : TileId) (clk : Nat) (s : State) : Host.Outcome State Fault Refusal :=
  .next (aluRR tl clk 0x2D (fun x y => x >>> shamt y) s)

/-- `sra.i64`: arithmetic right shift by sRS2[5:0] (Scalar class table). -/
def execInstrSraI64 (tl : TileId) (clk : Nat) (s : State) : Host.Outcome State Fault Refusal :=
  .next (aluRR tl clk 0x2E (fun x y => x.sshiftRight (shamt y)) s)

/-- `min.i64`: signed minimum (Scalar class table). -/
def execInstrMinI64 (tl : TileId) (clk : Nat) (s : State) : Host.Outcome State Fault Refusal :=
  .next (aluRR tl clk 0x2F (minS) s)

/-- `max.i64`: signed maximum (Scalar class table). -/
def execInstrMaxI64 (tl : TileId) (clk : Nat) (s : State) : Host.Outcome State Fault Refusal :=
  .next (aluRR tl clk 0x30 (maxS) s)

/-- `addi.i64`: with IMM32 (Scalar class table). -/
def execInstrAddiI64 (tl : TileId) (clk : Nat) (s : State) : Host.Outcome State Fault Refusal :=
  .next (aluRI tl clk 0x31 (fun x y => x + y) s)

/-- `andi.i64`: with IMM32 (Scalar class table). -/
def execInstrAndiI64 (tl : TileId) (clk : Nat) (s : State) : Host.Outcome State Fault Refusal :=
  .next (aluRI tl clk 0x32 (fun x y => x &&& y) s)

/-- `ori.i64`: with IMM32 (Scalar class table). -/
def execInstrOriI64 (tl : TileId) (clk : Nat) (s : State) : Host.Outcome State Fault Refusal :=
  .next (aluRI tl clk 0x33 (fun x y => x ||| y) s)

/-- `xori.i64`: with IMM32 (Scalar class table). -/
def execInstrXoriI64 (tl : TileId) (clk : Nat) (s : State) : Host.Outcome State Fault Refusal :=
  .next (aluRI tl clk 0x34 (fun x y => x ^^^ y) s)

/-- `shli.i64`: with IMM32 (Scalar class table). -/
def execInstrShliI64 (tl : TileId) (clk : Nat) (s : State) : Host.Outcome State Fault Refusal :=
  .next (aluRI tl clk 0x35 (fun x y => x <<< shamt y) s)

/-- `shri.u64`: with IMM32 (Scalar class table). -/
def execInstrShriU64 (tl : TileId) (clk : Nat) (s : State) : Host.Outcome State Fault Refusal :=
  .next (aluRI tl clk 0x36 (fun x y => x >>> shamt y) s)

/-- `srai.i64`: with IMM32 (Scalar class table). -/
def execInstrSraiI64 (tl : TileId) (clk : Nat) (s : State) : Host.Outcome State Fault Refusal :=
  .next (aluRI tl clk 0x37 (fun x y => x.sshiftRight (shamt y)) s)

/-- `li.i64`: sRD ← sign-extended IMM44. -/
def execInstrLiI64 (tl : TileId) (clk : Nat) (s : State) : Host.Outcome State Fault Refusal :=
  .next (issue s tl clk 0x38 (fun s z =>
    putS s z 0 (fRD z.w) (BitVec.ofNat 64 (wrapInt 64 (signedOf 44 (fIMM44 z.w))))))

/-- `lih.i64`: sRD[63:44] ← IMM44[19:0], the other bits kept. -/
def execInstrLihI64 (tl : TileId) (clk : Nat) (s : State) : Host.Outcome State Fault Refusal :=
  .next (issue s tl clk 0x39 (fun s z =>
    let x := (sReg (tileOf s tl) (fRD z.w)).toNat
    putS s z 0 (fRD z.w) (BitVec.ofNat 64 (x % 2 ^ 44 + fIMM44 z.w % 2 ^ 20 * 2 ^ 44))))

/-- `mova`: aRD ← sRS1[47:0] (R148). -/
def execInstrMova (tl : TileId) (clk : Nat) (s : State) : Host.Outcome State Fault Refusal :=
  .next (issue s tl clk 0x3A (fun s z => putA s z (fRD z.w) ((sReg (tileOf s tl) (fRS1 z.w)).setWidth 48)))

/-- `movs`: sRD ← aRS1, zero-extended (R148). -/
def execInstrMovs (tl : TileId) (clk : Nat) (s : State) : Host.Outcome State Fault Refusal :=
  .next (issue s tl clk 0x3B (fun s z => putS s z 0 (fRD z.w) ((aReg (tileOf s tl) (fRS1 z.w)).setWidth 64)))

/-- `addai`: aRD ← aRS1 + sign-extended IMM32, modulo 2⁴⁸. -/
def execInstrAddai (tl : TileId) (clk : Nat) (s : State) : Host.Outcome State Fault Refusal :=
  .next (issue s tl clk 0x3C (fun s z =>
    putA s z (fRD z.w) (aReg (tileOf s tl) (fRS1 z.w) + (immS z.w).setWidth 48)))

/-- `pcmp`: pRD ← all ones when COND FUNC[2:0] holds, else zero. -/
def execInstrPcmp (tl : TileId) (clk : Nat) (s : State) : Host.Outcome State Fault Refusal :=
  .next (issue s tl clk 0x3D (fun s z =>
    let x := tileOf s tl
    putP s z 0 (fRD z.w)
      (if condHolds (fFUNC z.w) (sReg x (fRS1 z.w)) (sReg x (fRS2 z.w)) then BitVec.allOnes 32 else 0)))

/-- `plog`: the predicate operation of FUNC[2:0] (R165). -/
def execInstrPlog (tl : TileId) (clk : Nat) (s : State) : Host.Outcome State Fault Refusal :=
  .next (issue s tl clk 0x3E (fun s z =>
    let x := tileOf s tl
    let k := fFUNC z.w
    let p := pReg x (fRS1 z.w)
    let q := pReg x (fRS2 z.w)
    if k = 0 then putP s z 0 (fRD z.w) (p &&& q)
    else if k = 1 then putP s z 0 (fRD z.w) (p ||| q)
    else if k = 2 then putP s z 0 (fRD z.w) (p ^^^ q)
    else if k = 3 then putP s z 0 (fRD z.w) (~~~ p)
    else if k = 4 then putP s z 0 (fRD z.w) ((sReg x (fRS1 z.w)).setWidth 32)
    else putS s z 0 (fRD z.w) (p.setWidth 64)))

/-- `fop`: the floating operation of FUNC[3:0] in the precision of FUNC[4] (R166); a saturating
conversion counts in TI_SAT_COUNT (R128). -/
def execInstrFop (tl : TileId) (clk : Nat) (s : State) : Host.Outcome State Fault Refusal :=
  .next (issue s tl clk 0x3F (fun s z =>
    let x := tileOf s tl
    let k := fFUNC z.w % 16
    let fp32 := bit (fFUNC z.w) 4
    let a := sReg x (fRS1 z.w)
    let v := fopResult k fp32 (fRND z.w) (fSATN z.w) a (sReg x (fRS2 z.w)) (sReg x (fRS3 z.w))
    let s1 := putS s z 0 (fRD z.w) v
    if fopCounts k fp32 (fRND z.w) (fSATN z.w) a then
      modTile s1 tl (fun y => { y with checks := { y.checks with sat := satInc y.checks.sat } })
    else s1))

end Sys2Proof.Machine
end

