-- ==== Sys2Proof/Machine/SeqModel.lean ====
section
/-! DEFINITION. The sequence-model class: `sscore.i8` and `stopk.i32` (R210 to R213). -/

namespace Sys2Proof.Machine

/-- Signed INT8 values of bytes. -/
def int8s (l : List Byte) : List Int := l.map (fun b => b.toInt)

/-- Σ of products of two integer lists. -/
def dot (a b : List Int) : Int := ((a.zip b).map (fun p => p.1 * p.2)).sum

/-- Summary `j` of 64 bytes. -/
def summaryAt (l : List Byte) (j : Nat) : List Int := int8s (slice l (64 * j) 64)

/-- Column sums of the summaries. -/
def columnSums (n : Nat) (l : List Byte) : List Int :=
  (List.range 64).map (fun d => ((List.range n).map (fun j => (l.getD (64 * j + d) 0).toInt)).sum)

/-- The scores as INT32, one of them upset by a physical fault. -/
def scoresOf (q l : List Byte) (n : Nat) (upset : Option (Nat × Word32)) : List Word32 :=
  (List.range n).map (fun j =>
    let v := BitVec.ofInt 32 (dot (int8s q) (summaryAt l j))
    match upset with
    | some (k, m) => if k = j then v ^^^ m else v
    | none => v)

/-- Continues once the Tensor Array's queue has run what is ahead of an instruction, a drain in its unit left out (R195). -/
def inQueue (s : State) (z : Site) (k : State → State) : State := afterCheck s z (fun s => afterFetches s z k)

/-- `sscore.i8`: checked dot products (R210, R211); a lane check that fails in the same clock cycle counts, too (R145). -/
def execInstrSscoreI8 (tl : TileId) (clk : Nat) (bad : ScoreFault) (s : State) : Host.Outcome State Fault Refusal :=
  .next (issue s tl clk 0xF0 (fun s z => inQueue s z (fun s =>
    let x := tileOf s tl
    let n := (sReg x (fRS2 z.w)).toNat % 65536
    if n = 0 then s
    else if 8192 < n then illegalEngine s z
    else
      engineAddr s z (fRS3 z.w) 64 (fun qa =>
        engineAddr s z (fRS1 z.w) 64 (fun sa =>
          engineAddr s z (fRD z.w) 64 (fun da =>
            engineRead s z qa 64 (fun s q =>
              engineRead s z sa (64 * n) (fun s l =>
                let scores := scoresOf q l n bad.flip
                let nocheck := bit (fFUNC z.w) 0 && (ctxOf s z.ctx).cls == .qm
                let good := BitVec.ofInt 32 ((scores.map (fun v => v.toInt)).sum) ==
                  BitVec.ofInt 32 (dot (int8s q) (columnSums n l))
                if !nocheck && !good then
                  let c := (tileOf s tl).checks
                  let c1 := { c with
                    checksum := satInc c.checksum, lastFormat := 0xE, lastUnit := false,
                    whereReg := c.whereReg &&& 0xFFFFBF7F }
                  checkFail s tl (bothFail c1 bad.lane) stChecksumMismatch
                else
                  let s1 := if nocheck then s else modTile s tl (fun x =>
                    { x with checks := { x.checks with pass := satInc x.checks.pass } })
                  let data := scores.flatMap (fun v => leBytes 4 v.toNat)
                  withEngine s1 z (siteChunks z 1 128 (data.length / 128 + 1) s1 da data) (fun s2 =>
                    laneToo (census s2 z 8 0 (64 * n)) tl (some z.inst) bad.lane)))))))))

/-- A list entry of `stopk`: signed score and index. -/
def topEntry (l : List Byte) (i : Nat) : Word32 × Nat :=
  (BitVec.ofNat 32 (field l (8 * i) 4), field l (8 * i + 4) 4)

/-- The sentinel of R212. -/
def sentinel : Word32 × Nat := (0x80000000, 0xFFFFFFFF)

/-- Order of R212: larger score first, equal scores by lower index. -/
def topBefore (a b : Word32 × Nat) : Bool :=
  decide (b.1.toInt < a.1.toInt) || (a.1 == b.1 && decide (a.2 ≤ b.2))

/-- Puts a candidate into a list in the order of R212. -/
def topInsert (a : Word32 × Nat) : List (Word32 × Nat) → List (Word32 × Nat)
  | [] => [a]
  | b :: r => if topBefore a b then a :: b :: r else b :: topInsert a r

/-- The K best of the candidates, filled up with sentinels (R212). -/
def topList (k : Nat) (cand : List (Word32 × Nat)) : List (Word32 × Nat) :=
  let l := (cand.foldr topInsert []).take k
  l ++ List.replicate (k - l.length) sentinel

/-- `stopk.i32`: top K with indexes, merging into the list where asked (R212, R213). -/
def execInstrStopkI32 (tl : TileId) (clk : Nat) (s : State) : Host.Outcome State Fault Refusal :=
  .next (issue s tl clk 0xF1 (fun s z => inQueue s z (fun s =>
    let x := tileOf s tl
    let ctl := (sReg x (fRS2 z.w)).toNat
    let n := bits ctl 15 0
    let k := bits ctl 22 16
    let merge := bit ctl 23
    let base := bits ctl 63 32
    if 8192 < n ∨ 64 < k ∨ (0 < n ∧ 0xFFFFFFFF ≤ base + n - 1) then illegalEngine s z
    else
      engineAddr s z (fRS1 z.w) 64 (fun sa =>
        engineAddr s z (fRD z.w) 64 (fun da =>
          engineRead s z sa (4 * n) (fun s l =>
            engineRead s z da (if merge then 8 * k else 0) (fun s old =>
              let fresh := (List.range n).map (fun j => (BitVec.ofNat 32 (field l (4 * j) 4), base + j))
              let kept := if merge then ((List.range k).map (topEntry old)).filter (fun e => e != sentinel) else []
              let out := (topList k (kept ++ fresh)).flatMap (fun e => leBytes 4 e.1.toNat ++ leBytes 4 e.2)
              withEngine s z (siteChunks z 1 128 (out.length / 128 + 1) s da out) (fun s1 =>
                census s1 z 9 14 (n + kept.length)))))))))

end Sys2Proof.Machine
end

