-- ==== Sys2Proof/Machine/Dispatch.lean ====
section
/-! DEFINITION. The dispatcher: one arm for each constructor of `Instr`, a direct call of its meaning. -/

namespace Sys2Proof.Machine

/-- What a command does to everything but the queue of waiting commands. -/
def exec (i : Instr) (s : State) : Host.Outcome State Fault Refusal :=
  match i with
  | .registerWrite a => Sys2Proof.Machine.execRegisterWrite a s
  | .queueEnable f q v => Sys2Proof.Machine.execQueueEnable f q v s
  | .queueDisable f q v => Sys2Proof.Machine.execQueueDisable f q v s
  | .queueDisableDone q => Sys2Proof.Machine.execQueueDisableDone q s
  | .submissionDoorbell f q v => Sys2Proof.Machine.execSubmissionDoorbell f q v s
  | .completionDoorbell f q v => Sys2Proof.Machine.execCompletionDoorbell f q v s
  | .descriptorFetch q t host => Sys2Proof.Machine.execDescriptorFetch q t host s
  | .descriptorFetchRetry q t host => Sys2Proof.Machine.execDescriptorFetchRetry q t host s
  | .descriptorAccept q t => Sys2Proof.Machine.execDescriptorAccept q t s
  | .run it => Sys2Proof.Machine.execRun it s
  | .copy it => Sys2Proof.Machine.execCopy it s
  | .fuseConfig it => Sys2Proof.Machine.execFuseConfig it s
  | .planConfig it => Sys2Proof.Machine.execPlanConfig it s
  | .fence it t => Sys2Proof.Machine.execFence it t s
  | .contextCreate it => Sys2Proof.Machine.execContextCreate it s
  | .contextDestroy it t => Sys2Proof.Machine.execContextDestroy it t s
  | .syncAdd it t => Sys2Proof.Machine.execSyncAdd it t s
  | .syncReset it t => Sys2Proof.Machine.execSyncReset it t s
  | .itemBegin it t => Sys2Proof.Machine.execItemBegin it t s
  | .deadlineExpire it t => Sys2Proof.Machine.execDeadlineExpire it t s
  | .contextLoad c t host => Sys2Proof.Machine.execContextLoad c t host s
  | .tilePlace t => Sys2Proof.Machine.execTilePlace t s
  | .postInstance t => Sys2Proof.Machine.execPostInstance t s
  | .stagingDone tl => Sys2Proof.Machine.execStagingDone tl s
  | .switch tl clk t => Sys2Proof.Machine.execSwitch tl clk t s
  | .yieldWatchdogExpire tl => Sys2Proof.Machine.execYieldWatchdogExpire tl s
  | .contextDrainDone c => Sys2Proof.Machine.execContextDrainDone c s
  | .teardownStallTimeout x t => Sys2Proof.Machine.execTeardownStallTimeout x t s
  | .lateResponseDrop c => Sys2Proof.Machine.execLateResponseDrop c s
  | .itemPublish it t => Sys2Proof.Machine.execItemPublish it t s
  | .itemReplay it => Sys2Proof.Machine.execItemReplay it s
  | .journalRebuild => Sys2Proof.Machine.execJournalRebuild s
  | .progressWrite f t => Sys2Proof.Machine.execProgressWrite f t s
  | .syncFabricApply n => Sys2Proof.Machine.execSyncFabricApply n s
  | .instrNop tl clk => Sys2Proof.Machine.execInstrNop tl clk s
  | .instrYield tl clk => Sys2Proof.Machine.execInstrYield tl clk s
  | .instrEnd tl clk => Sys2Proof.Machine.execInstrEnd tl clk s
  | .instrTrap tl clk => Sys2Proof.Machine.execInstrTrap tl clk s
  | .instrB tl clk => Sys2Proof.Machine.execInstrB tl clk s
  | .instrCall tl clk => Sys2Proof.Machine.execInstrCall tl clk s
  | .instrJr tl clk => Sys2Proof.Machine.execInstrJr tl clk s
  | .instrRdsr tl clk t => Sys2Proof.Machine.execInstrRdsr tl clk t s
  | .instrAddI64 tl clk => Sys2Proof.Machine.execInstrAddI64 tl clk s
  | .instrSubI64 tl clk => Sys2Proof.Machine.execInstrSubI64 tl clk s
  | .instrMulI64 tl clk => Sys2Proof.Machine.execInstrMulI64 tl clk s
  | .instrMulhI64 tl clk => Sys2Proof.Machine.execInstrMulhI64 tl clk s
  | .instrMulhU64 tl clk => Sys2Proof.Machine.execInstrMulhU64 tl clk s
  | .instrDivI64 tl clk => Sys2Proof.Machine.execInstrDivI64 tl clk s
  | .instrDivU64 tl clk => Sys2Proof.Machine.execInstrDivU64 tl clk s
  | .instrRemI64 tl clk => Sys2Proof.Machine.execInstrRemI64 tl clk s
  | .instrRemU64 tl clk => Sys2Proof.Machine.execInstrRemU64 tl clk s
  | .instrAndI64 tl clk => Sys2Proof.Machine.execInstrAndI64 tl clk s
  | .instrOrI64 tl clk => Sys2Proof.Machine.execInstrOrI64 tl clk s
  | .instrXorI64 tl clk => Sys2Proof.Machine.execInstrXorI64 tl clk s
  | .instrShlI64 tl clk => Sys2Proof.Machine.execInstrShlI64 tl clk s
  | .instrShrU64 tl clk => Sys2Proof.Machine.execInstrShrU64 tl clk s
  | .instrSraI64 tl clk => Sys2Proof.Machine.execInstrSraI64 tl clk s
  | .instrMinI64 tl clk => Sys2Proof.Machine.execInstrMinI64 tl clk s
  | .instrMaxI64 tl clk => Sys2Proof.Machine.execInstrMaxI64 tl clk s
  | .instrAddiI64 tl clk => Sys2Proof.Machine.execInstrAddiI64 tl clk s
  | .instrAndiI64 tl clk => Sys2Proof.Machine.execInstrAndiI64 tl clk s
  | .instrOriI64 tl clk => Sys2Proof.Machine.execInstrOriI64 tl clk s
  | .instrXoriI64 tl clk => Sys2Proof.Machine.execInstrXoriI64 tl clk s
  | .instrShliI64 tl clk => Sys2Proof.Machine.execInstrShliI64 tl clk s
  | .instrShriU64 tl clk => Sys2Proof.Machine.execInstrShriU64 tl clk s
  | .instrSraiI64 tl clk => Sys2Proof.Machine.execInstrSraiI64 tl clk s
  | .instrLiI64 tl clk => Sys2Proof.Machine.execInstrLiI64 tl clk s
  | .instrLihI64 tl clk => Sys2Proof.Machine.execInstrLihI64 tl clk s
  | .instrMova tl clk => Sys2Proof.Machine.execInstrMova tl clk s
  | .instrMovs tl clk => Sys2Proof.Machine.execInstrMovs tl clk s
  | .instrAddai tl clk => Sys2Proof.Machine.execInstrAddai tl clk s
  | .instrPcmp tl clk => Sys2Proof.Machine.execInstrPcmp tl clk s
  | .instrPlog tl clk => Sys2Proof.Machine.execInstrPlog tl clk s
  | .instrFop tl clk => Sys2Proof.Machine.execInstrFop tl clk s
  | .instrLdU tl clk upset => Sys2Proof.Machine.execInstrLdU tl clk upset s
  | .instrLdI tl clk => Sys2Proof.Machine.execInstrLdI tl clk s
  | .instrSt tl clk upset => Sys2Proof.Machine.execInstrSt tl clk upset s
  | .instrLda tl clk => Sys2Proof.Machine.execInstrLda tl clk s
  | .instrSta tl clk => Sys2Proof.Machine.execInstrSta tl clk s
  | .instrVldB32 tl clk => Sys2Proof.Machine.execInstrVldB32 tl clk s
  | .instrVstB32 tl clk err => Sys2Proof.Machine.execInstrVstB32 tl clk err s
  | .instrFence tl clk => Sys2Proof.Machine.execInstrFence tl clk s
  | .instrSalloc tl clk => Sys2Proof.Machine.execInstrSalloc tl clk s
  | .instrSfree tl clk => Sys2Proof.Machine.execInstrSfree tl clk s
  | .instrSinfo tl clk => Sys2Proof.Machine.execInstrSinfo tl clk s
  | .instrDma tl clk => Sys2Proof.Machine.execInstrDma tl clk s
  | .dmaDescriptor tl ch host upset => Sys2Proof.Machine.execDmaDescriptor tl ch host upset s
  | .dmaChainEnd tl ch => Sys2Proof.Machine.execDmaChainEnd tl ch s
  | .instrDtest tl clk => Sys2Proof.Machine.execInstrDtest tl clk s
  | .instrDwaitY tl clk => Sys2Proof.Machine.execInstrDwaitY tl clk s
  | .instrSaddU32 tl clk => Sys2Proof.Machine.execInstrSaddU32 tl clk s
  | .instrSresetU32 tl clk => Sys2Proof.Machine.execInstrSresetU32 tl clk s
  | .instrStestU32 tl clk => Sys2Proof.Machine.execInstrStestU32 tl clk s
  | .instrSwaitY tl clk => Sys2Proof.Machine.execInstrSwaitY tl clk s
  | .swaitSatisfied w => Sys2Proof.Machine.execSwaitSatisfied w s
  | .instrTldw tl clk => Sys2Proof.Machine.execInstrTldw tl clk s
  | .shadowActivate tl => Sys2Proof.Machine.execShadowActivate tl s
  | .instrTwfmt tl clk => Sys2Proof.Machine.execInstrTwfmt tl clk s
  | .instrTmac tl clk => Sys2Proof.Machine.execInstrTmac tl clk s
  | .instrTclr tl clk => Sys2Proof.Machine.execInstrTclr tl clk s
  | .instrTdrain tl clk => Sys2Proof.Machine.execInstrTdrain tl clk s
  | .drainVerdict tl bad => Sys2Proof.Machine.execDrainVerdict tl bad s
  | .instrTchk tl clk => Sys2Proof.Machine.execInstrTchk tl clk s
  | .instrTrow tl clk => Sys2Proof.Machine.execInstrTrow tl clk s
  | .instrVadd tl clk err => Sys2Proof.Machine.execInstrVadd tl clk err s
  | .instrVsub tl clk err => Sys2Proof.Machine.execInstrVsub tl clk err s
  | .instrVmul tl clk err => Sys2Proof.Machine.execInstrVmul tl clk err s
  | .instrVfma tl clk err => Sys2Proof.Machine.execInstrVfma tl clk err s
  | .instrVmin tl clk err => Sys2Proof.Machine.execInstrVmin tl clk err s
  | .instrVmax tl clk err => Sys2Proof.Machine.execInstrVmax tl clk err s
  | .instrVnegVabs tl clk err => Sys2Proof.Machine.execInstrVnegVabs tl clk err s
  | .instrVcvt tl clk err => Sys2Proof.Machine.execInstrVcvt tl clk err s
  | .instrVcmp tl clk err => Sys2Proof.Machine.execInstrVcmp tl clk err s
  | .instrVsel tl clk err => Sys2Proof.Machine.execInstrVsel tl clk err s
  | .instrVlogic tl clk err => Sys2Proof.Machine.execInstrVlogic tl clk err s
  | .instrVshift tl clk err => Sys2Proof.Machine.execInstrVshift tl clk err s
  | .instrVbcast tl clk => Sys2Proof.Machine.execInstrVbcast tl clk s
  | .instrVred tl clk err => Sys2Proof.Machine.execInstrVred tl clk err s
  | .instrVfn tl clk err => Sys2Proof.Machine.execInstrVfn tl clk err s
  | .instrVperm tl clk err => Sys2Proof.Machine.execInstrVperm tl clk err s
  | .instrVgather tl clk err => Sys2Proof.Machine.execInstrVgather tl clk err s
  | .instrVscatter tl clk err => Sys2Proof.Machine.execInstrVscatter tl clk err s
  | .instrVldc tl clk => Sys2Proof.Machine.execInstrVldc tl clk s
  | .instrVstc tl clk err => Sys2Proof.Machine.execInstrVstc tl clk err s
  | .instrVext tl clk err => Sys2Proof.Machine.execInstrVext tl clk err s
  | .instrVins tl clk err => Sys2Proof.Machine.execInstrVins tl clk err s
  | .instrViota tl clk => Sys2Proof.Machine.execInstrViota tl clk s
  | .instrSscoreI8 tl clk bad => Sys2Proof.Machine.execInstrSscoreI8 tl clk bad s
  | .instrStopkI32 tl clk => Sys2Proof.Machine.execInstrStopkI32 tl clk s
  | .translationWalk tl c va write => Sys2Proof.Machine.execTranslationWalk tl c va write s
  | .tuInval f v => Sys2Proof.Machine.execTuInval f v s
  | .tuInvalDone => Sys2Proof.Machine.execTuInvalDone s
  | .blockAlloc f v grants => Sys2Proof.Machine.execBlockAlloc f v grants s
  | .blockAllocDone f listOk t => Sys2Proof.Machine.execBlockAllocDone f listOk t s
  | .blockFree f v => Sys2Proof.Machine.execBlockFree f v s
  | .patrolRead pa symbols t => Sys2Proof.Machine.execPatrolRead pa symbols t s
  | .batchEntryWrite f v => Sys2Proof.Machine.execBatchEntryWrite f v s
  | .batchTableStep it t host => Sys2Proof.Machine.execBatchTableStep it t host s
  | .sdSourceWrite f v => Sys2Proof.Machine.execSdSourceWrite f v s
  | .sdSet f v => Sys2Proof.Machine.execSdSet f v s
  | .ppsEdge rising t => Sys2Proof.Machine.execPpsEdge rising t s
  | .gptpSync port offset t => Sys2Proof.Machine.execGptpSync port offset t s
  | .sourceLost src => Sys2Proof.Machine.execSourceLost src s
  | .timeBusSync die t => Sys2Proof.Machine.execTimeBusSync die t s
  | .replicaStopped die t => Sys2Proof.Machine.execReplicaStopped die t s
  | .replicaResync die => Sys2Proof.Machine.execReplicaResync die s
  | .planCycleBoundary t => Sys2Proof.Machine.execPlanCycleBoundary t s
  | .cameraTrigger port t => Sys2Proof.Machine.execCameraTrigger port t s
  | .cameraFrame fr => Sys2Proof.Machine.execCameraFrame fr s
  | .lidarPacket pk => Sys2Proof.Machine.execLidarPacket pk s
  | .spiDataReady port bytes edge arrival => Sys2Proof.Machine.execSpiDataReady port bytes edge arrival s
  | .gnssFix bytes arrival => Sys2Proof.Machine.execGnssFix bytes arrival s
  | .fusionPublish inp t => Sys2Proof.Machine.execFusionPublish inp t s
  | .mazeWindowOpen t x => Sys2Proof.Machine.execMazeWindowOpen t x s
  | .mazePass bad => Sys2Proof.Machine.execMazePass bad s
  | .mazeSearch => Sys2Proof.Machine.execMazeSearch s
  | .mazeSkipIfFound => Sys2Proof.Machine.execMazeSkipIfFound s
  | .mazeEnd t => Sys2Proof.Machine.execMazeEnd t s
  | .mazeWindowClose t => Sys2Proof.Machine.execMazeWindowClose t s
  | .publicationOpen t => Sys2Proof.Machine.execPublicationOpen t s
  | .recheckPass t bad => Sys2Proof.Machine.execRecheckPass t bad s
  | .planCommit t => Sys2Proof.Machine.execPlanCommit t s
  | .partSplitWrite f v => Sys2Proof.Machine.execPartSplitWrite f v s
  | .partMapWrite f k v => Sys2Proof.Machine.execPartMapWrite f k v s
  | .windowOpen w t => Sys2Proof.Machine.execWindowOpen w t s
  | .windowClose w t => Sys2Proof.Machine.execWindowClose w t s
  | .regulatorWindow t waiting => Sys2Proof.Machine.execRegulatorWindow t waiting s
  | .throttleLevelChange qu occupancy => Sys2Proof.Machine.execThrottleLevelChange qu occupancy s
  | .bwMasterGuaranteeWrite f v => Sys2Proof.Machine.execBwMasterGuaranteeWrite f v s
  | .bwMasterClassWrite f v => Sys2Proof.Machine.execBwMasterClassWrite f v s
  | .lockstepMismatch isl => Sys2Proof.Machine.execLockstepMismatch isl s
  | .islandHeartbeat x => Sys2Proof.Machine.execIslandHeartbeat x s
  | .peerHeartbeatLoss isl => Sys2Proof.Machine.execPeerHeartbeatLoss isl s
  | .boundaryTimeout isl spacing => Sys2Proof.Machine.execBoundaryTimeout isl spacing s
  | .gatehouseHeartbeat => Sys2Proof.Machine.execGatehouseHeartbeat s
  | .gatehouseHeartbeatLoss => Sys2Proof.Machine.execGatehouseHeartbeatLoss s
  | .heldStopFrame => Sys2Proof.Machine.execHeldStopFrame s
  | .safeRelease f v => Sys2Proof.Machine.execSafeRelease f v s
  | .stopRequestFrame isl ident data => Sys2Proof.Machine.execStopRequestFrame isl ident data s
  | .canBusOff ctl off => Sys2Proof.Machine.execCanBusOff ctl off s
  | .islandSupplyFault isl => Sys2Proof.Machine.execIslandSupplyFault isl s
  | .islandOscillatorFault isl => Sys2Proof.Machine.execIslandOscillatorFault isl s
  | .islandReset x => Sys2Proof.Machine.execIslandReset x s
  | .watchdogCompletion w t => Sys2Proof.Machine.execWatchdogCompletion w t s
  | .watchdogDeadline w t => Sys2Proof.Machine.execWatchdogDeadline w t s
  | .pairSignature w t => Sys2Proof.Machine.execPairSignature w t s
  | .pairTimeout it n t => Sys2Proof.Machine.execPairTimeout it n t s
  | .goldenReserve w t => Sys2Proof.Machine.execGoldenReserve w t s
  | .goldenRun it w t => Sys2Proof.Machine.execGoldenRun it w t s
  | .startupTest o t => Sys2Proof.Machine.execStartupTest o t s
  | .selftestSegmentStart u t => Sys2Proof.Machine.execSelftestSegmentStart u t s
  | .selftestSegmentAbort u t => Sys2Proof.Machine.execSelftestSegmentAbort u t s
  | .selftestSegmentEnd u pass t => Sys2Proof.Machine.execSelftestSegmentEnd u pass t s
  | .selftestLag tl t => Sys2Proof.Machine.execSelftestLag tl t s
  | .targetedTestEnd unit shelf pass t => Sys2Proof.Machine.execTargetedTestEnd unit shelf pass t s
  | .faultReport die r t => Sys2Proof.Machine.execFaultReport die r t s
  | .faultEpochClose die t => Sys2Proof.Machine.execFaultEpochClose die t s
  | .flitReceive m good => Sys2Proof.Machine.execFlitReceive m good s
  | .linkErrorThreshold m t => Sys2Proof.Machine.execLinkErrorThreshold m t s
  | .linkTraining m a t => Sys2Proof.Machine.execLinkTraining m a t s
  | .linkDetectTimeout m => Sys2Proof.Machine.execLinkDetectTimeout m s
  | .linkResetSequence m => Sys2Proof.Machine.execLinkResetSequence m s
  | .dieLost die t => Sys2Proof.Machine.execDieLost die t s
  | .pergolaTime leader t => Sys2Proof.Machine.execPergolaTime leader t s
  | .pairTopologyRefresh states => Sys2Proof.Machine.execPairTopologyRefresh states s
  | .pairLinkLoss t => Sys2Proof.Machine.execPairLinkLoss t s
  | .pairLendReclaim t => Sys2Proof.Machine.execPairLendReclaim t s
  | .refclkLoss t => Sys2Proof.Machine.execRefclkLoss t s
  | .forwardedClockLoss die t => Sys2Proof.Machine.execForwardedClockLoss die t s
  | .coldReset b => Sys2Proof.Machine.execColdReset b s
  | .perstN t => Sys2Proof.Machine.execPerstN t s
  | .tlResetHub f v t => Sys2Proof.Machine.execTlResetHub f v t s
  | .tlResetDie f v t o => Sys2Proof.Machine.execTlResetDie f v t o s
  | .partitionReset f v t x => Sys2Proof.Machine.execPartitionReset f v t x s
  | .partitionPurgeTimeout x => Sys2Proof.Machine.execPartitionPurgeTimeout x s
  | .tileReset tl => Sys2Proof.Machine.execTileReset tl s
  | .dumpStart f v t => Sys2Proof.Machine.execDumpStart f v t s
  | .dumpEnd hostOk unreadable t => Sys2Proof.Machine.execDumpEnd hostOk unreadable t s
  | .governorTick d t => Sys2Proof.Machine.execGovernorTick d t s
  | .pmKilnCeilingWrite f k v => Sys2Proof.Machine.execPmKilnCeilingWrite f k v s
  | .avsRequest k retries mv => Sys2Proof.Machine.execAvsRequest k retries mv s
  | .avsRequestFail k retries t => Sys2Proof.Machine.execAvsRequestFail k retries t s
  | .powerTelemetry rails => Sys2Proof.Machine.execPowerTelemetry rails s
  | .slewAdmit k tl milliamps t => Sys2Proof.Machine.execSlewAdmit k tl milliamps t s
  | .sleepEntry f v t wake => Sys2Proof.Machine.execSleepEntry f v t wake s
  | .sleepReturnRequest f v => Sys2Proof.Machine.execSleepReturnRequest f v s
  | .wakeAddress b => Sys2Proof.Machine.execWakeAddress b s
  | .sleepReturn o t => Sys2Proof.Machine.execSleepReturn o t s
  | .pmRetainWrite f v => Sys2Proof.Machine.execPmRetainWrite f v s
  | .thermalSample temps coolant t => Sys2Proof.Machine.execThermalSample temps coolant t s
  | .rEstUpdate t => Sys2Proof.Machine.execREstUpdate t s
  | .hotStep t => Sys2Proof.Machine.execHotStep t s
  | .thermalTrip sensor => Sys2Proof.Machine.execThermalTrip sensor s
  | .mboxStatus g => Sys2Proof.Machine.execMboxStatus g s
  | .mboxUpdate g flashOk => Sys2Proof.Machine.execMboxUpdate g flashOk s
  | .mboxActivate g b => Sys2Proof.Machine.execMboxActivate g b s
  | .mboxCommit g => Sys2Proof.Machine.execMboxCommit g s
  | .mboxAttest g => Sys2Proof.Machine.execMboxAttest g s
  | .mboxLogRead g => Sys2Proof.Machine.execMboxLogRead g s
  | .mboxLifecycle g b => Sys2Proof.Machine.execMboxLifecycle g b s
  | .mboxCerts g => Sys2Proof.Machine.execMboxCerts g s
  | .logMirrorFlush t => Sys2Proof.Machine.execLogMirrorFlush t s
  | .breakpointHit tl => Sys2Proof.Machine.execBreakpointHit tl s
  | .watchHit tl => Sys2Proof.Machine.execWatchHit tl s
  | .dbHalt f tl v => Sys2Proof.Machine.execDbHalt f tl v s
  | .haltDrained tl => Sys2Proof.Machine.execHaltDrained tl s
  | .dbResume f tl v => Sys2Proof.Machine.execDbResume f tl v s
  | .dbStep f tl v => Sys2Proof.Machine.execDbStep f tl v s
  | .ghHalt cause => Sys2Proof.Machine.execGhHalt cause s
  | .ghResume f v => Sys2Proof.Machine.execGhResume f v s
  | .ghStep f v pc => Sys2Proof.Machine.execGhStep f v pc s
  | .engSelectWrite f tl v => Sys2Proof.Machine.execEngSelectWrite f tl v s
  | .traceRecord r t => Sys2Proof.Machine.execTraceRecord r t s
  | .ltbHalfDrain buf t => Sys2Proof.Machine.execLtbHalfDrain buf t s
  | .functionLevelReset f t => Sys2Proof.Machine.execFunctionLevelReset f t s
  | .sriovVfChange enable numVfs t => Sys2Proof.Machine.execSriovVfChange enable numVfs t s
  | .functionPowerState f d3hot busMaster => Sys2Proof.Machine.execFunctionPowerState f d3hot busMaster s
  | .bar4Access a => Sys2Proof.Machine.execBar4Access a s
  | .hostReadError e => Sys2Proof.Machine.execHostReadError e s
  | .railFault rail t => Sys2Proof.Machine.execRailFault rail t s
  | .registerReadClear a => Sys2Proof.Machine.execRegisterReadClear a s
  | .copyTransferEnd it host t => Sys2Proof.Machine.execCopyTransferEnd it host t s
  | .blockScrubDone blk => Sys2Proof.Machine.execBlockScrubDone blk s
  | .refclkRestored => Sys2Proof.Machine.execRefclkRestored s
  | .railRestored rail b => Sys2Proof.Machine.execRailRestored rail b s
  | .islandOscillatorRestored isl => Sys2Proof.Machine.execIslandOscillatorRestored isl s
  | .pcieLinkChange speed width up => Sys2Proof.Machine.execPcieLinkChange speed width up s
  | .traceLinkChange up => Sys2Proof.Machine.execTraceLinkChange up s
  | .partnerAccess pa write n => Sys2Proof.Machine.execPartnerAccess pa write n s
  | .partnerLendRequest count => Sys2Proof.Machine.execPartnerLendRequest count s

end Sys2Proof.Machine
end

