-- ==== Sys2Proof/Machine/Step.lean ====
section
/-! DEFINITION. One step: the command at the front of the queue runs on the state with the queue's
rest; with no command waiting, Sundial counts on by one ns (DESIGN CHOICE, log 3). -/

namespace Sys2Proof.Machine

/-- The state with its queue replaced. -/
def State.withPending (s : State) (l : List Instr) : State := { s with pending := l }

/-- An idle step: Sundial and the time elapsed count one ns (R265), unless it is stopped in S3 or S4 (R445) or the device
is held. -/
def idle (s : State) : State :=
  if 3 ≤ s.pw.sleepState.toNat ∨ s.rs.held then s 
  else { s with sun := { s.sun with ns := s.sun.ns + 1, elapsed := s.sun.elapsed + 1 } }

/-- One step of the block. -/
def step (s : State) : Host.Outcome State Fault Refusal :=
  match s.pending with
  | [] => .next (idle s)
  | c :: r => exec c (s.withPending r)

/-- The state with the command that a table word spells put at the front of its queue. No row of the
table gives bits, so no word spells a command. -/
def State.withFetchWord (s : State) (nbits w : Nat) : State :=
  match decodeTableWord nbits w with
  | some c => s.withPending (c :: s.pending)
  | none => s

end Sys2Proof.Machine
end

