-- ==== Sys2Proof/WellFormed.lean ====
section
/-! DEFINITION. When a command is well formed: its operands are ones that the outside world can give.
The meanings are total and need none of this; the checks say what a sender of commands must respect. -/

namespace Sys2Proof

/-- A Sundial time or a clock-cycle count fits the 64 bits of its register (SD_TIME_NS, R150). -/
def timeOk (t : Nat) : Bool := decide (t < 2 ^ 64)

/-- Addresses of a list of cells strictly rise. -/
def cellsRise : List Host.Cell → Bool
  | [] => true
  | [_] => true
  | (a, _) :: (b, y) :: r => decide (a < b) && cellsRise ((b, y) :: r)

/-- What a command finds in host memory: each byte once, in order, at 64-bit bus addresses. -/
def hostOk (l : List Host.Cell) : Bool := cellsRise l && l.all (fun c => decide (c.1 < 2 ^ 64))

/-- The data of a host write fits the bytes that the request carries. -/
def BusWrite.wf (a : BusWrite) : Bool := decide (0 < a.size) && decide (a.data.toNat < 256 ^ a.size)

/-- A host read asks for at least one byte. -/
def BusRead.wf (a : BusRead) : Bool := decide (0 < a.size)

/-- An instance index is below the largest INSTANCES of R38. -/
def InstanceId.wf (w : InstanceId) : Bool := decide (w.index < 65535)

/-- A whole 2 MiB block within a package's LPDDR6. -/
def blockOk (b : Nat) : Bool := b % 0x20_0000 == 0 && decide (b < 0x20_0000_0000)

/-- A camera frame: 16 strip signatures (R286) and an arrival no earlier than its start. -/
def CameraSample.wf (f : CameraSample) : Bool :=
  f.strips.length == 16 && decide (f.frameStart ≤ f.arrival) && timeOk f.arrival

/-- A lidar packet's arrival time. -/
def LidarSample.wf (p : LidarSample) : Bool := timeOk p.arrival

/-- An FP16 code is a finite number: its exponent is not all ones. -/
def fp16Finite (w : BitVec 16) : Bool := w.toNat / 1024 % 32 != 31

/-- A finite FP32 word in units of 2⁻¹⁴⁹. -/
def fp32Units (w : Word32) : Option Int :=
  let e := w.toNat / 2 ^ 23 % 256
  let m := w.toNat % 2 ^ 23
  let a : Nat := if e = 0 then m else (m + 2 ^ 23) * 2 ^ (e - 1)
  if e = 255 then none else some (if w.getLsbD 31 then -(a : Int) else a)

/-- Four FP32 words are a unit quaternion, to the rounding of its components (R297; DEDUCED, log 162). -/
def unitQuaternion (l : List Word32) : Bool :=
  match l.mapM fp32Units with
  | some [w, x, y, z] => decide ((w * w + x * x + y * y + z * z - 2 ^ 298).natAbs ≤ 2 ^ 278)
  | _ => false

/-- An object: a usable ID, sizes and a velocity that are numbers, a place for each of the 32 bins (R294). -/
def Track.wf (x : Track) : Bool :=
  x.id != 0xFFFFFFFF && x.place.length == 32 && x.half.toList.all fp16Finite && x.velocity.toList.all fp16Finite

/-- The fusion steps' numbers: 13 words of pose and rates, 7 of map pose, each orientation a unit quaternion (R297), 21 of
covariance, 12 for each pose change. -/
def FusionInput.wf (x : FusionInput) : Bool :=
  x.pose.length == 13 && unitQuaternion ((x.pose.drop 3).take 4) && x.mapPose.all (fun l => l.length == 7 && unitQuaternion (l.drop 3)) &&
    x.covariance.length == 21 && x.changes.all (fun c => c.2.length == 12) && x.tracks.all Track.wf

/-- A bank has at most 8,192 checkers to name in MZ_MISMATCH. -/
def CheckerUpset.wf (c : CheckerUpset) : Bool := decide (c.checker < 8192)

/-- Upset words are whole 8 B words of the store or the banks (R214). -/
def MazeUpset.wf (x : MazeUpset) : Bool :=
  x.checkers.all CheckerUpset.wf &&
    x.words.all (fun w => w % 8 == 0 && decide (0x6000_2000_0000 ≤ w) && decide (w < 0x6000_2208_0000))

/-- A store of half a machine state record (R309). -/
def StateWrite.wf (x : StateWrite) : Bool := x.bytes.length == 32

/-- A measured spacing fits a 64-bit count. -/
def BoundarySpacing.wf : BoundarySpacing → Bool
  | .measured n => timeOk n
  | .missing => true

/-- A report names another unit than its reporter (R396). -/
def FaultReport.wf (r : FaultReport) : Bool := r.names != some r.reporter

/-- A lane bundle in FALLBACK is one half-group (R408): the round trip fits TL_PAIR_DELAY. -/
def TrainingAttempt.wf (a : TrainingAttempt) : Bool := decide (a.roundTripNs < 2 ^ 32)

/-- One draw per Kiln die and length (R30, R435). -/
def PowerDraws.wf (d : PowerDraws) : Bool := d.kiln100us.length == 4 && d.kiln1ms.length == 4

/-- A return's length fits PM_WAKE_STATUS. -/
def ReturnOutcome.wf (o : ReturnOutcome) : Bool := decide (o.lengthUs < 2 ^ 16)

/-- A unit ID names one of the six dies (R395). -/
def unitOk (u : BitVec 16) : Bool := decide (u.toNat < 6 * 8192)

/-- A partition reset's length fits its register, and the holder is a unit. -/
def PartitionRun.wf (x : PartitionRun) : Bool := decide (x.durationUs < 2 ^ 16) && unitOk x.holder

/-- Each holder is a unit, named once, with at least one tag. -/
def PartitionPurge.wf (x : PartitionPurge) : Bool :=
  timeOk x.t && decide (x.holders.map (fun e => e.1)).Nodup && x.holders.all (fun e => unitOk e.1 && decide (0 < e.2))

/-- A mailbox start carries a well-formed host memory and time. -/
def MboxGo.wf (g : MboxGo) : Bool := hostOk g.host && timeOk g.t

/-- A trace record's KIND and its source fit (R494): a tile forms 1 to 3, the Gatehouse 4, an aggregator 5. -/
def TraceInput.wf (r : TraceInput) : Bool :=
  if r.master.toNat < 256 then decide (1 ≤ r.kind.toNat) && decide (r.kind.toNat ≤ 3)
  else if r.master = 0x100 then r.kind == 4
  else decide (0x110 ≤ r.master.toNat) && decide (r.master.toNat < 0x116) && r.kind == 5

/-- A watched Gatehouse access has 1, 2, 4 or 8 bytes. -/
def GhHaltCause.wf : GhHaltCause → Bool
  | .watch _ _ _ n _ => n == 1 || n == 2 || n == 4 || n == 8
  | _ => true

/-- A BAR4 access is one request of at most 256 B (R351), and a write gives each byte. A longer access is several. -/
def Bar4Access.wf (a : Bar4Access) : Bool :=
  decide (0 < a.n) && decide (a.n ≤ 256) && (match a.write with
    | some l => l.length == a.n
    | none => true)

/-- A checked score position is one of the page's. -/
def scoreUpsetOk (u : ScoreFault) : Bool :=
  match u.flip with
  | some (i, _) => decide (i < 65536)
  | none => true

/-- A partner's access is one request of at most 256 B (R351), and a write gives each byte. -/
def partnerOk (w : Option (List Byte)) (n : Nat) : Bool :=
  decide (0 < n) && decide (n ≤ 256) && (match w with
    | some l => l.length == n
    | none => true)

/-- A link width that PCI Express names. -/
def widthOk (w : Nat) : Bool := w == 1 || w == 2 || w == 4 || w == 8

/-- Readings of the 76 thermal sensors in 1/16 °C (R455). -/
def tempsOk (l : List Int) : Bool := l.length == 76

/-- The operands of a command are ones that the outside world can give. -/
def Instr.wf : Instr → Bool
  | .registerWrite a => a.wf
  | .queueEnable _ _ _ => true
  | .queueDisable _ _ _ => true
  | .queueDisableDone _ => true
  | .submissionDoorbell _ _ _ => true
  | .completionDoorbell _ _ _ => true
  | .descriptorFetch _ t host => timeOk t && hostOk host
  | .descriptorFetchRetry _ t host => timeOk t && hostOk host
  | .descriptorAccept _ t => timeOk t
  | .run _ => true
  | .copy _ => true
  | .fuseConfig _ => true
  | .planConfig _ => true
  | .fence _ t => timeOk t
  | .contextCreate _ => true
  | .contextDestroy _ t => timeOk t
  | .syncAdd _ t => timeOk t
  | .syncReset _ t => timeOk t
  | .itemBegin _ t => timeOk t
  | .deadlineExpire _ t => timeOk t
  | .contextLoad _ t host => timeOk t && hostOk host
  | .tilePlace t => timeOk t
  | .postInstance t => timeOk t
  | .stagingDone _ => true
  | .switch _ clk t => timeOk clk && timeOk t
  | .yieldWatchdogExpire _ => true
  | .contextDrainDone _ => true
  | .teardownStallTimeout _ t => timeOk t
  | .lateResponseDrop _ => true
  | .itemPublish _ t => timeOk t
  | .itemReplay _ => true
  | .journalRebuild => true
  | .progressWrite _ t => timeOk t
  | .syncFabricApply n => decide (0 < n)
  | .instrNop _ clk => timeOk clk
  | .instrYield _ clk => timeOk clk
  | .instrEnd _ clk => timeOk clk
  | .instrTrap _ clk => timeOk clk
  | .instrB _ clk => timeOk clk
  | .instrCall _ clk => timeOk clk
  | .instrJr _ clk => timeOk clk
  | .instrRdsr _ clk t => timeOk clk && timeOk t
  | .instrAddI64 _ clk => timeOk clk
  | .instrSubI64 _ clk => timeOk clk
  | .instrMulI64 _ clk => timeOk clk
  | .instrMulhI64 _ clk => timeOk clk
  | .instrMulhU64 _ clk => timeOk clk
  | .instrDivI64 _ clk => timeOk clk
  | .instrDivU64 _ clk => timeOk clk
  | .instrRemI64 _ clk => timeOk clk
  | .instrRemU64 _ clk => timeOk clk
  | .instrAndI64 _ clk => timeOk clk
  | .instrOrI64 _ clk => timeOk clk
  | .instrXorI64 _ clk => timeOk clk
  | .instrShlI64 _ clk => timeOk clk
  | .instrShrU64 _ clk => timeOk clk
  | .instrSraI64 _ clk => timeOk clk
  | .instrMinI64 _ clk => timeOk clk
  | .instrMaxI64 _ clk => timeOk clk
  | .instrAddiI64 _ clk => timeOk clk
  | .instrAndiI64 _ clk => timeOk clk
  | .instrOriI64 _ clk => timeOk clk
  | .instrXoriI64 _ clk => timeOk clk
  | .instrShliI64 _ clk => timeOk clk
  | .instrShriU64 _ clk => timeOk clk
  | .instrSraiI64 _ clk => timeOk clk
  | .instrLiI64 _ clk => timeOk clk
  | .instrLihI64 _ clk => timeOk clk
  | .instrMova _ clk => timeOk clk
  | .instrMovs _ clk => timeOk clk
  | .instrAddai _ clk => timeOk clk
  | .instrPcmp _ clk => timeOk clk
  | .instrPlog _ clk => timeOk clk
  | .instrFop _ clk => timeOk clk
  | .instrLdU _ clk _ => timeOk clk
  | .instrLdI _ clk => timeOk clk
  | .instrSt _ clk _ => timeOk clk
  | .instrLda _ clk => timeOk clk
  | .instrSta _ clk => timeOk clk
  | .instrVldB32 _ clk => timeOk clk
  | .instrVstB32 _ clk _ => timeOk clk
  | .instrFence _ clk => timeOk clk
  | .instrSalloc _ clk => timeOk clk
  | .instrSfree _ clk => timeOk clk
  | .instrSinfo _ clk => timeOk clk
  | .instrDma _ clk => timeOk clk
  | .dmaDescriptor _ _ host _ => hostOk host
  | .dmaChainEnd _ _ => true
  | .instrDtest _ clk => timeOk clk
  | .instrDwaitY _ clk => timeOk clk
  | .instrSaddU32 _ clk => timeOk clk
  | .instrSresetU32 _ clk => timeOk clk
  | .instrStestU32 _ clk => timeOk clk
  | .instrSwaitY _ clk => timeOk clk
  | .swaitSatisfied w => w.wf
  | .instrTldw _ clk => timeOk clk
  | .shadowActivate _ => true
  | .instrTwfmt _ clk => timeOk clk
  | .instrTmac _ clk => timeOk clk
  | .instrTclr _ clk => timeOk clk
  | .instrTdrain _ clk => timeOk clk
  | .drainVerdict _ _ => true
  | .instrTchk _ clk => timeOk clk
  | .instrTrow _ clk => timeOk clk
  | .instrVadd _ clk _ => timeOk clk
  | .instrVsub _ clk _ => timeOk clk
  | .instrVmul _ clk _ => timeOk clk
  | .instrVfma _ clk _ => timeOk clk
  | .instrVmin _ clk _ => timeOk clk
  | .instrVmax _ clk _ => timeOk clk
  | .instrVnegVabs _ clk _ => timeOk clk
  | .instrVcvt _ clk _ => timeOk clk
  | .instrVcmp _ clk _ => timeOk clk
  | .instrVsel _ clk _ => timeOk clk
  | .instrVlogic _ clk _ => timeOk clk
  | .instrVshift _ clk _ => timeOk clk
  | .instrVbcast _ clk => timeOk clk
  | .instrVred _ clk _ => timeOk clk
  | .instrVfn _ clk _ => timeOk clk
  | .instrVperm _ clk _ => timeOk clk
  | .instrVgather _ clk _ => timeOk clk
  | .instrVscatter _ clk _ => timeOk clk
  | .instrVldc _ clk => timeOk clk
  | .instrVstc _ clk _ => timeOk clk
  | .instrVext _ clk _ => timeOk clk
  | .instrVins _ clk _ => timeOk clk
  | .instrViota _ clk => timeOk clk
  | .instrSscoreI8 _ clk upset => timeOk clk && scoreUpsetOk upset
  | .instrStopkI32 _ clk => timeOk clk
  | .translationWalk _ _ _ _ => true
  | .tuInval _ _ => true
  | .tuInvalDone => true
  | .blockAlloc _ _ grants => grants.all blockOk
  | .blockAllocDone _ _ t => timeOk t
  | .blockFree _ _ => true
  | .patrolRead _ _ t => timeOk t
  | .batchEntryWrite _ _ => true
  | .batchTableStep _ t host => timeOk t && hostOk host
  | .sdSourceWrite _ _ => true
  | .sdSet _ _ => true
  | .ppsEdge _ t => timeOk t
  | .gptpSync _ offset t => decide (offset.natAbs < 2 ^ 63) && timeOk t
  | .sourceLost _ => true
  | .timeBusSync _ t => timeOk t
  | .replicaStopped _ t => timeOk t
  | .replicaResync _ => true
  | .planCycleBoundary t => timeOk t
  | .cameraTrigger _ t => timeOk t
  | .cameraFrame fr => fr.wf
  | .lidarPacket pk => pk.wf
  | .spiDataReady _ bytes edge arrival => decide (bytes.length < 65536) && timeOk edge && timeOk arrival
  | .gnssFix bytes arrival => decide (bytes.length < 65536) && timeOk arrival
  | .fusionPublish inp t => inp.wf && timeOk t
  | .mazeWindowOpen t x => timeOk t && x.bad.wf && decide (x.between.length ≤ 3) && x.between.all StateWrite.wf
  | .mazePass bad => bad.wf
  | .mazeSearch => true
  | .mazeSkipIfFound => true
  | .mazeEnd t => timeOk t
  | .mazeWindowClose t => timeOk t
  | .publicationOpen t => timeOk t
  | .recheckPass t bad => timeOk t && bad.wf
  | .planCommit t => timeOk t
  | .partSplitWrite _ _ => true
  | .partMapWrite _ _ _ => true
  | .windowOpen _ t => timeOk t
  | .windowClose _ t => timeOk t
  | .regulatorWindow t waiting => timeOk t && decide waiting.Nodup
  | .throttleLevelChange _ occupancy => decide (occupancy < 2 ^ 32)
  | .bwMasterGuaranteeWrite _ _ => true
  | .bwMasterClassWrite _ _ => true
  | .lockstepMismatch _ => true
  | .islandHeartbeat _ => true
  | .peerHeartbeatLoss _ => true
  | .boundaryTimeout _ spacing => spacing.wf
  | .gatehouseHeartbeat => true
  | .gatehouseHeartbeatLoss => true
  | .heldStopFrame => true
  | .safeRelease _ _ => true
  | .stopRequestFrame _ _ data => decide (data.length ≤ 64)
  | .canBusOff _ _ => true
  | .islandSupplyFault _ => true
  | .islandOscillatorFault _ => true
  | .islandReset _ => true
  | .watchdogCompletion _ t => timeOk t
  | .watchdogDeadline _ t => timeOk t
  | .pairSignature w t => w.wf && timeOk t
  | .pairTimeout _ n t => decide (n < 2 ^ 32) && timeOk t
  | .goldenReserve _ t => timeOk t
  | .goldenRun _ _ t => timeOk t
  | .startupTest _ t => timeOk t
  | .selftestSegmentStart _ t => timeOk t
  | .selftestSegmentAbort _ t => timeOk t
  | .selftestSegmentEnd _ _ t => timeOk t
  | .selftestLag _ t => timeOk t
  | .targetedTestEnd _ _ _ t => timeOk t
  | .faultReport _ r t => r.wf && timeOk t
  | .faultEpochClose _ t => timeOk t
  | .flitReceive _ p => p.sent.length == 252 && p.got.length == 256
  | .linkErrorThreshold _ t => timeOk t
  | .linkTraining _ a t => a.wf && timeOk t
  | .linkDetectTimeout _ => true
  | .linkResetSequence _ => true
  | .dieLost _ t => timeOk t
  | .pergolaTime leader t => timeOk leader && timeOk t
  | .pairTopologyRefresh states => decide (states.map (fun e => e.1)).Nodup
  | .pairLinkLoss t => timeOk t
  | .pairLendReclaim t => timeOk t
  | .refclkLoss t => timeOk t
  | .forwardedClockLoss _ t => timeOk t
  | .coldReset _ => true
  | .perstN t => timeOk t
  | .tlResetHub _ _ t => timeOk t
  | .tlResetDie _ _ t o => timeOk t && decide o.tiles.Nodup
  | .partitionReset _ _ t x => timeOk t && x.wf
  | .partitionPurgeTimeout x => x.wf
  | .tileReset _ => true
  | .dumpStart _ _ t => timeOk t
  | .dumpEnd _ unreadable t => decide unreadable.Nodup && timeOk t
  | .governorTick d t => d.wf && timeOk t
  | .pmKilnCeilingWrite _ _ _ => true
  | .avsRequest _ retries mv => decide (retries ≤ 4) && decide (mv < 2 ^ 16)
  | .avsRequestFail _ retries t => decide (retries ≤ 4) && timeOk t
  | .powerTelemetry rails => rails.length == 7
  | .slewAdmit _ _ milliamps t => decide (milliamps < 2 ^ 32) && timeOk t
  | .sleepEntry _ _ t _ => timeOk t
  | .sleepReturnRequest _ _ => true
  | .wakeAddress _ => true
  | .sleepReturn o t => o.wf && timeOk t
  | .pmRetainWrite _ _ => true
  | .thermalSample x _ t => tempsOk x.temps && x.monitors.length == 16 && timeOk t
  | .rEstUpdate t => timeOk t
  | .hotStep t => timeOk t
  | .thermalTrip _ => true
  | .mboxStatus g => g.wf
  | .mboxUpdate g _ => g.wf
  | .mboxActivate g _ => g.wf
  | .mboxCommit g => g.wf
  | .mboxAttest g => g.wf
  | .mboxLogRead g => g.wf
  | .mboxLifecycle g _ => g.wf
  | .mboxCerts g => g.wf
  | .logMirrorFlush t => timeOk t
  | .breakpointHit _ => true
  | .watchHit _ => true
  | .dbHalt _ _ _ => true
  | .haltDrained _ => true
  | .dbResume _ _ _ => true
  | .dbStep _ _ _ => true
  | .ghHalt c => c.wf
  | .ghResume _ _ => true
  | .ghStep _ _ _ => true
  | .engSelectWrite _ _ _ => true
  | .traceRecord r t => r.wf && timeOk t
  | .ltbHalfDrain _ t => timeOk t
  | .functionLevelReset _ t => timeOk t
  | .sriovVfChange _ numVfs t => decide (numVfs ≤ 8) && timeOk t
  | .functionPowerState _ _ _ => true
  | .bar4Access a => a.wf
  | .hostReadError _ => true
  | .railFault _ t => timeOk t
  | .registerReadClear a => a.wf
  | .copyTransferEnd _ host t => hostOk host && timeOk t
  | .blockScrubDone blk => blockOk blk
  | .refclkRestored => true
  | .railRestored _ _ => true
  | .islandOscillatorRestored _ => true
  | .pcieLinkChange _ width _ => widthOk width
  | .traceLinkChange _ => true
  | .partnerAccess _ write n => partnerOk write n
  | .partnerLendRequest count => decide (count < 65536)

end Sys2Proof
end

