-- ==== Sys2Proof/Safety.lean ====
section
/-! DEFINITION. What counts as a sound state, and the normal conditions and frames in whose terms the
statements about commands are made. -/

namespace Sys2Proof.Machine

/-! ## Sound states -/

/-- The three byte memories are in their canonical form. -/
def State.memoriesOk (s : State) : Prop :=
  s.mem.wf = true ∧ s.hostMem.wf = true ∧ s.partnerMem.wf = true

/-- The safe-state outputs of both islands follow its causes and its reset input: low with a cause, SAFE0_N low in reset, else
high (R358, R362, R363; log 147). -/
def State.pinsOk (s : State) : Prop := s.bv.pins = pinsOf s.bv.a s.bv.b

/-- No memory error is present: no word of a shelf and no granule of memory reads wrong (R91, R224). -/
structure Clean (s : State) : Prop where
  words    : s.tl.badWords = [] ∧ s.tl.softWords = []
  granules : s.ms.badGranules = [] ∧ s.ms.softGranules = []

/-- No shelf word of a list lies in the physical ranges `r`. -/
def clearOf (l : List Nat) (r : List (Nat × Nat)) : Prop := ∀ w ∈ l, ∀ p ∈ r, p.1 + p.2 ≤ w ∨ w + 8 ≤ p.1

/-- Of the memories only the entries of item `i` in the journal's mirrors differ (R48). -/
structure JournalOnly (s t : State) (i : ItemId) : Prop where
  mem   : ∀ a, (∀ k, s.gh.mirrorA = some k ∨ s.gh.mirrorB = some k →
            a < journalAddr s k i ∨ journalAddr s k i + 128 ≤ a) → memRead t.mem a = memRead s.mem a
  others : t.hostMem = s.hostMem ∧ t.partnerMem = s.partnerMem

/-! ## An instruction about to issue -/

/-- Tile `tl` issues `word` for instance `w` as its next instruction, `clk` clock cycles after the one
before: the tile runs, no debug action holds it, the yield watchdog has time left, and the word at the
program counter is legal, reads without a correctable error and is unmodified since the entry (R91, R98, R100, R153,
R155, R482, R483). -/
structure Issues (s : State) (tl : TileId) (clk : Nat) (w : InstanceId) (word : Nat) : Prop where
  up      : packageUp s = true
  holds   : (tileOf s tl).inst = some w
  running : (tileOf s tl).state = .running
  noHalt  : (tileOf s tl).dbg.wanted = false
  noStep  : (tileOf s tl).dbg.stepping = false
  noWatch : (tileOf s tl).dbg.watchHit = none
  noBreak : breakpointAt s tl = none
  inTime  : (tileOf s tl).count + issueClocks (tileOf s tl) clk < 30000
  fetch   : ∃ b, shelfReads s (tileOf s tl).ctx w.second (tileOf s tl).pc.toNat 8 = .ok b ∧ leNat b = word
  hard    : clearOf s.tl.softWords (physPieces s (tileOf s tl).ctx w.second (tileOf s tl).pc.toNat 8)
  clean   : (tileOf s tl).dirty.find? (fun e => e.1 == (tileOf s tl).pc.toNat / 64 * 64) = none
  legal   : legalWord word = true

/-- The site at which the word issues. -/
def siteAt (s : State) (tl : TileId) (w : InstanceId) (word : Nat) : Site :=
  siteOf s tl w (tileOf s tl).pc.toNat word

/-- Nothing but tile `tl` and the accounts of its item and instance differ: memory, every other tile, and
every other part of the state are as before. -/
structure OnlyTile (s t : State) (tl : TileId) : Prop where
  mem     : t.mem = s.mem ∧ t.hostMem = s.hostMem ∧ t.partnerMem = s.partnerMem
  tiles   : ∀ u, u ≠ tl → tileOf t u = tileOf s u
  engines : t.tl.chains = s.tl.chains ∧ t.tl.shelves = s.tl.shelves ∧ t.tl.badWords = s.tl.badWords ∧
            t.tl.softWords = s.tl.softWords
  house   : t.gh = { s.gh with items := t.gh.items, insts := t.gh.insts }
  rest    : t.sync = s.sync ∧ t.ms = s.ms ∧ t.part = s.part ∧ t.sun = s.sun ∧ t.fe = s.fe ∧ t.mz = s.mz ∧
            t.bv = s.bv ∧ t.ln = s.ln ∧ t.rs = s.rs ∧ t.pw = s.pw ∧ t.lg = s.lg ∧ t.db = s.db ∧ t.hi = s.hi
  model   : t.pending = s.pending ∧ t.free = s.free ∧ t.lastRead = s.lastRead ∧ t.lastBytes = s.lastBytes ∧
            t.lastPoison = s.lastPoison


/-! ## What instructions of one shape compute -/

/-- Format A integer instructions: opcode and what sRD receives from sRS1 and sRS2 (Scalar class, R164). -/
def scalarRows : List ((TileId → Nat → Instr) × Nat × (Word64 → Word64 → Word64)) :=
  [(.instrAddI64, 0x20, fun x y => x + y), (.instrSubI64, 0x21, fun x y => x - y), (.instrMulI64, 0x22, fun x y => x * y),
   (.instrMulhI64, 0x23, fun x y => ((x.signExtend 128 * y.signExtend 128) >>> 64).setWidth 64),
   (.instrMulhU64, 0x24, fun x y => ((x.setWidth 128 * y.setWidth 128) >>> 64).setWidth 64),
   (.instrDivI64, 0x25, fun x y => if y = 0 then 0xFFFFFFFFFFFFFFFF else BitVec.ofInt 64 (x.toInt.tdiv y.toInt)),
   (.instrDivU64, 0x26, fun x y => if y = 0 then 0xFFFFFFFFFFFFFFFF else BitVec.ofNat 64 (x.toNat / y.toNat)),
   (.instrRemI64, 0x27, fun x y => if y = 0 then x else BitVec.ofInt 64 (x.toInt.tmod y.toInt)),
   (.instrRemU64, 0x28, fun x y => if y = 0 then x else BitVec.ofNat 64 (x.toNat % y.toNat)),
   (.instrAndI64, 0x29, fun x y => x &&& y), (.instrOrI64, 0x2A, fun x y => x ||| y),
   (.instrXorI64, 0x2B, fun x y => x ^^^ y),
   (.instrShlI64, 0x2C, fun x y => x <<< (y.setWidth 6).toNat), (.instrShrU64, 0x2D, fun x y => x >>> (y.setWidth 6).toNat),
   (.instrSraI64, 0x2E, fun x y => x.sshiftRight (y.setWidth 6).toNat),
   (.instrMinI64, 0x2F, fun x y => if x.toInt ≤ y.toInt then x else y),
   (.instrMaxI64, 0x30, fun x y => if x.toInt ≤ y.toInt then y else x)]

/-- IMM32 sign-extended to 64 bits. -/
def immWord (w : Nat) : Word64 := (BitVec.ofNat 32 (w / 2 ^ 32)).signExtend 64

/-- Format B and D integer instructions: opcode and what sRD receives from sRS1, from sRD's old value and
from the word (Scalar class). -/
def immediateRows : List ((TileId → Nat → Instr) × Nat × (Word64 → Word64 → Nat → Word64)) :=
  [(.instrAddiI64, 0x31, fun x _ w => x + immWord w), (.instrAndiI64, 0x32, fun x _ w => x &&& immWord w),
   (.instrOriI64, 0x33, fun x _ w => x ||| immWord w), (.instrXoriI64, 0x34, fun x _ w => x ^^^ immWord w),
   (.instrShliI64, 0x35, fun x _ w => x <<< (w / 2 ^ 32 % 64)), (.instrShriU64, 0x36, fun x _ w => x >>> (w / 2 ^ 32 % 64)),
   (.instrSraiI64, 0x37, fun x _ w => x.sshiftRight (w / 2 ^ 32 % 64)),
   (.instrLiI64, 0x38, fun _ _ w => (BitVec.ofNat 44 (w / 2 ^ 20)).signExtend 64),
   (.instrLihI64, 0x39, fun _ d w => (BitVec.ofNat 20 (w / 2 ^ 20)).setWidth 64 <<< 44 ||| (d.setWidth 44).setWidth 64)]

/-- The comparison that a COND code of R160 names, for sRS1 and sRS2. -/
def condMeans (c : Nat) (x y : Word64) : Prop :=
  (c = 0 ∧ x = y) ∨ (c = 1 ∧ x ≠ y) ∨ (c = 2 ∧ x.toInt < y.toInt) ∨ (c = 3 ∧ y.toInt ≤ x.toInt) ∨
    (c = 4 ∧ x.toNat < y.toNat) ∨ (c = 5 ∧ y.toNat ≤ x.toNat) ∨ c = 6

/-- Instruction rows whose issue a false predicate leaves without effect (R154), with the upsets that their commands may
name: opcode of each class but vector. -/
def predicatedRows (u : Nat) (e : Option LaneFault) (k : ScoreFault) : List ((TileId → Nat → Instr) × Nat) :=
  (scalarRows.map (fun r => (r.1, r.2.1))) ++ (immediateRows.map (fun r => (r.1, r.2.1))) ++
  [(.instrNop, 0x01), (.instrYield, 0x02), (.instrEnd, 0x03), (.instrTrap, 0x04), (.instrB, 0x05), (.instrCall, 0x06),
   (.instrJr, 0x07), (.instrMova, 0x3A), (.instrMovs, 0x3B), (.instrAddai, 0x3C), (.instrPcmp, 0x3D), (.instrPlog, 0x3E),
   (.instrFop, 0x3F), (fun tl clk => .instrLdU tl clk u, 0x40), (.instrLdI, 0x41),
   (fun tl clk => .instrSt tl clk u, 0x42), (.instrLda, 0x43), (.instrSta, 0x44), (.instrVldB32, 0x45),
   (fun tl clk => .instrVstB32 tl clk e, 0x46), (.instrFence, 0x48), (.instrSalloc, 0x49), (.instrSfree, 0x4A),
   (.instrSinfo, 0x4B), (.instrDma, 0x50), (.instrDtest, 0x51), (.instrDwaitY, 0x52), (.instrSaddU32, 0x60),
   (.instrSresetU32, 0x61), (.instrStestU32, 0x62), (.instrSwaitY, 0x63), (.instrTldw, 0x80), (.instrTwfmt, 0x81),
   (.instrTmac, 0x82), (.instrTclr, 0x83), (.instrTdrain, 0x84), (.instrTchk, 0x85), (.instrTrow, 0x86),
   (fun tl clk => .instrSscoreI8 tl clk k, 0xF0), (.instrStopkI32, 0xF1)]

/-- The scalar class instructions with their opcodes. -/
def scalarClass : List ((TileId → Nat → Instr) × Nat) :=
  (scalarRows.map (fun r => (r.1, r.2.1))) ++ (immediateRows.map (fun r => (r.1, r.2.1))) ++
  [(.instrMova, 0x3A), (.instrMovs, 0x3B), (.instrAddai, 0x3C), (.instrPcmp, 0x3D), (.instrPlog, 0x3E), (.instrFop, 0x3F)]


/-! ## Instances and shelf accesses at a site -/

/-- Instance `i` of item `x` runs on tile `tl` as an ordinary instance: it is neither a golden run nor a copy of a
PAIRED item, its context is READY, its item has no verdict yet, and no drain of it waits for its check and no weight set
for its fetch. -/
structure Ordinary (s : State) (tl : TileId) (w : InstanceId) (i : Inst) (x : Item) : Prop where
  listed : findInst s w = some i
  item   : findItem s w.item = some x
  onTile : i.tile = some tl
  plain  : i.golden = false ∧ x.paired = false ∧ x.plan = false ∧ dType x.desc = 1
  owner  : dCtx x.desc = (tileOf s tl).ctx
  ready  : (ctxOf s (tileOf s tl).ctx).state = .ready
  going  : x.stage = .running ∧ x.verdict = none ∧ x.error = none
  drain  : (tileOf s tl).tensor.drain = none ∧ (tileOf s tl).tensor.fetches = []
  stays  : (tileOf s tl).leaving = none

/-- A read of `n` bytes at context shelf address `a` gives the bytes `b`: its shelves are bound and no word of it reads
wrong. -/
def Reads (s : State) (z : Site) (a n : Nat) (b : List Byte) : Prop :=
  siteReads s z a n = .ok b ∧ clearOf s.tl.softWords (physPieces s z.ctx z.inst.second a n)

/-- A load of `n` bytes at context shelf address `a` goes through: aligned, its shelves bound, no word of it
uncorrectable, no watch set on it; it gives the bytes `b`. -/
def Loads (s : State) (z : Site) (a n align : Nat) (b : List Byte) : Prop :=
  a < 2 ^ 32 ∧ a % align = 0 ∧ Reads s z a n b ∧ watchAt s z a n 1 = none

/-- A store of `n` bytes at context shelf address `a` goes through: aligned, its shelves bound, outside the guarded
bytes of the seed slots, covering no uncorrectable word in part, no watch set on it, and not by a golden run. -/
def Stores (s : State) (z : Site) (a n align : Nat) : Prop :=
  a < 2 ^ 32 ∧ a % align = 0 ∧ z.golden = false ∧ firstUnbound s z.ctx z.inst.second a n = none ∧
    touchesSlot s z.ctx a n = false ∧ partialBad s (physPieces s z.ctx z.inst.second a n) = none ∧
    watchAt s z a n 2 = none

/-- An instance can come back onto its tile at program address `pc` through its slot (R102): its seed shelf is the
physical shelf `p`, and its weights, if its slot names any, and its code are readable. -/
structure Reenters (s : State) (z : Site) (slot : Byte) (pc p : Nat) : Prop where
  bound   : boundShelf s z.ctx z.inst.second (ctxOf s z.ctx).seedShelf = some p
  weights : leNat (memReads s.mem (shelfBase p + slot.toNat * 256 + 8) 4) = 0xFFFFFFFF ∨
            (leNat (memReads s.mem (shelfBase p + slot.toNat * 256 + 8) 4) % 64 = 0 ∧
              firstUnbound s z.ctx z.inst.second (leNat (memReads s.mem (shelfBase p + slot.toNat * 256 + 8) 4)) 2048 = none)
  code    : firstUnbound s z.ctx z.inst.second pc 256 = none

/-- The device physical ranges that a store of `n` bytes at context shelf address `a` goes to. -/
def storeRanges (s : State) (z : Site) (a n : Nat) : List (Nat × Nat) := physPieces s z.ctx z.inst.second a n

/-- Addresses outside every range. -/
def outside (r : List (Nat × Nat)) (a : Nat) : Prop := ∀ p ∈ r, a < p.1 ∨ p.1 + p.2 ≤ a

/-- Every tile register is as before. -/
def sameRegisters (x y : Tile) : Prop := y.s = x.s ∧ y.a = x.a ∧ y.v = x.v ∧ y.p = x.p ∧ y.tensor = x.tensor

/-- Every register of R97 is zero and every bank clear. -/
def noRegisters (x : Tile) : Prop :=
  x.s = Vector.replicate 32 0 ∧ x.a = Vector.replicate 16 0 ∧ x.v = Vector.replicate 16 (Vector.replicate 32 0) ∧
    x.p = Vector.replicate 8 0 ∧ x.tensor = tensorReset


/-! ## Engine instructions -/

/-- A tile is as given but for what the census has counted (R492). -/
def sameButCensus (x y : Tile) : Prop := y = { x with dbg := { x.dbg with census := y.dbg.census } }

/-- The address register `r` of a tile holds an engine address aligned to `align` (R148, R187). -/
def engineAt (x : Tile) (r align a : Nat) : Prop := (aReg x r).toNat = a ∧ a < 2 ^ 32 ∧ a % align = 0

/-- A range of `n` bytes at context shelf address `a` takes writes of an engine: bound, within one shelf, outside the
guarded bytes of the seed slots, no word of it uncorrectable, and not by a golden run. -/
def engineStores (s : State) (z : Site) (a n : Nat) : Prop :=
  z.golden = false ∧ 0 < n ∧ a % 65536 + n ≤ 65536 ∧ firstUnbound s z.ctx z.inst.second a n = none ∧
    touchesSlot s z.ctx a n = false ∧ s.tl.badWords = []

/-- Lane-wise instructions with the element operation on INT32 lanes: what an enabled lane receives from the tile, the
word and the lane number (R202, R203). -/
def int32Rows : List ((TileId → Nat → Instr) × Nat × (Tile → Nat → Nat → Word32)) :=
  let r1 (x : Tile) (w i : Nat) : Word32 := lane (vReg x (fRS1 w)) i
  let r2 (x : Tile) (w i : Nat) : Word32 := lane (vReg x (fRS2 w)) i
  let r3 (x : Tile) (w i : Nat) : Word32 := lane (vReg x (fRS3 w)) i
  [(fun tl clk => .instrVadd tl clk none, 0xC0, fun x w i => r1 x w i + r2 x w i),
   (fun tl clk => .instrVsub tl clk none, 0xC1, fun x w i => r1 x w i - r2 x w i),
   (fun tl clk => .instrVmul tl clk none, 0xC2, fun x w i => r1 x w i * r2 x w i),
   (fun tl clk => .instrVfma tl clk none, 0xC3, fun x w i => r1 x w i * r2 x w i + r3 x w i),
   (fun tl clk => .instrVmin tl clk none, 0xC4,
     fun x w i => if (r1 x w i).toInt ≤ (r2 x w i).toInt then r1 x w i else r2 x w i),
   (fun tl clk => .instrVmax tl clk none, 0xC5,
     fun x w i => if (r1 x w i).toInt ≤ (r2 x w i).toInt then r2 x w i else r1 x w i),
   (fun tl clk => .instrVnegVabs tl clk none, 0xC6,
     fun x w i => if fFUNC w % 2 = 1 ∧ 0 ≤ (r1 x w i).toInt then r1 x w i else - r1 x w i),
   (fun tl clk => .instrVshift tl clk none, 0xCB,
     fun x w i =>
       if fFUNC w % 4 = 0 then r1 x w i <<< ((r2 x w i).setWidth 5).toNat
       else if fFUNC w % 4 = 1 then r1 x w i >>> ((r2 x w i).setWidth 5).toNat
       else (r1 x w i).sshiftRight ((r2 x w i).setWidth 5).toNat),
   (.instrVbcast, 0xCC, fun x w _ => (sReg x (fRS1 w)).setWidth 32)]

/-- Lane-wise instructions that move bits (R202). -/
def moveLaneRows : List ((TileId → Nat → Instr) × Nat × (Tile → Nat → Nat → Word32)) :=
  let r1 (x : Tile) (w i : Nat) : Word32 := lane (vReg x (fRS1 w)) i
  let r2 (x : Tile) (w i : Nat) : Word32 := lane (vReg x (fRS2 w)) i
  [(fun tl clk => .instrVsel tl clk none, 0xC9,
     fun x w i => if (pReg x (fRS3 w)).getLsbD i then r1 x w i else r2 x w i),
   (fun tl clk => .instrVlogic tl clk none, 0xCA,
     fun x w i =>
       if fFUNC w % 4 = 0 then r1 x w i &&& r2 x w i
       else if fFUNC w % 4 = 1 then r1 x w i ||| r2 x w i
       else if fFUNC w % 4 = 2 then r1 x w i ^^^ r2 x w i
       else ~~~ r1 x w i),
   (fun tl clk => .instrVperm tl clk none, 0xCF,
     fun x w i => lane (vReg x (fRS1 w)) ((r2 x w i).setWidth 5).toNat),
   (.instrViota, 0xD6, fun _ _ i => BitVec.ofNat 32 i)]

/-- Floating lane-wise arithmetic: the exact operation before its one rounding (R124, R203). -/
def floatRows : List ((TileId → Nat → Instr) × Nat × (Real → Real → Real → Real)) :=
  [(fun tl clk => .instrVadd tl clk none, 0xC0, fun a b _ => a.add b),
   (fun tl clk => .instrVsub tl clk none, 0xC1, fun a b _ => a.add b.negate),
   (fun tl clk => .instrVmul tl clk none, 0xC2, fun a b _ => a.mul b),
   (fun tl clk => .instrVfma tl clk none, 0xC3, fun a b c => (a.mul b).add c)]

/-- What vRD holds after the enabled lanes take new values. -/
def withLanes (x : Tile) (w : Nat) (f : Nat → Word32) : Vector Word32 32 :=
  Vector.ofFn (fun i => if (laneMask x w).getLsbD i.val then f i.val else lane (vReg x (fRD w)) i.val)


/-! ## The mailbox -/

/-- The mailbox runs command `cmd`, which the mode and the lifecycle state let pass, while the physical function can issue
requests (R465, R474, R478, R505): it starts with a write of LG_MBOX_CTRL with GO by the physical function, none being in
progress; or it has waited, with GO 1, and goes on. Commands 3 and 4 use no buffer and never wait. -/
structure MboxTakes (s : State) (g : MboxGo) (cmd : Nat) : Prop where
  issues  : fnCanIssue s 0 = true
  allowed : mboxBarred s cmd = false
  starts  : g.resumes = false → pfReaches s g.fn = true ∧ g.value.getLsbD 31 = true ∧ bits g.value.toNat 7 0 = cmd ∧
    s.lg.mboxGo = false
  goesOn  : g.resumes = true → s.lg.mboxGo = true ∧ s.lg.mboxCmd.toNat = cmd ∧ cmd ≠ 3 ∧ cmd ≠ 4 ∧ packageUp s = true

/-- A mailbox command has ended with a RESULT and so many bytes in its buffer. -/
def mboxEnds (u : State) (result out : Nat) : Prop :=
  u.lg.mboxGo = false ∧ u.lg.result = BitVec.ofNat 4 result ∧ u.lg.outLen = BitVec.ofNat 32 out

/-- A buffer of host memory holds the bytes. -/
def holdsBytes (u : State) (a : Nat) (l : List Byte) : Prop := memReads u.hostMem a l.length = l

/-- The mailbox commands as a start `g` gives them, with their codes (R478). -/
def mailboxRows (g : MboxGo) (ok : Bool) (b : BootInput) : List (Instr × Nat) :=
  [(.mboxStatus g, 1), (.mboxUpdate g ok, 2), (.mboxActivate g b, 3), (.mboxCommit g, 4), (.mboxAttest g, 5),
   (.mboxLogRead g, 6), (.mboxLifecycle g b, 7), (.mboxCerts g, 8)]

end Sys2Proof.Machine
end

