-- ==== Sys2Proof/Certificates/Slice0/Obligations.lean ====
section
/-! DEFINITION. The statements about the block: each a proposition that the rules of the manual give. -/

open Sys2Proof Sys2Proof.Machine

/-- For every command c and state s whose queue holds c in front, step of s is exec of c on s with the queue's rest.
-/
def Obligations.StepRunsTheFrontCommand : Prop :=
  ∀ (c : Instr) (r : List Instr) (s : State), step (s.withPending (c :: r)) = exec c (s.withPending r)

/-- Every step of every state answers a next state, and so does every command in every state; with an empty queue
that state differs at most in Sundial's ns and the time elapsed, each of which rises by one unless the part is held
in cold reset or sleeps in S3 or S4; that an idle step is one ns is the model's choice (log entry 3). -/
def Obligations.EveryStepGoesOn : Prop :=
  (∀ s : State, ∃ t, step s = .next t) ∧ (∀ (c : Instr) (s : State), ∃ t, exec c s = .next t) ∧
  (∀ s : State, s.pending = [] → ∃ t, step s = .next t ∧ t =
    if s.rs.held = true ∨ 3 ≤ s.pw.sleepState.toNat then s
    else { s with sun := { s.sun with ns := s.sun.ns + 1, elapsed := s.sun.elapsed + 1 } })

/-- Under the normal conditions of an issue, add, sub, mul, mulh (signed and unsigned), div and rem (signed and
unsigned), and, or, xor, shl, shr, sra, min and max each answer a next state in which sRD holds the operation's
result on sRS1 and sRS2, the program counter is 8 further, and every other register, the tensor state, all of memory
and every other part of the machine but the accounts of the issue are unchanged. Under the normal conditions of an
issue, addi, andi, ori and xori (with the sign-extended IMM32), shli, shri and srai (by IMM32[5:0]), li (the sign-
extended IMM44) and lih (IMM44[19:0] into bits [63:44], the others kept) each answer a next state in which sRD holds
the result, the program counter is 8 further, and every other register, the tensor state, all of memory and every
other part of the machine but the accounts of the issue are unchanged. -/
def Obligations.ScalarIntegerResults : Prop :=
  (∀ r ∈ scalarRows, ∀ (s : State) (tl : TileId) (clk word : Nat) (w : InstanceId),
    Issues s tl clk w word → fOp word = r.2.1 → runsWord (tileOf s tl) word = true →
    ∃ t, exec (r.1 tl clk) s = .next t ∧ OnlyTile s t tl ∧ t.gh.contexts = s.gh.contexts ∧
      tileOf t tl = (issuedOn s tl word clk).setS (fRD word)
        (r.2.2 (sReg (tileOf s tl) (fRS1 word)) (sReg (tileOf s tl) (fRS2 word)))) ∧
  (∀ r ∈ immediateRows, ∀ (s : State) (tl : TileId) (clk word : Nat) (w : InstanceId),
    Issues s tl clk w word → fOp word = r.2.1 → runsWord (tileOf s tl) word = true →
    ∃ t, exec (r.1 tl clk) s = .next t ∧ OnlyTile s t tl ∧
      tileOf t tl = (issuedOn s tl word clk).setS (fRD word)
        (r.2.2 (sReg (tileOf s tl) (fRS1 word)) (sReg (tileOf s tl) (fRD word)) word))

/-- Under the normal conditions of an issue, div and rem with a zero divisor give a quotient of all ones and the
dividend as remainder, signed and unsigned; div.i64 of the most negative number by minus one gives that number and
rem.i64 gives 0; and each scalar class instruction that issues writes its register and goes on: the instance still
runs on its tile and no part of the machine outside the tile but the issue's accounts changes. -/
def Obligations.DivisionCorners : Prop :=
  ∀ (s : State) (tl : TileId) (clk word : Nat) (w : InstanceId), Issues s tl clk w word →
    runsWord (tileOf s tl) word = true →
    (sReg (tileOf s tl) (fRS2 word) = 0 →
      (∀ r ∈ [((Instr.instrDivI64 : TileId → Nat → Instr), 0x25), (.instrDivU64, 0x26)], fOp word = r.2 →
        ∃ t, exec (r.1 tl clk) s = .next t ∧ sReg (tileOf t tl) (fRD word) = BitVec.allOnes 64) ∧
      (∀ r ∈ [((Instr.instrRemI64 : TileId → Nat → Instr), 0x27), (.instrRemU64, 0x28)], fOp word = r.2 →
        ∃ t, exec (r.1 tl clk) s = .next t ∧ sReg (tileOf t tl) (fRD word) = sReg (tileOf s tl) (fRS1 word))) ∧
    (sReg (tileOf s tl) (fRS1 word) = BitVec.intMin 64 → sReg (tileOf s tl) (fRS2 word) = BitVec.allOnes 64 →
      (fOp word = 0x25 → ∃ t, exec (.instrDivI64 tl clk) s = .next t ∧
        sReg (tileOf t tl) (fRD word) = BitVec.intMin 64) ∧
      (fOp word = 0x27 → ∃ t, exec (.instrRemI64 tl clk) s = .next t ∧ sReg (tileOf t tl) (fRD word) = 0)) ∧
    (∀ r ∈ scalarClass, fOp word = r.2 → ∃ t, exec (r.1 tl clk) s = .next t ∧ OnlyTile s t tl ∧
      (tileOf t tl).state = .running ∧ (tileOf t tl).inst = some w)

/-- Under the normal conditions of an issue, mova writes sRS1[47:0] to aRD, movs aRS1 zero-extended to sRD, addai
aRS1 plus the sign-extended IMM32 modulo 2^48 to aRD, pcmp all ones to pRD when its COND holds for sRS1 and sRS2 and
zero otherwise, and plog by FUNC 0 to 5 pRS1 AND, OR, XOR pRS2, NOT pRS1, sRS1[31:0] to pRD, or pRS1 zero-extended
to sRD, its FUNC values 6 and 7 never being legal; each answers a next state with the program counter 8 further and
nothing else changed but the accounts of the issue. -/
def Obligations.AddressAndPredicateResults : Prop :=
  ∀ (s : State) (tl : TileId) (clk word : Nat) (w : InstanceId), Issues s tl clk w word →
    runsWord (tileOf s tl) word = true →
    let x := tileOf s tl
    let y := issuedOn s tl word clk
    let gives (i : Instr) (z : Tile) : Prop := ∃ t, exec i s = .next t ∧ OnlyTile s t tl ∧ tileOf t tl = z
    (fOp word = 0x3A → gives (.instrMova tl clk)
      (y.setA (fRD word) ((sReg x (fRS1 word)).setWidth 48))) ∧
    (fOp word = 0x3B → gives (.instrMovs tl clk)
      (y.setS (fRD word) ((aReg x (fRS1 word)).setWidth 64))) ∧
    (fOp word = 0x3C → gives (.instrAddai tl clk)
      (y.setA (fRD word) (aReg x (fRS1 word) + (immWord word).setWidth 48))) ∧
    (fOp word = 0x3D →
      (condMeans (fFUNC word) (sReg x (fRS1 word)) (sReg x (fRS2 word)) → gives (.instrPcmp tl clk)
        (y.setP (fRD word) (BitVec.allOnes 32))) ∧
      (¬ condMeans (fFUNC word) (sReg x (fRS1 word)) (sReg x (fRS2 word)) → gives (.instrPcmp tl clk)
        (y.setP (fRD word) 0))) ∧
    (fOp word = 0x3E →
      fFUNC word ≤ 5 ∧
      (fFUNC word = 0 → gives (.instrPlog tl clk)
        (y.setP (fRD word) (pReg x (fRS1 word) &&& pReg x (fRS2 word)))) ∧
      (fFUNC word = 1 → gives (.instrPlog tl clk)
        (y.setP (fRD word) (pReg x (fRS1 word) ||| pReg x (fRS2 word)))) ∧
      (fFUNC word = 2 → gives (.instrPlog tl clk)
        (y.setP (fRD word) (pReg x (fRS1 word) ^^^ pReg x (fRS2 word)))) ∧
      (fFUNC word = 3 → gives (.instrPlog tl clk)
        (y.setP (fRD word) (~~~ pReg x (fRS1 word)))) ∧
      (fFUNC word = 4 → gives (.instrPlog tl clk)
        (y.setP (fRD word) ((sReg x (fRS1 word)).setWidth 32))) ∧
      (fFUNC word = 5 → gives (.instrPlog tl clk)
        (y.setS (fRD word) ((pReg x (fRS1 word)).setWidth 64))))

/-- Under the normal conditions of an issue, fop writes to sRD what fopResult gives for its FUNC, RND and SATN on
sRS1, sRS2 and sRS3, adds one to TI_SAT_COUNT exactly where fopCounts says that its conversion saturates, moves the
program counter on by 8 and changes nothing else but the accounts of the issue. In both precisions that value is 0
for a comparison with a NaN operand, and for fmin and fmax it is the other operand when one is a NaN and the
canonical NaN when both are; every FP32 result of FUNC 0 to 7, 9 and 10 is below 2^32; and in both precisions a NaN
operand of fadd, fsub, fmul or fdiv gives the canonical NaN. -/
def Obligations.FloatingPointResults : Prop :=
  (∀ (s : State) (tl : TileId) (clk word : Nat) (w : InstanceId), Issues s tl clk w word → fOp word = 0x3F →
    runsWord (tileOf s tl) word = true →
    let x := tileOf s tl
    let k := fFUNC word % 16
    let p := bit (fFUNC word) 4
    let clipped : Bool := fopCounts k p (fRND word) (fSATN word) (sReg x (fRS1 word))
    ∃ t, exec (.instrFop tl clk) s = .next t ∧ OnlyTile s t tl ∧
      tileOf t tl = { (issuedOn s tl word clk).setS (fRD word)
          (fopResult k p (fRND word) (fSATN word) (sReg x (fRS1 word)) (sReg x (fRS2 word)) (sReg x (fRS3 word))) with
        checks := { x.checks with sat := if clipped then satInc x.checks.sat else x.checks.sat } }) ∧
  (∀ (p r n : Bool) (x y z : Word64),
    let f := if p then fmtFP32 else fmtFP64
    let code (v : Word64) : Nat := if p then v.toNat % 2 ^ 32 else v.toNat
    let xNan := (fdecode f (code x)).isNan
    let yNan := (fdecode f (code y)).isNan
    (∀ k ∈ [12, 13, 14], xNan = true ∨ yNan = true → fopResult k p r n x y z = 0) ∧
    (∀ k ∈ [6, 7],
      (xNan = true → yNan = false → (fopResult k p r n x y z).toNat = code y) ∧
      (xNan = false → yNan = true → (fopResult k p r n x y z).toNat = code x) ∧
      (xNan = true → yNan = true → (fopResult k p r n x y z).toNat = if p then 0x7FC00000 else 0x7FF8000000000000)) ∧
    (∀ k ≤ 3, xNan = true ∨ yNan = true →
      (fopResult k p r n x y z).toNat = if p then 0x7FC00000 else 0x7FF8000000000000)) ∧
  (∀ (k : Nat) (r n : Bool) (x y z : Word64), k ≤ 7 ∨ k = 9 → (fopResult k true r n x y z).toNat < 2 ^ 32) ∧
  (∀ (r n : Bool) (x y z : Word64), (fopResult 10 false r n x y z).toNat < 2 ^ 32)

/-- Under the normal conditions of an issue, nop only moves the program counter on by 8; b goes to PC plus OFF32
modulo 2^32 when its COND of R160 holds for sRS1 and sRS2 and on by 8 otherwise, its COND never 7 and OFF32[2:0]
zero; call writes PC plus 8 to sRD and goes to PC plus OFF32, its COND and RS1 being zero; jr goes to sRS1[31:0]
when sRS1[2:0] are zero and else ends the instance with ST_ILLEGAL_INSTRUCTION and its program address; but for that
stop nothing else changes than the accounts of the issue and what the trace keeps of branches: a taken one sets the
count of untaken ones to zero and, where records of branches are traced, leaves one due with its address, its target
and that count; an untaken one adds to the count. -/
def Obligations.ControlFlowResults : Prop :=
  ∀ (s : State) (tl : TileId) (clk word : Nat) (w : InstanceId), Issues s tl clk w word →
    runsWord (tileOf s tl) word = true →
    let x := tileOf s tl
    let y := issuedOn s tl word clk
    let goes (i : Instr) (z : Tile) : Prop := ∃ t, exec i s = .next t ∧ OnlyTile s t tl ∧ tileOf t tl = z
    let taken (z : Tile) (goal : Word32) : Tile := { z with pc := goal, dbg := { y.dbg with
      untaken := 0, due := if tileTraced s tl 2 x.ctx then y.dbg.due ++ [⟨2, BitVec.ofNat 16 x.ctx.val,
        leBytes 4 x.pc.toNat ++ leBytes 4 goal.toNat ++ leBytes 2 x.dbg.untaken.toNat⟩] else y.dbg.due } }
    (fOp word = 0x01 → goes (.instrNop tl clk) y ∧ y.pc = x.pc + 8) ∧
    (fOp word = 0x05 →
      fCOND word ≠ 7 ∧ (fCOND word = 6 → fRS1 word = 0 ∧ fRS2 word = 0) ∧ fIMM word % 8 = 0 ∧
      (condMeans (fCOND word) (sReg x (fRS1 word)) (sReg x (fRS2 word)) →
        goes (.instrB tl clk) (taken y (x.pc + BitVec.ofNat 32 (fIMM word)))) ∧
      (¬ condMeans (fCOND word) (sReg x (fRS1 word)) (sReg x (fRS2 word)) →
        goes (.instrB tl clk) { y with dbg := { y.dbg with untaken := satInc x.dbg.untaken } })) ∧
    (fOp word = 0x06 →
      fCOND word = 0 ∧ fRS1 word = 0 ∧ fIMM word % 8 = 0 ∧
      goes (.instrCall tl clk)
        (taken (y.setS (fRD word) ((x.pc + 8).setWidth 64)) (x.pc + BitVec.ofNat 32 (fIMM word)))) ∧
    (fOp word = 0x07 →
      ((sReg x (fRS1 word)).toNat % 8 = 0 → goes (.instrJr tl clk) (taken y ((sReg x (fRS1 word)).setWidth 32))) ∧
      ((sReg x (fRS1 word)).toNat % 8 ≠ 0 → exec (.instrJr tl clk) s =
        .next (afterStep (programFault (issued s tl w word clk) tl 0x0204 x.pc) tl w)))

/-- Under the normal conditions of an issue, rdsr of each special register of R150 writes that register's value to
sRD and changes nothing else but the issue's accounts and Sundial's time: context ID and class, seed slot and seed
shelf index, tile number, clock cycles since the first issue after the entry, the time of the die's replica
(Sundial's time and the replica's deviation, log entry 145) or all ones when that replica is not synchronised, the
lowest open window of the context, and the die's level; in a PAIRED instance SR_TILE, SR_CLOCKS, SR_TIME, SR_WINDOW
and SR_LEVEL read as zero, while SR_CTX and SR_SLOT read normally. -/
def Obligations.SpecialRegistersRead : Prop :=
  ∀ (s : State) (tl : TileId) (clk word t : Nat) (w : InstanceId), Issues (atTime t s) tl clk w word → fOp word = 0x08 →
    runsWord (tileOf s tl) word = true →
    let x := tileOf s tl
    let c := ctxOf s x.ctx
    let z := siteAt s tl w word
    let k := kilnPower s (tileDie tl)
    ∃ v, exec (.instrRdsr tl clk t) s = .next (putS (issued (atTime t s) tl w word clk) z 0 (fRD word) v) ∧
      fIMM word ≤ 6 ∧
      (fIMM word = 0 → v.toNat = x.ctx.val + classCode c.cls * 1024) ∧
      (fIMM word = 1 → v.toNat = x.slot.toNat + c.seedShelf % 65536 * 256) ∧
      (z.paired = true → 2 ≤ fIMM word → v = 0) ∧
      (z.paired = false →
        (fIMM word = 2 → v.toNat = tl.val) ∧
        (fIMM word = 3 → v.toNat = x.count + issueClocks x clk) ∧
        (fIMM word = 4 → replicaOf s (tileDie tl).val = .sync → v = BitVec.ofNat 64
          (((max s.sun.ns t : Nat) : Int) + tabGet 0 s.sun.deviation (tileDie tl).val).toNat) ∧
        (fIMM word = 4 → replicaOf s (tileDie tl).val ≠ .sync → v = BitVec.allOnes 64) ∧
        (fIMM word = 5 → (∀ i : Fin 8, ¬ (s.part.openMask.getLsbD i.val = true ∧ c.windowMask.getLsbD i.val = true ∧
          s.part.schedule[i].cls = c.cls)) → v = 0) ∧
        (fIMM word = 5 → ∀ i : Fin 8, s.part.openMask.getLsbD i.val = true → c.windowMask.getLsbD i.val = true →
          s.part.schedule[i].cls = c.cls → (∀ j < i, ¬ (s.part.openMask.getLsbD j.val = true ∧
            c.windowMask.getLsbD j.val = true ∧ s.part.schedule[j].cls = c.cls)) →
          v.toNat = i.val + 8 + (s.part.schedule[i].closeUs * 1000 - max s.sun.ns t % 1000000) % 2 ^ 32 * 2 ^ 32) ∧
        (fIMM word = 6 → v.toNat = k.level.toNat))

/-- For every tile instruction but the vector class, rdsr included, whatever upset the command names, when PE is set
and bit 0 of pPR, inverted by PN, is 0, the issue answers the state in which only the issue's own accounts and the
program counter, 8 further, have changed: no register, no memory and no context changes and the instance stays on
its tile. -/
def Obligations.FalsePredicateHasNoEffect : Prop :=
  ∀ (s : State) (tl : TileId) (clk word : Nat) (w : InstanceId),
    Issues s tl clk w word → fPE word = true → (pReg (tileOf s tl) (fPR word)).getLsbD 0 = fPN word →
    let none? (c : Instr) : Prop := ∃ t, exec c s = .next t ∧ OnlyTile s t tl ∧ t.gh.insts = s.gh.insts ∧
      tileOf t tl = issuedOn s tl word clk ∧ (tileOf t tl).inst = some w
    (∀ (u : Nat) (e : Option LaneFault) (k : ScoreFault), ∀ r ∈ predicatedRows u e k, fOp word = r.2 →
      none? (r.1 tl clk)) ∧
    (fOp word = 0x08 → none? (.instrRdsr tl clk s.sun.ns))

/-- Under the normal conditions of an issue by an ordinary instance, yield with a staged post of another instance
leaves the tile switching, with the address of the next instruction as the outgoing RESUME_PC and the instance
ready; with no post and SLOT_STATE's word in order, dwait.y with a chain of the instance in flight and swait.y with
its wait not satisfied free the tile, kill its registers, and leave the instance listed, off its tile, waiting for
its chains or for the object and value; with no post, no memory error present and, for dwait.y, no chain in flight
or, for swait.y, a wait that holds, each writes RESUME_PC into the instance's slot and brings the instance back onto
its tile at the next instruction, running, with the yield count 0, the seeds of its slot in s0 to s15 and every
other register zero, and leaves every other tile and every byte of memory outside the slot's first 13. -/
def Obligations.YieldPointsLeaveTheTile : Prop :=
  ∀ (s : State) (tl : TileId) (clk word : Nat) (w : InstanceId) (i : Inst) (x : Item), Issues s tl clk w word →
    Ordinary s tl w i x → runsWord (tileOf s tl) word = true →
    let c := ctxOf s (tileOf s tl).ctx
    let id := (sReg (tileOf s tl) (fRS1 word)).toNat % 65536
    let v := (sReg (tileOf s tl) (fRS2 word)).toNat % 2 ^ 32
    (∀ (p : Post) (u : InstanceId) (g : Staged), fOp word = 0x02 → (tileOf s tl).next = some p → p.inst = some u →
      p.staged = some g →
      ∃ t, exec (.instrYield tl clk) s = .next t ∧ (tileOf t tl).state = .switching ∧
        (tileOf t tl).leaving = some (.suspend ((tileOf s tl).pc + 8)) ∧ t.mem = s.mem ∧
        (findInst t w).map (fun j => j.wait) = some .ready) ∧
    let good := slotStateBad s (tileOf s tl).ctx w.second (tileOf s tl).slot = none
    (fOp word = 0x52 → (tileOf s tl).next = none → good → chainsOf s w ≠ [] →
      ∃ t, exec (.instrDwaitY tl clk) s = .next t ∧ (tileOf t tl).state = .free ∧ (tileOf t tl).inst = none ∧
        noRegisters (tileOf t tl) ∧ (findInst t w).map (fun j => (j.wait, j.tile)) = some (.dma, none)) ∧
    (fOp word = 0x63 → (tileOf s tl).next = none → good → inSyncRange s.part c.cls id = true → waitHolds s id v = false →
      ∃ t, exec (.instrSwaitY tl clk) s = .next t ∧ (tileOf t tl).state = .free ∧ (tileOf t tl).inst = none ∧
        noRegisters (tileOf t tl) ∧
        (findInst t w).map (fun j => (j.wait, j.tile)) = some (.sync (BitVec.ofNat 16 id) (BitVec.ofNat 32 v), none)) ∧
    (∀ p, Clean s → (tileOf s tl).next = none → Reenters s (siteAt s tl w word) (tileOf s tl).slot ((tileOf s tl).pc + 8).toNat p →
      ∀ e, (fOp word = 0x02 ∧ e = .instrYield tl clk) ∨ (fOp word = 0x52 ∧ e = .instrDwaitY tl clk ∧ chainsOf s w = []) ∨
        (fOp word = 0x63 ∧ e = .instrSwaitY tl clk ∧ inSyncRange s.part c.cls id = true ∧ waitHolds s id v = true) →
      let base := shelfBase p + (tileOf s tl).slot.toNat * 256
      ∃ t, exec e s = .next t ∧
        let y := tileOf t tl
        y.state = .running ∧ y.inst = some w ∧ y.ctx = (tileOf s tl).ctx ∧ y.pc = (tileOf s tl).pc + 8 ∧ y.count = 0 ∧
          y.s = Vector.ofFn (fun k => if k.val < 16 then BitVec.ofNat 64 (leNat (memReads s.mem (base + 64 + 8 * k.val) 8))
            else 0) ∧
          y.a = Vector.replicate 16 0 ∧ y.v = Vector.replicate 16 (Vector.replicate 32 0) ∧ y.p = Vector.replicate 8 0 ∧
          memReads t.mem base 4 = leBytes 4 ((tileOf s tl).pc + 8).toNat ∧
          (∀ a, a < base ∨ base + 13 ≤ a → memRead t.mem a = memRead s.mem a) ∧ (∀ u, u ≠ tl → tileOf t u = tileOf s u) ∧
          t.sync = s.sync)

/-- Under the normal conditions of an issue by an ordinary instance whose SLOT_STATE's word is in order, end answers
a next state in which the instance is no longer listed and no other tile's registers and no sync object have
changed; with no post on its tile the tile is free with no context and no registers kept, and with a staged post of
another instance it switches, the slot of the ended instance still to be freed. Under the normal conditions of an
issue by an ordinary instance, with no memory error present, trap answers a next state in which the instance is no
longer listed, its item's verdict is ST_PROGRAM_TRAP with IMM32[15:0] as DETAIL, its context is FAULTED with that
status as its first fault, GH_FAULT_CTX holds a valid record, and IMM32[31:16] of the legal word is zero. -/
def Obligations.EndAndTrap : Prop :=
  (∀ (s : State) (tl : TileId) (clk word : Nat) (w : InstanceId) (i : Inst) (x : Item), Issues s tl clk w word →
    Ordinary s tl w i x → runsWord (tileOf s tl) word = true → fOp word = 0x03 →
    slotStateBad s (tileOf s tl).ctx w.second (tileOf s tl).slot = none →
    ∃ t, exec (.instrEnd tl clk) s = .next t ∧ findInst t w = none ∧
      (∀ u, u ≠ tl → sameRegisters (tileOf s u) (tileOf t u)) ∧ t.sync = s.sync ∧
      ((tileOf s tl).next = none → (tileOf t tl).state = .free ∧ (tileOf t tl).inst = none ∧ noRegisters (tileOf t tl)) ∧
      (∀ (p : Post) (u : InstanceId) (g : Staged), (tileOf s tl).next = some p → p.inst = some u → p.staged = some g →
        (tileOf t tl).state = .switching ∧ (tileOf t tl).leaving = some .ended)) ∧
  (∀ (s : State) (tl : TileId) (clk word : Nat) (w : InstanceId) (i : Inst) (x : Item), Issues s tl clk w word →
    Ordinary s tl w i x → runsWord (tileOf s tl) word = true → fOp word = 0x04 → Clean s →
    fIMM word < 65536 ∧
    ∃ t y, exec (.instrTrap tl clk) s = .next t ∧ findInst t w = none ∧ findItem t w.item = some y ∧
      y.verdict = some (0x0205, BitVec.ofNat 32 (fIMM word)) ∧
      (ctxOf t (tileOf s tl).ctx).state = .faulted ∧ (ctxOf t (tileOf s tl).ctx).firstFault = 0x0205 ∧
      t.gh.faultCtx.valid = true)

/-- Under the normal conditions of an issue and of a load at the format M address, ld.u writes the 1, 2, 4 or 8
bytes read, zero-extended, to sRT, ld.i the 1, 2 or 4 bytes, sign-extended, to sRT, lda bits [47:0] of 8 bytes to
aRT and vld.b32 the 128 bytes, lane by lane, to vRT; nothing else changes but the accounts of the issue: no byte of
memory, no other register, no other tile; and when one bit of the word that ld.u reads is wrong, the register
receives the same bytes, corrected, and the tile that owns the shelf counts one corrected error. -/
def Obligations.LoadResults : Prop :=
  ∀ (s : State) (tl : TileId) (clk word : Nat) (w : InstanceId) (b : List Byte), Issues s tl clk w word →
    runsWord (tileOf s tl) word = true →
    let x := tileOf s tl
    let z := siteAt s tl w word
    let ea := effAddr x word
    let n := 2 ^ fSIZE word
    let gives (i : Instr) (y : Tile) : Prop := ∃ t, exec i s = .next t ∧ OnlyTile s t tl ∧ tileOf t tl = y
    (fOp word = 0x40 → Loads s z ea n n b →
      gives (.instrLdU tl clk 0) ((issuedOn s tl word clk).setS (fRD word) (BitVec.ofNat 64 (leNat b)))) ∧
    (∀ p, fOp word = 0x40 → Loads s z ea n n b → boundShelf s z.ctx w.second (ea / 65536) = some p →
      ∃ t, exec (.instrLdU tl clk 1) s = .next t ∧ sReg (tileOf t tl) (fRD word) = BitVec.ofNat 64 (leNat b) ∧
        t.mem = s.mem ∧ (tileOf t tl).inst = some w ∧ (tileOf t tl).pc = x.pc + 8 ∧
        (tileOf t (shelfTile p)).corrected = satInc (tileOf s (shelfTile p)).corrected) ∧
    (fOp word = 0x41 → Loads s z ea n n b →
      gives (.instrLdI tl clk) ((issuedOn s tl word clk).setS (fRD word) ((BitVec.ofNat (8 * n) (leNat b)).signExtend 64))) ∧
    (fOp word = 0x43 → Loads s z ea 8 8 b →
      gives (.instrLda tl clk) ((issuedOn s tl word clk).setA (fRD word) (BitVec.ofNat 48 (leNat b)))) ∧
    (fOp word = 0x45 → Loads s z ea 128 64 b →
      gives (.instrVldB32 tl clk) ((issuedOn s tl word clk).setV (fRD word) 0xFFFFFFFF
        (Vector.ofFn (fun i => BitVec.ofNat 32 (leNat (slice b (4 * i.val) 4))))))

/-- Under the normal conditions of an issue and of a store at the format M address, st stores the low 1, 2, 4 or 8
bytes of sRT, sta aRT zero-extended to 8 bytes, and vst.b32 the 128 bytes of vRT, at the device physical ranges to
which the context's shelf map takes that address; every byte of the 48-bit map outside those ranges, host memory,
the partner's memory, every register of the tile and every sync object are as before; and a scalar store reads back
as the bytes stored; a store of 8 bytes, or one to a word with at most one wrong bit, does so whatever bits of the
word the command upsets, and vst.b32 does so when no lane of vRT has a wrong parity. -/
def Obligations.StoreResults : Prop :=
  ∀ (s : State) (tl : TileId) (clk word : Nat) (w : InstanceId), Issues s tl clk w word →
    runsWord (tileOf s tl) word = true →
    let x := tileOf s tl
    let z := siteAt s tl w word
    let ea := effAddr x word
    let n := 2 ^ fSIZE word
    let stores (i : Instr) (l : List Byte) : Prop := ∃ t, exec i s = .next t ∧
      t.mem = spread s.mem (storeRanges s z ea l.length) l ∧
      (∀ a, outside (storeRanges s z ea l.length) a → memRead t.mem a = memRead s.mem a) ∧
      t.hostMem = s.hostMem ∧ t.partnerMem = s.partnerMem ∧ t.sync = s.sync ∧ sameRegisters x (tileOf t tl) ∧
      (tileOf t tl).pc = x.pc + 8 ∧ (l.length ≤ 8 → siteReads t z ea l.length = .ok l)
    (∀ u, fOp word = 0x42 → Stores s z ea n n → u ≤ 1 ∨ n = 8 →
      stores (.instrSt tl clk u) (leBytes n (sReg x (fRD word)).toNat)) ∧
    (fOp word = 0x44 → Stores s z ea 8 8 → stores (.instrSta tl clk) (leBytes 8 (aReg x (fRD word)).toNat)) ∧
    (fOp word = 0x46 → badLane x [fRD word] = none → Stores s z ea 128 64 →
      stores (.instrVstB32 tl clk none) ((vReg x (fRD word)).toList.flatMap (fun u => leBytes 4 u.toNat)))

/-- movs gives an a register's 48 bits zero-extended to sRD and mova keeps bits [47:0] of sRS1; under the normal
conditions of an issue, a scalar or vector load or store whose computed address has a bit of [47:32] set ends the
instance with ST_TRANSLATION_FAULT and the address's bits [31:0] as DETAIL, and otherwise uses bits [31:0] as the
context shelf address, where it faults with the address as DETAIL when that is misaligned (vst.b32 where no lane
that it reads has a wrong parity); and ld.u of a word with two or more wrong bits, and st of less than that whole
word, end the instance with the error ST_MEMORY_UNCORRECTABLE. -/
def Obligations.ScalarAccessFaults : Prop :=
  ∀ (s : State) (tl : TileId) (clk word : Nat) (w : InstanceId), Issues s tl clk w word →
    runsWord (tileOf s tl) word = true →
    let x := tileOf s tl
    let s1 := issued s tl w word clk
    let ea := effAddr x word
    let faults (i : Instr) (det : Nat) : Prop :=
      exec i s = .next (afterStep (programFault s1 tl 0x0201 (BitVec.ofNat 32 det)) tl w)
    let n := 2 ^ fSIZE word
    (fOp word = 0x3A → ∃ t, exec (.instrMova tl clk) s = .next t ∧
      (aReg (tileOf t tl) (fRD word)).toNat = (sReg x (fRS1 word)).toNat % 2 ^ 48) ∧
    (fOp word = 0x3B → ∃ t, exec (.instrMovs tl clk) s = .next t ∧
      (sReg (tileOf t tl) (fRD word)).toNat = (aReg x (fRS1 word)).toNat) ∧
    (∀ u, 2 ^ 32 ≤ ea → (fOp word = 0x46 → badLane x [fRD word] = none) →
      (∀ r ∈ [(Instr.instrLdU tl clk u, 0x40), (.instrLdI tl clk, 0x41), (.instrSt tl clk u, 0x42),
        (.instrLda tl clk, 0x43), (.instrSta tl clk, 0x44), (.instrVldB32 tl clk, 0x45), (.instrVstB32 tl clk none, 0x46)],
        fOp word = r.2 → faults r.1 (ea % 2 ^ 32))) ∧
    (∀ u, ea < 2 ^ 32 → (fOp word = 0x46 → badLane x [fRD word] = none) →
      (∀ r ∈ [(Instr.instrLdU tl clk u, 0x40, n), (.instrLdI tl clk, 0x41, n), (.instrSt tl clk u, 0x42, n),
        (.instrLda tl clk, 0x43, 8), (.instrSta tl clk, 0x44, 8), (.instrVldB32 tl clk, 0x45, 64),
        (.instrVstB32 tl clk none, 0x46, 64)],
        fOp word = r.2.1 → ea % r.2.2 ≠ 0 → faults r.1 ea)) ∧
    (∀ u p, 2 ≤ u → boundShelf s x.ctx w.second (ea / 65536) = some p →
      let g := (shelfBase p + ea % 65536) / 8 * 8
      let s2 : State := { s1 with tl := { s1.tl with badWords := g :: s1.tl.badWords } }
      let errs (i : Instr) : Prop := exec i s =
        .next (afterStep (tileError (shelfBad s2 g x.ctx) tl 0x0202 (shelfDetail g)) tl w)
      (∀ b, fOp word = 0x40 → Loads s (siteAt s tl w word) ea n n b → errs (.instrLdU tl clk u)) ∧
      (fOp word = 0x42 → n < 8 → Stores s (siteAt s tl w word) ea n n → s.tl.badWords.contains g = false →
        errs (.instrSt tl clk u)))

/-- Under the normal conditions of an issue by an ordinary instance that is no second copy, fence leaves everything
but the issue's accounts as it was; sinfo writes quota and bound shelf count to sRD; salloc with its quota used up
writes 0x8000_0000_0000_0001 and binds nothing, and with quota left and a free shelf of the class in nearest order
writes the lowest unbound index and binds the first such shelf there, while with no such shelf it writes
0x8000_0000_0000_0002 and binds nothing; sfree of a bound index that is not the seed shelf unbinds it, scrubs its
shelf to zero and leaves every byte outside that shelf. -/
def Obligations.ShelfInstructionResults : Prop :=
  ∀ (s : State) (tl : TileId) (clk word : Nat) (w : InstanceId) (i : Inst) (x : Item), Issues s tl clk w word →
    Ordinary s tl w i x → runsWord (tileOf s tl) word = true → w.second = false →
    (ctxOf s (tileOf s tl).ctx).shadow = [] →
    let y := tileOf s tl
    let c := ctxOf s y.ctx
    (fOp word = 0x48 → ∃ t, exec (.instrFence tl clk) s = .next t ∧ OnlyTile s t tl ∧ tileOf t tl = issuedOn s tl word clk) ∧
    (fOp word = 0x4B → ∃ t, exec (.instrSinfo tl clk) s = .next t ∧ OnlyTile s t tl ∧
      tileOf t tl = (issuedOn s tl word clk).setS (fRD word) (BitVec.ofNat 64 (c.shelves % 65536 + c.map.length * 65536))) ∧
    (fOp word = 0x49 → c.shelves ≤ c.map.length → ∃ t, exec (.instrSalloc tl clk) s = .next t ∧ OnlyTile s t tl ∧
      tileOf t tl = (issuedOn s tl word clk).setS (fRD word) 0x8000000000000001) ∧
    (fOp word = 0x49 → c.map.length < c.shelves → firstFree s c.cls (nearest s tl) = none →
      ∃ t, exec (.instrSalloc tl clk) s = .next t ∧ OnlyTile s t tl ∧
      tileOf t tl = (issuedOn s tl word clk).setS (fRD word) 0x8000000000000002) ∧
    (∀ p, fOp word = 0x49 → c.map.length < c.shelves → firstFree s c.cls (nearest s tl) = some p →
      ∃ t, exec (.instrSalloc tl clk) s = .next t ∧
        tileOf t tl = (issuedOn s tl word clk).setS (fRD word) (BitVec.ofNat 64 (lowestIndex s y.ctx)) ∧
        boundShelf t y.ctx false (lowestIndex s y.ctx) = some p ∧ shelfUse t p = .bound y.ctx (lowestIndex s y.ctx) false ∧
        t.mem = s.mem) ∧
    (∀ p, fOp word = 0x4A → boundShelf s y.ctx false ((sReg y (fRS1 word)).toNat % 65536) = some p →
      (sReg y (fRS1 word)).toNat % 65536 ≠ c.seedShelf → shelfUse s p ≠ .fenced →
      ∃ t, exec (.instrSfree tl clk) s = .next t ∧ shelfUse t p = .free ∧
        boundShelf t y.ctx false ((sReg y (fRS1 word)).toNat % 65536) = none ∧
        (∀ a, memRead t.mem a = if shelfBase p ≤ a ∧ a < shelfBase p + 65536 then 0 else memRead s.mem a))

/-- Under the normal conditions of an issue by an ordinary instance, dma with a free engine channel puts one chain
in flight, at the address given, for the instance; dtest writes all ones to pRD when no chain of the instance is in
flight and zero otherwise; sadd and sreset of an object in the class's range put their operation at the end of those
on their way to the Sync Fabric, leaving every counter; stest writes all ones when the counter has reached the value
and zero otherwise; the others' registers and all of memory stay. -/
def Obligations.ChainAndSyncInstructionResults : Prop :=
  ∀ (s : State) (tl : TileId) (clk word : Nat) (w : InstanceId) (i : Inst) (x : Item), Issues s tl clk w word →
    Ordinary s tl w i x → runsWord (tileOf s tl) word = true → w.second = false →
    let y := tileOf s tl
    let c := ctxOf s y.ctx
    let id := (sReg y (fRS1 word)).toNat % 65536
    let v := (sReg y (fRS2 word)).toNat % 2 ^ 32
    (∀ ch, fOp word = 0x50 → effAddr y word < 2 ^ 32 → effAddr y word % 64 = 0 → freeChannel s tl = some ch →
      ∃ t k, exec (.instrDma tl clk) s = .next t ∧ t.tl.chains = s.tl.chains ++ [k] ∧ k.tile = tl ∧ k.ch = ch ∧
        k.inst = w ∧ k.ctx = y.ctx ∧ k.nextAddr = some (BitVec.ofNat 32 (effAddr y word)) ∧ t.mem = s.mem ∧
        sameRegisters y (tileOf t tl)) ∧
    (fOp word = 0x51 → ∃ t, exec (.instrDtest tl clk) s = .next t ∧ OnlyTile s t tl ∧
      tileOf t tl = (issuedOn s tl word clk).setP (fRD word) (if chainsOf s w = [] then BitVec.allOnes 32 else 0)) ∧
    (∀ r ∈ [(Instr.instrSaddU32 tl clk, 0x60, false), (.instrSresetU32 tl clk, 0x61, true)], fOp word = r.2.1 →
      inSyncRange s.part c.cls id = true →
      ∃ t, exec r.1 s = .next t ∧
        t.sync = { s.sync with waiting := s.sync.waiting ++ [⟨r.2.2, BitVec.ofNat 16 id, BitVec.ofNat 32 v⟩] } ∧
        t.mem = s.mem ∧ sameRegisters y (tileOf t tl)) ∧
    (fOp word = 0x62 → inSyncRange s.part c.cls id = true →
      ∃ t, exec (.instrStestU32 tl clk) s = .next t ∧ OnlyTile s t tl ∧
        tileOf t tl = (issuedOn s tl word clk).setP (fRD word)
          (if v ≤ (syncGet s id).toNat then BitVec.allOnes 32 else 0))

/-- Under the normal conditions of an issue with no lane fault and no wrong parity in a lane that is read, vadd,
vsub, vmul, vfma, vmin, vmax, vneg, vabs, vshl, vshr, vsra and vbcast on INT32 lanes, and vsel, vand, vor, vxor,
vnot, vperm and viota on any, write the operation's result to every enabled lane of vRD, keep every disabled lane,
and change no other register, no byte of memory, and nothing else of the machine but the issue's accounts and the
census; addition, subtraction, multiplication and negation are modulo 2^32. Under the normal conditions of an issue
with no lane fault and no wrong parity in a lane that is read, vadd, vsub, vmul and vfma on BF16, FP16 or FP32 lanes
write to each element of every enabled lane the exact result of the operation on the elements of vRS1, vRS2 and
vRS3, rounded once in the format by RND, both halves of a packed lane alike, and keep every disabled lane, every
other register and all of memory. -/
def Obligations.LaneArithmeticResults : Prop :=
  (∀ r ∈ int32Rows ++ moveLaneRows, ∀ (s : State) (tl : TileId) (clk word : Nat) (w : InstanceId), Issues s tl clk w word →
    fOp word = r.2.1 → (fFMT word = 14 ∨ fOp word ∈ [0xC9, 0xCA, 0xCF, 0xD6]) → badLane (tileOf s tl) (readRegs word) = none →
    ∃ t, exec (r.1 tl clk) s = .next t ∧ OnlyTile s t tl ∧
      sameButCensus ((issuedOn s tl word clk).setV (fRD word) (laneMask (tileOf s tl) word)
        (withLanes (tileOf s tl) word (r.2.2 (tileOf s tl) word))) (tileOf t tl)) ∧
  (∀ r ∈ floatRows, ∀ (s : State) (tl : TileId) (clk word : Nat) (w : InstanceId), Issues s tl clk w word →
    fOp word = r.2.1 → fFMT word ≠ 14 → badLane (tileOf s tl) (readRegs word) = none →
    let x := tileOf s tl
    let f := laneFmt (fFMT word)
    let one (a b c : Nat) : Nat := fround f (fRND word) (r.2.2 (fdecode f a) (fdecode f b) (fdecode f c))
    let lane3 (a b c : Word32) : Word32 :=
      if fFMT word = 13 then BitVec.ofNat 32 (one a.toNat b.toNat c.toNat)
      else BitVec.ofNat 32 (one (a.toNat % 65536) (b.toNat % 65536) (c.toNat % 65536) +
        one (a.toNat / 65536) (b.toNat / 65536) (c.toNat / 65536) * 65536)
    ∃ t, exec (r.1 tl clk) s = .next t ∧ OnlyTile s t tl ∧
      sameButCensus ((issuedOn s tl word clk).setV (fRD word) (laneMask x word) (withLanes x word (fun i =>
        lane3 (lane (vReg x (fRS1 word)) i) (lane (vReg x (fRS2 word)) i) (lane (vReg x (fRS3 word)) i)))) (tileOf t tl))

/-- Under the normal conditions of an issue with no lane fault and no wrong parity in a lane that is read: vcvt to
INT32 or from INT32 or to or from a packed format writes the converted value to each enabled lane and only adds to
TI_SAT_COUNT; vcmp on INT32 lanes sets the bit of each enabled lane in pRD to whether its condition holds and keeps
the others; vred sums the enabled INT32 lanes modulo 2^32 into sRD, zero-extended; vfn gives the canonical NaN for a
NaN lane and an infinity of the lane's sign for the reciprocal of a zero; vext writes the enabled lane that
sRS2[4:0] names to sRD and vins sRS1[31:0] to that lane of vRD, each nothing when the lane is disabled; and each
leaves every other register and all of memory. -/
def Obligations.LaneToScalarResults : Prop :=
  ∀ (s : State) (tl : TileId) (clk word : Nat) (w : InstanceId), Issues s tl clk w word →
    badLane (tileOf s tl) (readRegs word) = none →
    let x := tileOf s tl
    let y := issuedOn s tl word clk
    let m := laneMask x word
    let r1 (i : Nat) : Word32 := lane (vReg x (fRS1 word)) i
    let r2 (i : Nat) : Word32 := lane (vReg x (fRS2 word)) i
    let gives (i : Instr) (v : Tile) : Prop := ∃ t, exec i s = .next t ∧ OnlyTile s t tl ∧ sameButCensus v (tileOf t tl)
    let k := (sReg x (fRS2 word)).toNat % 32
    (fOp word = 0xC7 → ∃ t, exec (.instrVcvt tl clk none) s = .next t ∧ OnlyTile s t tl ∧
      sameButCensus { y.setV (fRD word) m (withLanes x word (fun i => (cvtLane word (r1 i) (r2 i)).1)) with
        checks := { x.checks with sat := (tileOf t tl).checks.sat } } (tileOf t tl)) ∧
    (fOp word = 0xC8 → fFMT word = 14 → ∃ v : Word32, gives (.instrVcmp tl clk none) (y.setP (fRD word) v) ∧
      ∀ i < 32, v.getLsbD i = if m.getLsbD i then
          (if fFUNC word % 8 = 0 then decide (r1 i = r2 i) else if fFUNC word % 8 = 1 then decide (r1 i ≠ r2 i)
           else if fFUNC word % 8 = 2 then decide ((r1 i).toInt < (r2 i).toInt)
           else if fFUNC word % 8 = 3 then decide ((r1 i).toInt ≤ (r2 i).toInt)
           else if fFUNC word % 8 = 4 then decide ((r2 i).toInt < (r1 i).toInt)
           else decide ((r2 i).toInt ≤ (r1 i).toInt))
        else (pReg x (fRD word)).getLsbD i) ∧
    (fOp word = 0xCD → fFMT word = 14 → fFUNC word % 4 = 0 → gives (.instrVred tl clk none) (y.setS (fRD word)
      (BitVec.ofNat 64 (((List.range 32).map (fun i => if m.getLsbD i then (r1 i).toNat else 0)).sum % 2 ^ 32)))) ∧
    (fOp word = 0xCE → ∃ g : Nat → Word32, gives (.instrVfn tl clk none) (y.setV (fRD word) m (withLanes x word g)) ∧
      (∀ i, (real32 (r1 i)).isNan = true → g i = 0x7FC00000) ∧
      (fFUNC word % 8 = 2 → ∀ i, r1 i = 0 → g i = 0x7F800000) ∧
      (fFUNC word % 8 = 2 → ∀ i, r1 i = 0x80000000 → g i = 0xFF800000)) ∧
    (fOp word = 0xD4 → gives (.instrVext tl clk none)
      (if m.getLsbD k then y.setS (fRD word) ((r1 k).setWidth 64) else y)) ∧
    (fOp word = 0xD5 → gives (.instrVins tl clk none)
      (if m.getLsbD k then y.setV (fRD word) (BitVec.ofNat 32 (2 ^ k)) ((vReg x (fRD word)).setIfInBounds k ((sReg x (fRS1 word)).setWidth 32))
       else y))

/-- Under the normal conditions of an issue with no lane fault and no wrong parity in a lane that is read, when
every enabled lane's address is aligned and readable vgather loads each enabled lane's 4 bytes into it and keeps the
others; when every enabled lane's address takes a store vscatter leaves every byte outside the enabled lanes'
addresses as it was and a lane's 4 bytes in memory where no later enabled lane names an overlapping address; vldc of
INT8 with an enabled lane, the enabled lanes' bytes readable, sign-extends each into its lane; and vstc of INT8 with
every lane enabled stores the 32 lanes, each limited to -127 to 127, and leaves every byte outside; no other
register but the destination changes. -/
def Obligations.VectorMemoryResults : Prop :=
  ∀ (s : State) (tl : TileId) (clk word : Nat) (w : InstanceId), Issues s tl clk w word →
    badLane (tileOf s tl) (readRegs word) = none →
    let x := tileOf s tl
    let z := siteAt s tl w word
    let m := laneMask x word
    (∀ b : Nat → List Byte, fOp word = 0xD0 →
      (∀ i < 32, m.getLsbD i = true → laneAddr x word i < 2 ^ 32 ∧ laneAddr x word i % 4 = 0 ∧
        Reads s z (laneAddr x word i) 4 (b i)) →
      ∃ t, exec (.instrVgather tl clk none) s = .next t ∧ OnlyTile s t tl ∧
        sameButCensus ((issuedOn s tl word clk).setV (fRD word) m (withLanes x word (fun i => BitVec.ofNat 32 (leNat (b i)))))
          (tileOf t tl)) ∧
    (fOp word = 0xD1 → z.golden = false → s.tl.badWords = [] →
      (∀ i < 32, m.getLsbD i = true → laneAddr x word i < 2 ^ 32 ∧ laneAddr x word i % 4 = 0 ∧
        firstUnbound s z.ctx z.inst.second (laneAddr x word i) 4 = none ∧
        touchesSlot s z.ctx (laneAddr x word i) 4 = false) →
      ∃ t, exec (.instrVscatter tl clk none) s = .next t ∧ sameRegisters x (tileOf t tl) ∧
        (∀ a, (∀ i < 32, m.getLsbD i = true → outside (storeRanges s z (laneAddr x word i) 4) a) →
          memRead t.mem a = memRead s.mem a) ∧
        (∀ i < 32, m.getLsbD i = true →
          (∀ j < 32, i < j → m.getLsbD j = true → ∀ p ∈ storeRanges s z (laneAddr x word i) 4,
            ∀ q ∈ storeRanges s z (laneAddr x word j) 4, p.1 + p.2 ≤ q.1 ∨ q.1 + q.2 ≤ p.1) →
          ∀ p ∈ storeRanges s z (laneAddr x word i) 4,
            memReads t.mem p.1 4 = leBytes 4 (lane (vReg x (fRS3 word)) i).toNat)) ∧
    (∀ (a : Nat) (b : Nat → Byte), fOp word = 0xD2 → fFMT word = 0 → m ≠ 0 → engineAt x (fRS1 word) 8 a →
      (∀ i < 32, m.getLsbD i = true → Reads s z (a + i) 1 [b i]) →
      ∃ t, exec (.instrVldc tl clk) s = .next t ∧ OnlyTile s t tl ∧
        sameButCensus ((issuedOn s tl word clk).setV (fRD word) m (withLanes x word (fun i => (b i).signExtend 32)))
          (tileOf t tl)) ∧
    (∀ a : Nat, fOp word = 0xD3 → fFMT word = 0 → fSATN word = false → m = 0xFFFFFFFF → engineAt x (fRS1 word) 8 a →
      engineStores s z a 32 →
      ∃ t, exec (.instrVstc tl clk none) s = .next t ∧ sameRegisters x (tileOf t tl) ∧
        (∀ c, outside (storeRanges s z a 32) c → memRead t.mem c = memRead s.mem c) ∧
        siteReads t z a 32 = .ok ((List.range 32).map (fun i =>
          BitVec.ofInt 8 (max (-127) (min 127 (lane (vReg x (fRS2 word)) i).toInt)))))

/-- Under the normal conditions of an issue: tldw with no shadow set fetched makes the 2,048 bytes read, with the
scale bytes read where its format has some, the shadow set in its format, and with one fetched leaves its own fetch
waiting behind the others; twfmt with no set fetched or waiting and no drain or check pending gives the active set
its format and scales, keeps its bytes and every accumulator; tclr with no drain or check pending and no fetch
waiting clears its bank and no other; each moves the program counter on by 8 and changes no other register, no byte
of memory and nothing else of the machine but the issue's accounts. The activation of the fetched set on a tile
whose instance does not leave makes that set active and keeps every accumulator and the pending drain, if there is
one; with no fetch waiting no shadow set is left, and with one waiting first, of a format without scales and of
2,048 readable bytes, these then are the shadow set in its format; nothing of the tile but its sets and checksums,
no byte of memory and nothing else of the machine changes. -/
def Obligations.WeightSetResults : Prop :=
  (∀ (s : State) (tl : TileId) (clk word : Nat) (w : InstanceId), Issues s tl clk w word →
    runsWord (tileOf s tl) word = true →
    let x := tileOf s tl
    let y := issuedOn s tl word clk
    let z := siteAt s tl w word
    let mx := isMx (fFMT word)
    let gives (i : Instr) (v : Tile) : Prop := ∃ t, exec i s = .next t ∧ OnlyTile s t tl ∧ tileOf t tl = v
    (∀ (p : Nat) (sc : List Byte), (mx = false → p = 0 ∧ sc = []) →
      (mx = true → engineAt x (fRS2 word) 64 p ∧ Reads s z p (if (weightShape (fFMT word)).1 = 64 then 128 else 64) sc) →
      (∀ (a : Nat) (b : List Byte), fOp word = 0x80 → engineAt x (fRS1 word) 64 a →
        (x.tensor.shadow = none → Reads s z a 2048 b → gives (.instrTldw tl clk) { y with tensor := { x.tensor with
          shadow := some ⟨sparseBytes 0 b, BitVec.ofNat 4 (fFMT word), sparseBytes 0x7F sc⟩ } }) ∧
        (x.tensor.shadow.isSome = true → gives (.instrTldw tl clk) { y with tensor := { x.tensor with
          fetches := x.tensor.fetches ++ [⟨word, x.pc.toNat, a, p⟩] } })) ∧
      (fOp word = 0x81 → x.tensor.drain = none → x.tensor.shadow = none → x.tensor.fetches = [] →
        ∃ t, exec (.instrTwfmt tl clk) s = .next t ∧ OnlyTile s t tl ∧
          tileOf t tl = { y with tensor := { x.tensor with
            banks := (tileOf t tl).tensor.banks,
            active := ⟨x.tensor.active.bytes, BitVec.ofNat 4 (fFMT word), sparseBytes 0x7F sc⟩ } } ∧
          (∀ k, (bankOf (tileOf t tl).tensor k).acc = (bankOf x.tensor k).acc))) ∧
    (fOp word = 0x83 → x.tensor.drain = none → x.tensor.fetches = [] →
      gives (.instrTclr tl clk) { y with tensor := setBank x.tensor (fRS1 word % 4) bankReset })) ∧
  (∀ (s : State) (tl : TileId) (w : InstanceId) (g : Weights), (tileOf s tl).inst = some w → (tileOf s tl).leaving = none →
    (tileOf s tl).tensor.shadow = some g →
    let x := tileOf s tl
    let gives (sh : Option Weights) (r : List Fetch) : Prop := ∃ t, exec (.shadowActivate tl) s = .next t ∧
      OnlyTile s t tl ∧ t.gh = s.gh ∧
      tileOf t tl = { x with tensor := { x.tensor with
        banks := (tileOf t tl).tensor.banks, active := g, shadow := sh, fetches := r } } ∧
      ∀ k, (bankOf (tileOf t tl).tensor k).acc = (bankOf x.tensor k).acc
    (x.tensor.fetches = [] → gives none []) ∧
    (∀ d r b, x.tensor.fetches = d :: r → isMx (fFMT d.word) = false →
      Reads s (siteOf s tl w d.pc d.word) d.addr 2048 b →
      gives (some ⟨sparseBytes 0 b, BitVec.ofNat 4 (fFMT d.word), []⟩) r))

/-- Under the normal conditions of an issue with no drain pending and no set fetched, tmac of ROWS from 1 to 32 that
fit the bank, with its scale bytes readable where its format has some, gives the bank the kind and width of the
active set; entry n of each streamed row becomes the accumulation of that row's products with column n of the active
set onto its old value, every other entry stays, and so do every register, every other bank and all of memory; tmac
of no rows leaves everything but the issue's accounts. -/
def Obligations.AccumulationResult : Prop :=
  ∀ (s : State) (tl : TileId) (clk word a p : Nat) (w : InstanceId) (b sc : List Byte), Issues s tl clk w word →
    runsWord (tileOf s tl) word = true → fOp word = 0x82 →
    let x := tileOf s tl
    let z := siteAt s tl w word
    let f := fFMT word
    let wf := x.tensor.active.format.toNat
    let kk := (weightShape wf).1
    let nn := (weightShape wf).2
    let ctl := (sReg x (fRS2 word)).toNat
    let rows := bits ctl 5 0
    let first := bits ctl 12 8
    let old := bankOf x.tensor (fRD word % 4)
    let values := streamValues f kk rows b sc
    x.tensor.drain = none → x.tensor.shadow = none → x.tensor.fetches = [] →
    (rows = 0 → ∃ t, exec (.instrTmac tl clk) s = .next t ∧ OnlyTile s t tl ∧ tileOf t tl = issuedOn s tl word clk) ∧
    (0 < rows → rows ≤ 32 → first + rows ≤ 32 → pairOk wf f = true →
    (old.mode = none ∨ old.mode = some (floatKind wf, nn == 64)) → engineAt x (fRS1 word) (if isMx f then 64 else 1) a →
    Reads s z a (rows * (kk * fmtBits f / 8)) b → (isMx f = false → sc = []) →
    (isMx f = true → engineAt x (fRS3 word) 64 p ∧ Reads s z p (rows * (kk / 32)) sc) →
    ∃ t, exec (.instrTmac tl clk) s = .next t ∧ OnlyTile s t tl ∧ sameRegisters { x with tensor := (tileOf t tl).tensor } (tileOf t tl) ∧
      (bankOf (tileOf t tl).tensor (fRD word % 4)).mode = some (floatKind wf, nn == 64) ∧
      (∀ k, k ≠ fRD word % 4 → bankOf (tileOf t tl).tensor k = bankOf x.tensor k) ∧
      (∀ j < rows, ∀ n < nn, tabGet 0 (bankOf (tileOf t tl).tensor (fRD word % 4)).acc ((first + j) * 64 + n) =
        accumulate (floatKind wf) (tabGet 0 old.acc ((first + j) * 64 + n))
          (products (values.getD j []) ((columnsOf nn (weightRows x.tensor.active)).getD n []))) ∧
      (∀ k, (∀ j < rows, ∀ n < nn, k ≠ (first + j) * 64 + n) →
        tabGet 0 (bankOf (tileOf t tl).tensor (fRD word % 4)).acc k = tabGet 0 old.acc k))

/-- Under the normal conditions of an issue with no drain pending and no set fetched, tdrain of a used bank in a
format that its kind allows, to a bound and aligned destination (and scale destination, where the format has
scales), writes nothing yet and leaves one drain pending; of a clear bank, in a format without scales, it stores
zeros and leaves none pending; tchk leaves one check pending and trow copies 32 entries of the row that sRS2[4:0]
names to vRD. The verdict of a pending check, one accumulator bit upset before it or none, in which no line fails
adds one to TI_CHECK_PASS, changes no memory and leaves none pending; the verdict of such a drain in a format
without scales stores the converted bank at its destination and clears the bank but with KEEP, and counts no pass
where class QM skips the check by NOCHECK; one in which a line fails counts a checksum mismatch, ends the instance
and starts the tile's targeted test; and a lane's failed check in the same clock cycle counts its residue mismatch
too. -/
def Obligations.DrainResults : Prop :=
  (∀ (s : State) (tl : TileId) (clk word : Nat) (w : InstanceId), Issues s tl clk w word →
    runsWord (tileOf s tl) word = true → (tileOf s tl).tensor.drain = none → (tileOf s tl).tensor.shadow = none →
    (tileOf s tl).tensor.fetches = [] →
    let x := tileOf s tl
    let y := issuedOn s tl word clk
    let z := siteAt s tl w word
    let f := fFMT word
    let bank := fRS1 word % 4
    let nn := (bankMode x.tensor (bankOf x.tensor bank)).2
    let bytes := 32 * (nn * fmtBits f / 8)
    (∀ (a p : Nat) (flt wide : Bool), fOp word = 0x84 → (bankOf x.tensor bank).mode = some (flt, wide) →
      drainFmtOk flt f = true → engineAt x (fRD word) 64 a → firstUnbound s x.ctx w.second a bytes = none →
      (isMx f = true → engineAt x (fRS3 word) 64 p ∧ firstUnbound s x.ctx w.second p (nn / 32 * 32) = none) →
      ∃ t d, exec (.instrTdrain tl clk) s = .next t ∧ OnlyTile s t tl ∧
        tileOf t tl = { y with tensor := { x.tensor with drain := some d } } ∧ d.bank.val = bank ∧ d.only = false ∧
        d.dest = a ∧ (isMx f = true → d.scale = p)) ∧
    (∀ a : Nat, fOp word = 0x84 → bankOf x.tensor bank = bankReset → isMx f = false →
      drainFmtOk (floatKind x.tensor.active.format.toNat) f = true → engineAt x (fRD word) 64 a → engineStores s z a bytes →
      ∃ t, exec (.instrTdrain tl clk) s = .next t ∧ (tileOf t tl).tensor.drain = none ∧
        siteReads t z a bytes = .ok (List.replicate bytes 0) ∧
        (∀ c, outside (storeRanges s z a bytes) c → memRead t.mem c = memRead s.mem c)) ∧
    (fOp word = 0x85 → ∃ t d, exec (.instrTchk tl clk) s = .next t ∧ OnlyTile s t tl ∧
      tileOf t tl = { y with tensor := { x.tensor with drain := some d } } ∧ d.bank.val = bank ∧ d.only = true) ∧
    (fOp word = 0x86 → ∃ t, exec (.instrTrow tl clk) s = .next t ∧ OnlyTile s t tl ∧
      tileOf t tl = y.setV (fRD word) 0xFFFFFFFF (Vector.ofFn (fun i => tabGet 0 (bankOf x.tensor bank).acc
        ((sReg x (fRS2 word)).toNat % 32 * 64 + (if bit (fFUNC word) 0 then 32 else 0) + i.val))))) ∧
  (∀ (s : State) (tl : TileId) (w : InstanceId) (d : Drain) (up : Option BitFlip), (tileOf s tl).inst = some w →
    (tileOf s tl).tensor.drain = some d →
    let x := tileOf s tl
    let z := siteOf s tl w d.pc d.word
    let m := bankMode x.tensor (bankOf x.tensor d.bank.val)
    let b0 := foldBank x.tensor.active (bankOf x.tensor d.bank.val)
    let b := (up.map (flipBank b0)).getD b0
    let v := checkBank m.1 b (ctxOf s x.ctx).checkK.toNat
    let skips := d.only = false ∧ bit (fFUNC d.word) 0 = true ∧ (ctxOf s x.ctx).cls = .qm
    let fails := ¬ skips ∧ ∃ e ∈ v.1 ++ v.2, e = .fail
    (d.only = true → ¬ fails →
      ∃ t, exec (.drainVerdict tl ⟨up, none⟩) s = .next t ∧ OnlyTile s t tl ∧ (tileOf t tl).tensor.drain = none ∧
        (tileOf t tl).checks.pass = satInc x.checks.pass ∧ (tileOf t tl).checks.checksum = x.checks.checksum ∧
        (tileOf t tl).inst = some w) ∧
    (d.only = false → ¬ fails → isMx (fFMT d.word) = false →
      let data := (drainBytes m.1 m.2 d b).1
      engineStores s z d.dest data.length →
      ∃ t, exec (.drainVerdict tl ⟨up, none⟩) s = .next t ∧ (tileOf t tl).tensor.drain = none ∧
        (tileOf t tl).checks.pass = (if bit (fFUNC d.word) 0 = true ∧ (ctxOf s x.ctx).cls = .qm then x.checks.pass
          else satInc x.checks.pass) ∧
        bankOf (tileOf t tl).tensor d.bank.val = (if bit (fFUNC d.word) 1 then b else bankReset) ∧
        siteReads t z d.dest data.length = .ok data ∧
        (∀ c, outside (storeRanges s z d.dest data.length) c → memRead t.mem c = memRead s.mem c) ∧
        (tileOf t tl).inst = some w) ∧
    (fails → s.bv.tests.any (fun e => e.unit == tileUnit tl) = false →
      ∃ t, exec (.drainVerdict tl ⟨up, none⟩) s = .next t ∧ (tileOf t tl).checks.checksum = satInc x.checks.checksum ∧
        (tileOf t tl).checks.pass = x.checks.pass ∧ (tileOf t tl).testing = true ∧
        t.bv.tests.any (fun e => e.unit == tileUnit tl) = true) ∧
    (∀ l i x0, findInst s w = some i → i.tile = some tl → i.golden = false → findItem s w.item = some x0 →
      x0.stage = .running → x0.error = none → x.leaving = none → fails → ∃ t, exec (.drainVerdict tl ⟨up, some l⟩) s = .next t ∧
      (tileOf t tl).checks.checksum = satInc x.checks.checksum ∧ (tileOf t tl).checks.residue = satInc x.checks.residue))

/-- Under the normal conditions of an issue with no check pending and no fetch waiting, sscore.i8 of 1 to 8,192
summaries without an upset always passes its own check, adds one to TI_CHECK_PASS (but where class QM skips the
check by NOCHECK) and stores at aRD the dot product of the query with each summary as an INT32, while a checked one
with a score upset counts a checksum mismatch and no pass, and one of no summaries changes nothing but the issue's
accounts; stopk.i32 stores at aRD the K best of its N scores with their indexes, and with MERGE of the entries
already there, ended by sentinels, where every entry is no worse than the next; each that completes leaves every
byte outside its result and every register. -/
def Obligations.SequenceResults : Prop :=
  ∀ (s : State) (tl : TileId) (clk word qa sa da : Nat) (w : InstanceId) (q l old : List Byte), Issues s tl clk w word →
    runsWord (tileOf s tl) word = true →
    let x := tileOf s tl
    let z := siteAt s tl w word
    let ctl := (sReg x (fRS2 word)).toNat
    let n := ctl % 65536
    let k := bits ctl 22 16
    let nocheck := fFUNC word % 2 = 1 ∧ (ctxOf s x.ctx).cls = .qm
    let kept := if bit ctl 23 then ((List.range k).map (topEntry old)).filter (fun e => e != sentinel) else []
    let top := topList k (kept ++ (List.range n).map (fun j => (BitVec.ofNat 32 (field l (4 * j) 4), bits ctl 63 32 + j)))
    (∀ d, x.tensor.drain = some d → d.only = false) → x.tensor.fetches = [] →
    (fOp word = 0xF0 → n = 0 → ∃ t, exec (.instrSscoreI8 tl clk ⟨none, none⟩) s = .next t ∧ OnlyTile s t tl ∧
      tileOf t tl = issuedOn s tl word clk) ∧
    (fOp word = 0xF0 → 0 < n → n ≤ 8192 → engineAt x (fRS3 word) 64 qa → engineAt x (fRS1 word) 64 sa →
      engineAt x (fRD word) 64 da → Reads s z qa 64 q → Reads s z sa (64 * n) l → engineStores s z da (4 * n) →
      (∃ t, exec (.instrSscoreI8 tl clk ⟨none, none⟩) s = .next t ∧ sameRegisters x (tileOf t tl) ∧
        (tileOf t tl).checks.pass = (if nocheck then x.checks.pass else satInc x.checks.pass) ∧
        siteReads t z da (4 * n) = .ok ((List.range n).flatMap (fun j => leBytes 4
          (BitVec.ofInt 32 (((List.range 64).map (fun d => (q.getD d 0).toInt * (l.getD (64 * j + d) 0).toInt)).sum)).toNat)) ∧
        (∀ c, outside (storeRanges s z da (4 * n)) c → memRead t.mem c = memRead s.mem c)) ∧
      (∀ j u, j < n → u ≠ 0 → ¬ nocheck → ∃ t, exec (.instrSscoreI8 tl clk ⟨some (j, u), none⟩) s = .next t ∧
        (tileOf t tl).checks.checksum = satInc x.checks.checksum ∧ (tileOf t tl).checks.pass = x.checks.pass)) ∧
    (fOp word = 0xF1 → n ≤ 8192 → 0 < k → k ≤ 64 → bits ctl 63 32 + n ≤ 0xFFFFFFFF →
      engineAt x (fRS1 word) 64 sa → engineAt x (fRD word) 64 da → Reads s z sa (4 * n) l →
      (bit ctl 23 = true → Reads s z da (8 * k) old) → engineStores s z da (8 * k) →
      ∃ t, exec (.instrStopkI32 tl clk) s = .next t ∧ sameRegisters x (tileOf t tl) ∧ top.length = k ∧
        siteReads t z da (8 * k) = .ok (top.flatMap (fun e => leBytes 4 e.1.toNat ++ leBytes 4 e.2)) ∧
        (∀ i, i + 1 < k → topBefore (top.getD i sentinel) (top.getD (i + 1) sentinel) = true) ∧
        (∀ c, outside (storeRanges s z da (8 * k)) c → memRead t.mem c = memRead s.mem c))

/-- For a function that reaches the queue: a write with ENABLE 1 to a queue that is not enabled, where the function
rule holds, enables it with HEAD, both doorbell indexes, the used slots and both sequence numbers 0; with ENABLE 1
to an enabled queue, a pending clear included, it changes nothing; with ENABLE 0 to an enabled queue it leaves the
clear pending and ENABLE and every other field as they are; when nothing fetched from the queue is unpublished, the
pending clear ends and ENABLE reads 0; no other queue and nothing outside the Gatehouse changes. On the page of an
enabled queue that the function owns, a submission doorbell with INDEX below the ring size announces entries up to
INDEX, a completion doorbell frees (INDEX minus the previous INDEX) modulo the ring size slots, either with INDEX
not below the ring size changes nothing but DOORBELL_ERR, which it sets, and so does a submission doorbell of the
plan queue; on a page of another function's queue or of a disabled queue they change nothing; no other queue
changes. -/
def Obligations.QueueEnableAndDoorbells : Prop :=
  (∀ (s : State) (f : FnId) (q : QueueId) (v : Word32),
    let x := queueOf s q
    let keeps (t : State) : Prop := (∀ r, r ≠ q → queueOf t r = queueOf s r) ∧ t.mem = s.mem ∧ t.hostMem = s.hostMem ∧
      t.sync = s.sync ∧ t.tl = s.tl ∧ t.gh.items = s.gh.items ∧ t.gh.contexts = s.gh.contexts ∧ t.hi = s.hi
    (v.getLsbD 4 = true → reachesQueue s f q = true → x.enable = false → functionRule s (configQueue s f q v) = true →
      ∃ t, exec (.queueEnable f q v) s = .next t ∧ keeps t ∧ (queueOf t q).enable = true ∧ (queueOf t q).clearPending = false ∧
        (queueOf t q).head = 0 ∧ (queueOf t q).subIndex = 0 ∧ (queueOf t q).cqIndex = 0 ∧ (queueOf t q).cqUsed = 0 ∧
        (queueOf t q).nextSeq = 0 ∧ (queueOf t q).pubSeq = 0 ∧ (queueOf t q).base = x.base ∧ (queueOf t q).cqBase = x.cqBase) ∧
    (x.enable = true → exec (.queueEnable f q v) s = .next s) ∧
    (v.getLsbD 4 = false → reachesQueue s f q = true → x.enable = true →
      ∃ t, exec (.queueDisable f q v) s = .next t ∧ keeps t ∧ queueOf t q = { x with clearPending := true }) ∧
    (x.clearPending = true → queueItems s q = [] → x.fetched = none →
      ∃ t, exec (.queueDisableDone q) s = .next t ∧ keeps t ∧ (queueOf t q).enable = false ∧
        (queueOf t q).clearPending = false ∧ (queueOf t q).head = x.head)) ∧
  (∀ (s : State) (f : FnId) (q : QueueId) (v : Word32),
    let x := queueOf s q
    let i := v.toNat % 4096
    let gives (c : Instr) (y : Queue) : Prop := ∃ t, exec c s = .next t ∧ queueOf t q = y ∧
      (∀ r, r ≠ q → queueOf t r = queueOf s r) ∧ t.gh.items = s.gh.items ∧ t.hostMem = s.hostMem ∧ t.mem = s.mem
    (doorbellPage s f q = false →
      exec (.submissionDoorbell f q v) s = .next s ∧ exec (.completionDoorbell f q v) s = .next s) ∧
    (doorbellPage s f q = true →
      (i < 2 ^ x.sizeLog2.toNat → x.planQueue = false →
        gives (.submissionDoorbell f q v) { x with subIndex := BitVec.ofNat 12 i }) ∧
      (x.planQueue = true → gives (.submissionDoorbell f q v) { x with doorbellErr := true }) ∧
      (i < 2 ^ x.sizeLog2.toNat →
        gives (.completionDoorbell f q v) { x with
          cqIndex := BitVec.ofNat 12 i,
          cqUsed := x.cqUsed - (i + 2 ^ x.sizeLog2.toNat - x.cqIndex.toNat) % 2 ^ x.sizeLog2.toNat }) ∧
      (2 ^ x.sizeLog2.toNat ≤ i →
        gives (.submissionDoorbell f q v) { x with doorbellErr := true } ∧
        gives (.completionDoorbell f q v) { x with doorbellErr := true })))

/-- When the Gatehouse can fetch from a queue and the read of a named batch header is not held, a fetch whose
descriptor, the 64 bytes of host memory at GH_SQ_BASE plus 64 times HEAD, breaks no rule leaves it fetched with HEAD
unchanged; one that breaks a rule appends an item with the rank's status and DETAIL and the next SEQ that is no
accepted item, advances HEAD by one modulo the ring size, and leaves every byte of the device's memory; the retry of
a failed fetch does the same. With a descriptor fetched, no mirror in rebuild, a Kiln die in service, room under the
ring, no memory error present and no rule broken, acceptance appends the item with the next SEQ, stage accepted, the
present Sundial time and its kind as a batch RUN or not, advances HEAD by one modulo the ring size and SEQ by one,
and writes the item's 64 descriptor bytes at its journal entry in each mirror; every byte of memory outside the
128-byte entries in the mirrors is as before. -/
def Obligations.DescriptorFetchAndAcceptance : Prop :=
  (∀ (s : State) (q : QueueId) (t : Nat) (host : List Host.Cell),
    let s0 := hostWrites host (atTime t s)
    let x := queueOf s0 q
    let d := memReads s0.hostMem (x.base.toNat + 64 * x.head.toNat) 64
    let r := namedBlock s0 d
    canFetch s0 q = true → headerHeld s0 d = false →
    ∀ c, ((c = .descriptorFetch q t host ∧ x.fetchFailed = false) ∨ (c = .descriptorFetchRetry q t host ∧ x.fetchFailed = true)) →
      (worst (descriptorViols r.1 q d r.2) = none →
        ∃ u, exec c s = .next u ∧ (queueOf u q).fetched = some d ∧ (queueOf u q).head = x.head ∧
          (queueOf u q).fetchFailed = false) ∧
      (∀ v, worst (descriptorViols r.1 q d r.2) = some v →
        ∃ u y, exec c s = .next u ∧ u.gh.items = r.1.gh.items ++ [y] ∧ y.stage = .rejected ∧ y.desc = d ∧
          y.id = ⟨q, (queueOf r.1 q).nextSeq⟩ ∧ y.verdict = some (v.st, BitVec.ofNat 32 v.det) ∧ u.mem = r.1.mem ∧
          (queueOf u q).head.toNat = ((queueOf r.1 q).head.toNat + 1) % 2 ^ (queueOf r.1 q).sizeLog2.toNat % 4096 ∧
          (queueOf u q).nextSeq = (queueOf r.1 q).nextSeq + 1)) ∧
  (∀ (s : State) (q : QueueId) (t : Nat) (d : List Byte),
    let s0 := atTime t s
    let x := queueOf s0 q
    let r := heldBlock s0 d x.block
    x.fetched = some d → d.length = 64 → s0.gh.rebuilding = false → kilnsIn s0 ≠ [] → Clean s →
    (x.block.isEmpty = false ∨ headerHeld s0 d = false) →
    (∀ k, s.gh.mirrorA = some k ∨ s.gh.mirrorB = some k → 0 < presentBytes s k.val) →
    queueLive s0 q < 2 ^ x.sizeLog2.toNat → ghRuns s0 = true → worst (descriptorViols r.1 q d r.2) = none →
    ∃ u y, exec (.descriptorAccept q t) s = .next u ∧ u.gh.items = s.gh.items ++ [y] ∧ y.id = ⟨q, x.nextSeq⟩ ∧
      y.stage = .accepted ∧ y.desc = d ∧ y.accepted = max s.sun.ns t ∧ y.began = false ∧
      y.batch = isBatch s0 d ∧
      (queueOf u q).head.toNat = (x.head.toNat + 1) % 2 ^ x.sizeLog2.toNat % 4096 ∧ (queueOf u q).nextSeq = x.nextSeq + 1 ∧
      (queueOf u q).fetched = none ∧
      (∀ k, s.gh.mirrorA = some k ∨ s.gh.mirrorB = some k → memReads u.mem (journalAddr s k y.id) 64 = d) ∧
      JournalOnly s u y.id)

/-- For an accepted item of its type not yet taken up: a RUN has every instance index below INSTANCES to run, a
batch RUN none before its table step; a PAIRED one is paired and its context gets a shadow set, a GOLDEN one has a
golden run due and counts a frame of its context, and nothing else of any context changes; COPY, FUSE-CONFIG and
PLAN-CONFIG items stay as they are but for being taken up; a CONTEXT-CREATE puts its ID in LOADING with the class,
home die, quota, window mask, seed shelf and translation root of its creation block; each leaves every other item,
every tile and every byte of memory. -/
def Obligations.AcceptedWorkTakenUp : Prop :=
  ∀ (s : State) (i : ItemId) (x : Item), findItem s i = some x → x.taken = false → x.stage = .accepted →
    let keeps (t : State) : Prop := (∀ j, j ≠ i → findItem t j = findItem s j) ∧ t.tl = s.tl ∧ t.mem = s.mem ∧ t.sync = s.sync
    (dType x.desc = 1 →
      ∃ t y, exec (.run i) s = .next t ∧ keeps t ∧ findItem t i = some y ∧ y.taken = true ∧ y.stage = .accepted ∧
        y.paired = dPaired x.desc ∧ y.golden = (if dGolden x.desc then .due else .none) ∧
        y.todo = (if x.batch then [] else List.range (field x.desc 26 2)) ∧
        (let k := ctxOf s (dCtx x.desc)
         ctxOf t (dCtx x.desc) = { k with
           shadowed := k.shadowed || dPaired x.desc, frames := k.frames + (if dGolden x.desc then 1 else 0) }) ∧
        (∀ c, c ≠ dCtx x.desc → ctxOf t c = ctxOf s c)) ∧
    (∀ r ∈ [(Instr.copy i, 2), (.fuseConfig i, 3), (.planConfig i, 4)], dType x.desc = r.2 →
      ∃ t, exec r.1 s = .next t ∧ keeps t ∧ findItem t i = some { x with taken := true } ∧ t.gh.contexts = s.gh.contexts) ∧
    (dType x.desc = 6 → field x.block 24 1 ≤ 2 → field x.block 25 1 ≤ 3 → x.id = i →
      ∃ t, exec (.contextCreate i) s = .next t ∧ keeps t ∧ findItem t i = some { x with taken := true } ∧
        let c := ctxOf t (dCtx x.desc)
        c.state = .loading ∧ classCode c.cls = field x.block 24 1 ∧ c.home.val = field x.block 25 1 ∧
          c.shelves = field x.block 26 2 ∧ c.windowMask.toNat = field x.block 28 1 ∧ c.seedShelf = field x.block 29 1 ∧
          c.ttRoot.toNat = field x.block 16 6 ∧ c.creator = i ∧ (∀ d, d ≠ dCtx x.desc → ctxOf t d = ctxOf s d))

/-- With no memory error present, a FENCE whose waits are satisfied, with no FENCE ahead of it, its deadline not
passed and every earlier item of its scope published, is done with ST_OK; a SYNC whose waits are satisfied and
before which every item of its queue has published adds VALUE to its object, limited at all-ones and setting
SY_SATURATED exactly when the sum exceeds it, or sets the object to VALUE, and is done with ST_OK; no other object,
no tile and no byte of memory outside the item's journal entries changes. -/
def Obligations.FenceAndSyncItems : Prop :=
  ∀ (s : State) (i : ItemId) (t : Nat) (x : Item),
    let s0 := atTime t s
    findItem s i = some x → ghRuns s = true → mayStart s0 x = true → Clean s →
    let done (u : State) : Prop := (findItem u i).map (fun y => (y.stage, y.verdict)) = some (.done, some (0, 0)) ∧
      JournalOnly s u i
    let id := field x.desc 18 2
    let v := field x.desc 20 4
    (dType x.desc = 5 → s.gh.items.any (fun y => itemLive y && y.id != x.id && itemBefore y x && inScope s x y) = false →
      ∃ u, exec (.fence i t) s = .next u ∧ done u ∧ u.sync = s.sync ∧ u.tl = s.tl) ∧
    (syncReady s0 x 0 = true → ∃ u, exec (.syncAdd i t) s = .next u ∧ done u ∧
      (syncGet u id).toNat = min (2 ^ 32 - 1) ((syncGet s id).toNat + v) ∧
      tabGet false u.sync.saturated id = (tabGet false s.sync.saturated id || decide (2 ^ 32 - 1 < (syncGet s id).toNat + v)) ∧
      (∀ j, j ≠ id → syncGet u j = syncGet s j ∧ tabGet false u.sync.saturated j = tabGet false s.sync.saturated j) ∧
      u.tl = s.tl) ∧
    (syncReady s0 x 1 = true → ∃ u, exec (.syncReset i t) s = .next u ∧ done u ∧ (syncGet u id).toNat = v ∧
      u.sync.saturated = s.sync.saturated ∧ (∀ j, j ≠ id → syncGet u j = syncGet s j) ∧ u.tl = s.tl)

/-- With no memory error present: an accepted RUN of no instances and COPY of no bytes whose waits are satisfied
begin and are done with ST_OK; a COPY with bytes takes an engine with room and runs, and so does one that is
replayed; a CONTEXT-CREATE begins and runs; a configuration section of either engine begins, is done, and waits for
its boundary, a region slot's section putting the slot in LOADING; an accepted item with a deadline that has not
begun when the deadline passes is done with ST_DEADLINE_EXPIRED, a CONTEXT-CREATE so ended leaving its ID FREE. -/
def Obligations.BeginningsAndDeadlines : Prop :=
  ∀ (s : State) (i : ItemId) (t : Nat) (x : Item),
    let s0 := atTime t s
    findItem s i = some x → x.verdict = none → x.error = none → x.plan = false → Clean s →
    (ghRuns s = true → x.taken = true → mayStart s0 x = true →
      (dType x.desc = 1 → field x.desc 26 2 = 0 → ∃ u, exec (.itemBegin i t) s = .next u ∧
        (findItem u i).map (fun y => (y.stage, y.verdict, y.began)) = some (.done, some (0, 0), true)) ∧
      (dType x.desc = 2 → (ctxOf s (dCtx x.desc)).state = .ready → copyLen x.desc = 0 → ∃ u, exec (.itemBegin i t) s = .next u ∧
        (findItem u i).map (fun y => (y.stage, y.verdict, y.began)) = some (.done, some (0, 0), true)) ∧
      (∀ tl, dType x.desc = 2 → (ctxOf s (dCtx x.desc)).state = .ready → copyLen x.desc ≠ 0 →
        windowOpenFor s (ctxOf s (dCtx x.desc)) = true → copyEngine s0 x = some tl →
        ∃ u, exec (.itemBegin i t) s = .next u ∧
          (findItem u i).map (fun y => (y.stage, y.engine, y.began)) = some (.running, some tl, true) ∧ JournalOnly s u i) ∧
      (dType x.desc = 6 → ∃ u, exec (.itemBegin i t) s = .next u ∧
        (findItem u i).map (fun y => (y.stage, y.began)) = some (.running, true)) ∧
      (dType x.desc = 4 → ∃ u w, exec (.itemBegin i t) s = .next u ∧ u.mz.waiting = s.mz.waiting ++ [w] ∧ w.item = i ∧
        w.block = x.block ∧ w.secNo = field x.desc 28 1 ∧ u.mz.config = s.mz.config ∧
        (findItem u i).map (fun y => (y.stage, y.verdict)) = some (.done, some (0, 0)) ∧
        (∀ r < 15, (field x.desc 28 1 = 0x20 + r ∨ field x.desc 28 1 = 0x30 + r) → u.mz.loading.getLsbD r = true)) ∧
      (dType x.desc = 3 → ∃ u w, exec (.itemBegin i t) s = .next u ∧ u.fe.waiting = s.fe.waiting ++ [w] ∧ w.item = i ∧
        w.block = x.block ∧ w.secNo = field x.desc 28 1 ∧ u.fe.config = s.fe.config ∧
        (findItem u i).map (fun y => (y.stage, y.verdict)) = some (.done, some (0, 0)))) ∧
    (∀ tl, ghRuns s = true → x.taken = true → x.stage = .running → x.began = true → x.engine = none → dType x.desc = 2 →
      (ctxOf s (dCtx x.desc)).state = .ready → copyLen x.desc ≠ 0 → windowOpenFor s (ctxOf s (dCtx x.desc)) = true →
      copyEngine s0 x = some tl → ∃ u, exec (.itemBegin i t) s = .next u ∧
        (findItem u i).map (fun y => (y.stage, y.engine, y.copied)) = some (.running, some tl, 0) ∧ JournalOnly s u i) ∧
    (x.stage = .accepted → x.began = false → dDeadline x.desc ≠ 0 → x.accepted + dDeadline x.desc * 1000 ≤ max s.sun.ns t →
      ∃ u, exec (.deadlineExpire i t) s = .next u ∧
        (findItem u i).map (fun y => (y.stage, y.verdict)) = some (.done, some (0x020A, 0)) ∧ u.sync = s.sync ∧
        (dType x.desc ≠ 6 → u.tl = s.tl ∧ JournalOnly s u i) ∧
        (dType x.desc = 6 → (ctxOf u (dCtx x.desc)).state = .free))

/-- With no memory error present, when a done item or a rejected descriptor is the next of its queue, a completion
slot is free and its function can issue requests, publication writes the 32-byte record at GH_SQ_CQ_BASE plus 32
times SEQ modulo the ring size and no other byte of host memory, takes the slot, advances the queue's publication,
removes the item and no other, counts a done item in its partition's PUBLISHED, and adds 1 to each object that the
SIGNAL list of a done item names when its status is below 0x0100, its signals were not dropped and it is no plan
item, and to none otherwise; no tile and no byte of memory outside the item's journal entries changes. With no free
slot nothing but the time changes. -/
def Obligations.PublicationOfAnItem : Prop :=
  ∀ (s : State) (i : ItemId) (t : Nat) (x : Item),
    let s0 := atTime t s
    let q := queueOf s i.queue
    let slot := q.cqBase.toNat + 32 * (i.seq.toNat % 2 ^ q.sizeLog2.toNat)
    let v := x.verdict.getD (0, 0)
    let adds : Prop := x.stage = .done ∧ x.plan = false ∧ x.dropped = false ∧ v.1.toNat < 0x100
    findItem s i = some x → publishNext s0 x = true → ghRuns s = true → queueIssues s i.queue = true → Clean s →
    (q.cqUsed < 2 ^ q.sizeLog2.toNat →
      ∃ u, exec (.itemPublish i t) s = .next u ∧
        memReads u.hostMem slot 32 = recordBytes q x v.1 v.2 (max s.sun.ns t) ∧
        (∀ a, a < slot ∨ slot + 32 ≤ a → memRead u.hostMem a = memRead s.hostMem a) ∧
        (queueOf u i.queue).cqUsed = q.cqUsed + 1 ∧ (queueOf u i.queue).pubSeq = q.pubSeq + 1 ∧
        findItem u i = none ∧ (∀ j, j ≠ i → (findItem u j).isSome = (findItem s j).isSome) ∧
        (x.stage = .done → u.gh.published = s.gh.published.modify (classCode q.cls) (fun n => n + 1)) ∧ u.tl = s.tl ∧
        (∀ a, (∀ k, s.gh.mirrorA = some k ∨ s.gh.mirrorB = some k →
          a < journalAddr s k i ∨ journalAddr s k i + 128 ≤ a) → memRead u.mem a = memRead s.mem a) ∧
        (¬ adds → u.sync = s.sync) ∧
        (adds → ∀ j, (syncGet u j).toNat = min (2 ^ 32 - 1) ((syncGet s j).toNat +
          ((List.range (dNSignal x.desc)).filter (fun k => dSignal x.desc k == j)).length))) ∧
    (2 ^ q.sizeLog2.toNat ≤ q.cqUsed → exec (.itemPublish i t) s = .next s0)

/-- With no memory error present, an item with an error that calls for a replay, none of whose instances, chains or
transfers is left, starts again with one more replay counted and no error, all instances of a RUN without a batch to
run again; a rebuild with every Kiln die in service ends with two different mirrors and none rebuilding; a progress
write of the enabled block of a function that exists and can issue adds one to its WRITE_COUNT, limited at all-ones,
writes 256 bytes at its address beginning with the Sundial time and the count, and no other byte of host memory. -/
def Obligations.ReplayJournalAndProgress : Prop :=
  (∀ (s : State) (i : ItemId) (x : Item), findItem s i = some x → x.error ≠ none → x.stage ≠ .done → x.engine = none →
    itemInsts s i = [] → itemChains s i = [] → Clean s →
    (∀ e ∈ s.tl.tiles, ∀ w, e.2.inst = some w → w.item = i → e.2.leaving = none) →
    ∃ u y, exec (.itemReplay i) s = .next u ∧ findItem u i = some y ∧ y.error = none ∧ y.replays = x.replays + 1 ∧
      y.began = x.began ∧ y.accepted = x.accepted ∧ y.stage = x.stage ∧ y.ended = 0 ∧ u.tl = s.tl ∧ u.gh.queues = s.gh.queues ∧
      JournalOnly s u i ∧ (dType x.desc = 1 → x.batch = false → y.todo = List.range (field x.desc 26 2))) ∧
  (∀ s : State, Clean s → s.gh.rebuilding = true → kilnsIn s = [0, 1, 2, 3] → (∀ k : KilnId, 0 < presentBytes s k.val) →
    s.gh.mirrorA ≠ s.gh.mirrorB ∨ s.gh.mirrorA = none →
    ∃ u, exec .journalRebuild s = .next u ∧ u.gh.rebuilding = false ∧ u.gh.single = false ∧ u.gh.mirrorA ≠ none ∧
      u.gh.mirrorB ≠ none ∧ u.gh.mirrorA ≠ u.gh.mirrorB ∧
      (s.gh.mirrorA ≠ none → u.gh.mirrorA = s.gh.mirrorA) ∧ u.gh.items = s.gh.items) ∧
  (∀ (s : State) (f : FnId) (t : Nat), (progressOf s f.val).base.getLsbD 0 = true → fnExists s f.val = true →
    fnCanIssue s f.val = true → ghRuns s = true →
    let a := (progressOf s f.val).base.toNat / 256 * 256
    let n := min (2 ^ 64 - 1) ((progressOf s f.val).writeCount.toNat + 1)
    ∃ u, exec (.progressWrite f t) s = .next u ∧ (progressOf u f.val).writeCount.toNat = n ∧
      memReads u.hostMem a 16 = leBytes 8 (max s.sun.ns t) ++ leBytes 8 n ∧
      (∀ b, b < a ∨ a + 256 ≤ b → memRead u.hostMem b = memRead s.hostMem b) ∧ u.gh.items = s.gh.items ∧ u.sync = s.sync)

/-- A clock cycle over the first n operations on their way sets each object of which at most one of them is a reset
to the value of that reset, or its old value, plus every add to it, limited at all-ones; a listed item's wait that
holds on the value after is satisfied, and one satisfied before stays so whatever the counter; an instance suspended
at swait.y whose wait holds after it, or held once before, becomes ready when its wait is served. -/
def Obligations.SyncFabricCycle : Prop :=
  (∀ (s : State) (n : Nat),
    let ops := s.sync.waiting.take n
    ∃ u, exec (.syncFabricApply n) s = .next u ∧ u.sync.waiting = s.sync.waiting.drop n ∧ u.tl = s.tl ∧ u.mem = s.mem ∧
      (∀ j, (ops.filter (fun o => o.reset && o.id.toNat == j)).length ≤ 1 → (syncGet u j).toNat = min (2 ^ 32 - 1)
        ((((ops.filter (fun o => o.reset && o.id.toNat == j)).getLast?.map (fun o => o.value)).getD (syncGet s j)).toNat +
          ((ops.filter (fun o => !o.reset && o.id.toNat == j)).map (fun o => o.value.toNat)).sum)) ∧
      (∀ i x, findItem s i = some x → ∃ y, findItem u i = some y ∧
        (∀ k < 4, (x.waits.getLsbD k = true → y.waits.getLsbD k = true) ∧
          (k < dNWait x.desc → dWaitValue x.desc k ≤ (syncGet u (dWaitId x.desc k)).toNat → y.waits.getLsbD k = true))) ∧
      (∀ w i id v, findInst s w = some i → i.wait = .sync id v → v.toNat ≤ (syncGet u id.toNat).toNat →
        (findInst u w).map (fun j => j.wait) = some (.sync id 0))) ∧
  (∀ (s : State) (w : InstanceId) (i : Inst) (id : BitVec 16) (v : Word32), findInst s w = some i → i.wait = .sync id v →
    v.toNat ≤ (syncGet s id.toNat).toNat →
    ∃ u, exec (.swaitSatisfied w) s = .next u ∧ findInst u w = some { i with wait := .ready } ∧ u.sync = s.sync ∧ u.tl = s.tl)

/-- With no memory error present: a CONTEXT-DESTROY that may start, with FORCE or with every earlier item of the
context published, begins, makes the ID CLOSING, gives every other item of the context that has no verdict
ST_CONTEXT_CLOSED, and completes at once those none of whose instances holds a tile and that have no chain or
transfer; the same item enters step 3 when no tile holds the context any more; one of a FREE ID is done with ST_OK,
and one accepted for an ID whose teardown has stalled is done with ST_TEARDOWN_STALLED and its DETAIL. When no tile
holds a CLOSING context its drain leaves the ID FREE, its chains gone, its owned blocks in scrub and its CONTEXT-
DESTROY items, but for those expired before they began, done with ST_OK, or after a stall with ST_TEARDOWN_STALLED;
10 ms into step 3 with tags outstanding, those that the command says units of dies hold or those of chains and COPY
transfers, the teardown is noted as stalled with the lowest die whose units hold some, and those items are done with
ST_TEARDOWN_STALLED and that DETAIL; a response for a CLOSING or FREE ID only counts in GH_LATE_DROP; other contexts
stay as they are. -/
def Obligations.TeardownOfAContext : Prop :=
  ∀ (s : State) (i : ItemId) (t : Nat) (c : CtxId),
    let s0 := atTime t s
    let k := ctxOf s c
    let others (u : State) : Prop := (∀ d, d ≠ c → ctxOf u d = ctxOf s d) ∧ u.sync = s.sync ∧ u.gh.queues = s.gh.queues
    let done (u : State) (j : ItemId) (st : BitVec 16) (det : Word32) : Prop :=
      (findItem u j).map (fun z => (z.stage, z.verdict)) = some (.done, some (st, det))
    let waits (v : State) (j : ItemId) (y : Item) : Prop := findItem s j = some y ∧ itemNames y c = true ∧
      dType y.desc = 7 ∧ y.stage ≠ .done ∧ y.stage ≠ .rejected ∧ (y.began = true ∨ pastDeadline v y = false)
    Clean s →
    (∀ x, waits s0 i x → ghRuns s = true →
      (mayStart s0 x = true → k.state ≠ .free → k.state ≠ .closing →
        (destroyForce x.desc = true ∨ earlierDone s0 x c = true) →
        ∃ u, exec (.contextDestroy i t) s = .next u ∧ others u ∧ (ctxOf u c).state = .closing ∧
          (ctxOf u c).closer = some i ∧ (ctxOf u c).map = k.map ∧
          (findItem u i).map (fun z => (z.stage, z.began)) = some (.running, true) ∧
          (∀ j y, findItem s j = some y → itemNames y c = true → dType y.desc ≠ 7 → y.stage ≠ .done →
            y.stage ≠ .rejected → y.verdict = none → (findItem u j).bind (fun z => z.verdict) = some (0x0306, 0) ∧
              ((∀ w ∈ s.gh.insts, w.id.item = j → w.tile = none) → itemChains s j = [] → y.engine = none →
                done u j 0x0306 0))) ∧
      (k.state = .closing → k.stalled = none → k.closer = some i → k.closing3 = none → tileHolds s c = false →
        ∃ u, exec (.contextDestroy i t) s = .next u ∧ others u ∧ ctxOf u c = { k with closing3 := some (max s.sun.ns t) } ∧
          u.gh.items = s.gh.items ∧ u.mem = s.mem ∧ u.tl = s.tl) ∧
      (∀ det, k.state = .closing → k.stalled = some det →
        ∃ u, exec (.contextDestroy i t) s = .next u ∧ others u ∧ ctxOf u c = k ∧ done u i 0x0307 det ∧ u.tl = s.tl ∧
          JournalOnly s u i) ∧
      (k.state = .free → ∃ u, exec (.contextDestroy i t) s = .next u ∧ others u ∧ ctxOf u c = k ∧ done u i 0 0 ∧
        u.tl = s.tl ∧ JournalOnly s u i)) ∧
    (k.state = .closing → tileHolds s c = false → ghRuns s = true →
      ∃ u, exec (.contextDrainDone c) s = .next u ∧ others u ∧
        ctxOf u c = { contextReset with batch := k.batch &&& 0x7FFF7FFF7FFF7FFF } ∧
        (∀ x ∈ u.tl.chains, x.ctx ≠ c) ∧ (∀ b l, (b, .owned c l) ∈ s.ms.blocks → (b, .scrubbing) ∈ u.ms.blocks) ∧
        (∀ j y, waits s j y → done u j (if k.stalled = none then 0 else 0x0307) (k.stalled.getD 0))) ∧
    (∀ b d (dies : List DieId), k.closing3 = some b → k.state = .closing → k.stalled = none →
      b + 10000000 ≤ max s.sun.ns t →
      let held := dies.map (fun e => e.val) ++ (outstanding s c).map (fun tl => (tileDie tl).val)
      d ∈ held → (∀ e ∈ held, d ≤ e) →
      ∃ u, exec (.teardownStallTimeout ⟨c, dies⟩ t) s = .next u ∧ others u ∧
        ctxOf u c = { k with stalled := some (BitVec.ofNat 32 d) } ∧ u.tl = s.tl ∧
        (∀ j y, waits s0 j y → done u j 0x0307 (BitVec.ofNat 32 d))) ∧
    (k.state = .closing ∨ k.state = .free →
      ∃ u, exec (.lateResponseDrop c) s = .next u ∧ others u ∧ ctxOf u c = k ∧
        u.gh.lateDrop.toNat = min (2 ^ 32 - 1) (s.gh.lateDrop.toNat + 1) ∧ u.gh.items = s.gh.items ∧ u.mem = s.mem ∧
        u.tl = s.tl ∧ u.ms = s.ms)

/-- For a LOADING context whose CONTEXT-CREATE has begun and has neither error nor verdict, with no memory error
present: an image that fails a check completes the item with that status and DETAIL and leaves the ID FREE; one that
passes and whose footprint the class has free shelves for makes the context READY with the image's entry table and
completes the item with ST_OK; with too few free shelves the item completes with ST_NO_SHELVES and the ID is FREE;
other contexts stay as they are. -/
def Obligations.LoadingOfAContext : Prop :=
  ∀ (s : State) (c : CtxId) (t : Nat) (host : List Host.Cell) (y : Item),
    let s0 := hostWrites host (atTime t s)
    let x := ctxOf s0 c
    let img := paReads s0 x.imageAddr.toNat x.imageLen
    findItem s0 x.creator = some y → x.state = .loading → y.began = true → y.error = none → y.verdict = none →
    y.stage = .running → ghRuns s0 = true → imageHeld s0 x = false → Clean s →
    let ends (st : BitVec 16) (det : Nat) (k : CtxState) : Prop := ∃ u, exec (.contextLoad c t host) s = .next u ∧
      (ctxOf u c).state = k ∧ (k = .ready → (ctxOf u c).entries = entriesOf img) ∧
      (findItem u x.creator).map (fun z => (z.stage, z.verdict)) = some (.done, some (st, BitVec.ofNat 32 det)) ∧
      (∀ d, d ≠ c → ctxOf u d = ctxOf s0 d) ∧ u.sync = s0.sync ∧ u.hostMem = s0.hostMem
    (∀ e, imageFailure x img = some e → ends e.1 e.2 .free) ∧
    (imageFailure x img = none →
      (imgFootprint img ≤ freeCount s0 x.cls → ends 0 0 .ready) ∧
      (freeCount s0 x.cls < imgFootprint img → ends 0x0108 (freeCount s0 x.cls) .free))

/-- With the Gatehouse running, no memory error present and each item listed once, one that has begun as running:
the first instance in rank order that a free tile can take is posted to the first free tile of its scan, which then
waits for its staging; one that no free tile can take and that outranks a running instance is posted to the tile
that ranks lowest among those it may displace, whose instance stays; the post names the instance, its context and
its slot and is not staged, and every other tile stays. An instance of an unpaired item that so starts for the first
time gets the lowest free slot, and its slot holds the entry's address, state 1, its index and the four seeds; its
item runs and has this index no longer to start. With no such instance nothing but the time changes. -/
def Obligations.PlacementAndPosting : Prop :=
  ∀ (s : State) (t : Nat),
    let s0 := atTime t s
    let l := rankOrder s0 (readyAll s0)
    let posted (m : Instr) (r : Ready) (tl : TileId) : Prop :=
      let c := dCtx r.item.desc
      let d := r.item.desc
      ∃ i u, exec m s = .next u ∧ findInst u r.id = some i ∧
        (tileOf u tl).next = some { inst := some r.id, ctx := c, slot := i.slot, staged := none } ∧
        (tileOf u tl).state = (if (tileOf s tl).state = .free then .waiting else (tileOf s tl).state) ∧
        (tileOf u tl).inst = (tileOf s tl).inst ∧ (∀ v, v ≠ tl → tileOf u v = tileOf s v) ∧ u.sync = s.sync ∧
        u.hostMem = s.hostMem ∧ u.gh.queues = s.gh.queues ∧
        (r.started = true → u.gh = s.gh ∧ u.mem = s.mem) ∧
        (r.started = false → r.id.second = false → r.item.paired = false → findInst s r.id = none →
          freeSlot s c = some i.slot ∧
          (findItem u r.item.id).map (fun y => (y.stage, y.began, y.todo)) = some (.running, true, r.item.todo.drop 1) ∧
          (∀ a, slotAddr s c false i.slot 0 = some a →
            memReads u.mem a 8 = leBytes 8 ((ctxOf s c).entries.getD (field d 24 2) 0).toNat ∧ memRead u.mem (a + 12) = 1 ∧
              memReads u.mem (a + 16) 4 = leBytes 4 r.id.index ∧
              memReads u.mem (a + 64) 32 = leBytes 8 r.id.index ++ leBytes 8 (field d 16 6) ++ leBytes 8 (field d 22 2) ++
                leBytes 8 (field d 26 2)))
    ghRuns s = true → Clean s → (∀ y ∈ s.gh.items, findItem s y.id = some y ∧ (y.began = true → y.stage ≠ .accepted)) →
    (∀ r tl, firstPlace s0 l = some (r, tl) → tileFree s0 tl = true ∧ tl ∈ tilesFor s0 r ∧ posted (.tilePlace t) r tl) ∧
    (∀ r tl, firstPost s0 l = some (r, tl) → displaceable s0 r tl = true ∧ (tilesFor s0 r).any (tileFree s0) = false ∧
      posted (.postInstance t) r tl) ∧
    (firstPlace s0 l = none → exec (.tilePlace t) s = .next s0) ∧
    (firstPost s0 l = none → exec (.postInstance t) s = .next s0)

/-- With no memory error present: a post that is not staged is staged with what the slot, the weights and the code
give, and a tile that waited for it is ready to switch; where its seed shelf, weights and code are bound the stage
holds RESUME_PC, the seeds and the weights of the slot and no failure. A tile that is not held for its test and
waits to switch to a post staged without failure, of an instance other than its own, runs it: its program counter
and seeds as staged, its weights active, every other register zero, its yield count zero, SLOT_STATE 2 in its slot;
the other tiles stay as they were and no byte of memory changes but these: SLOT_STATE, the slot of the outgoing
instance and its item's journal entries; an outgoing instance that suspends has its RESUME_PC and SLOT_STATE 3
there. An expired yield watchdog ends the instance: its context, if READY, is FAULTED with ST_YIELD_OVERRUN, its
item gets that verdict with the tile as DETAIL and counts as held at least the clock cycles up to the limit that no
sample had counted, TI_YIELD_MAX is at least the limit, GH_FAULT_CTX latches it when it held nothing, a tile with no
post is free; a golden run so ended counts a golden mismatch and faults no context. -/
def Obligations.StagingSwitchAndWatchdog : Prop :=
  (∀ (s : State) (tl : TileId) (p : Post) (w : InstanceId), Clean s → (tileOf s tl).next = some p → p.inst = some w →
    p.staged = none → (findInst s w).isSome = true →
    let st := stageRead s w p.ctx p.slot
    ∃ u, exec (.stagingDone tl) s = .next u ∧
      (tileOf u tl).next = some { p with staged := some st } ∧
      (tileOf u tl).state = (if (tileOf s tl).state = .waiting then .switching else (tileOf s tl).state) ∧
      (tileOf u tl).inst = (tileOf s tl).inst ∧ (∀ v, v ≠ tl → tileOf u v = tileOf s v) ∧ u.gh = s.gh ∧ u.mem = s.mem ∧
      (∀ q, boundShelf s p.ctx w.second (ctxOf s p.ctx).seedShelf = some q →
        let b := memReads s.mem (shelfBase q + p.slot.toNat * 256) 256
        firstUnbound s p.ctx w.second (field b 0 4) 256 = none →
        (field b 8 4 = 0xFFFFFFFF ∨ (field b 8 4 % 64 = 0 ∧ firstUnbound s p.ctx w.second (field b 8 4) 2048 = none)) →
        st.failure = none ∧ st.pc = BitVec.ofNat 32 (field b 0 4) ∧
        (field b 8 4 = 0xFFFFFFFF → st.weights = []) ∧
        (field b 8 4 ≠ 0xFFFFFFFF → shelfReads s p.ctx w.second (field b 8 4) 2048 = .ok st.weights) ∧
        (∀ k < 16, st.seed[k]? = some (BitVec.ofNat 64 (field b (64 + 8 * k) 8))))) ∧
  (∀ (s : State) (tl : TileId) (clk t : Nat) (p : Post) (w : InstanceId) (st : Staged), Clean s →
    (tileOf s tl).state = .switching → (tileOf s tl).testing = false →
    (tileOf s tl).next = some p → p.inst = some w → p.staged = some st → st.failure = none →
    (findInst s w).isSome = true → (tileOf s tl).inst ≠ some w →
    let x := tileOf s tl
    ∃ u, exec (.switch tl clk t) s = .next u ∧
      let y := tileOf u tl
      y.state = .running ∧ y.inst = some w ∧ y.ctx = p.ctx ∧ y.slot = p.slot ∧ y.pc = st.pc ∧ y.count = 0 ∧ y.leaving = none ∧
        y.s = Vector.ofFn (fun k => if k.val < 16 then st.seed.getD k.val 0 else 0) ∧ y.a = Vector.replicate 16 0 ∧
        y.v = Vector.replicate 16 (Vector.replicate 32 0) ∧ y.p = Vector.replicate 8 0 ∧
        y.tensor = { tensorReset with active := { weightsReset with bytes := sparseBytes 0 st.weights } } ∧
        (∀ q, y.next = some q → q.inst = none) ∧ (findInst u w).bind (fun i => i.tile) = some tl ∧
        (∀ v, v ≠ tl → tileOf u v = tileOf s v) ∧ u.sync = s.sync ∧ u.hostMem = s.hostMem ∧
        (∀ a, slotAddr s p.ctx w.second p.slot 0 = some a → memRead u.mem (a + 12) = 2) ∧
        (∀ v pc a, x.inst = some v → x.leaving = some (.suspend pc) → mustStop s x.ctx v = false →
          slotAddr s x.ctx v.second x.slot 0 = some a → slotAddr s p.ctx w.second p.slot 0 ≠ some a →
          memReads u.mem a 8 = leBytes 8 pc.toNat ∧ memRead u.mem (a + 12) = 3) ∧
        (∀ b, (∀ a, slotAddr s p.ctx w.second p.slot 0 = some a → b ≠ a + 12) →
          (∀ v a, x.inst = some v → slotAddr s x.ctx v.second x.slot 0 = some a → b < a ∨ a + 16 ≤ b) →
          (∀ v k, x.inst = some v → s.gh.mirrorA = some k ∨ s.gh.mirrorB = some k →
            b < journalAddr s k v.item ∨ journalAddr s k v.item + 128 ≤ b) → memRead u.mem b = memRead s.mem b)) ∧
  (∀ (s : State) (tl : TileId) (w : InstanceId) (i : Inst), Clean s → (tileOf s tl).state = .running →
    (tileOf s tl).inst = some w → (tileOf s tl).leaving = none → (tileOf s tl).fresh = false → findInst s w = some i →
    i.tile = some tl →
    let x := tileOf s tl
    let k := ctxOf s x.ctx
    ∃ u, exec (.yieldWatchdogExpire tl) s = .next u ∧ findInst u w = none ∧ u.sync = s.sync ∧
      x.yieldMax.toNat ≤ (tileOf u tl).yieldMax.toNat ∧ 30000 ≤ (tileOf u tl).yieldMax.toNat ∧
      (x.next = none → (tileOf u tl).state = .free ∧ (tileOf u tl).inst = none) ∧
      (i.golden = true → (∀ d, (ctxOf u d).state = (ctxOf s d).state) ∧ u.gh.faultCtx = s.gh.faultCtx ∧
        u.bv.goldMismatch = satInc s.bv.goldMismatch) ∧
      (i.golden = false →
        (ctxOf u x.ctx).state = (if k.state = .ready then .faulted else k.state) ∧
        (k.state = .ready → (ctxOf u x.ctx).firstFault = 0x0203) ∧ (∀ d, d ≠ x.ctx → ctxOf u d = ctxOf s d) ∧
        (s.gh.faultCtx.valid = false →
          u.gh.faultCtx = ⟨BitVec.ofNat 10 x.ctx.val, 0x0203, BitVec.ofNat 8 tl.val, true, true⟩) ∧
        (∀ y, findItem s w.item = some y → itemWorks y x.ctx = true → y.stage ≠ .done → y.stage ≠ .rejected →
          y.verdict = none → ∃ z, findItem u w.item = some z ∧ z.verdict = some (0x0203, BitVec.ofNat 32 tl.val) ∧
            y.busy + (30000 - x.count - x.dbg.sampled) ≤ z.busy)))

/-- With no memory error present and its requests not paused, a valid descriptor of one row of at most one line
between two bound context shelf ranges, its destination outside the guarded bytes of the seed slots, makes the
destination read as the source did, leaves every byte outside it, counts one more descriptor and goes to its NEXT;
an invalid descriptor ends its chain and makes its READY context FAULTED with ST_ILLEGAL_INSTRUCTION, of a golden
run no context; a chain past its last descriptor leaves the list, alone, and when it was its instance's last an
instance suspended at dwait.y becomes ready; a COPY whose lines all succeed is done with ST_OK and holds no engine,
and one of a line between two cached LPDDR6 pages makes the destination's bytes those of the source and changes no
other byte but the item's journal entries. -/
def Obligations.DmaDescriptorsAndTransfers : Prop :=
  (∀ (s : State) (tl : TileId) (ch : Fin 16) (host : List Host.Cell) (x : Chain) (a : Word32) (d : List Byte),
    let s0 := hostWrites host s
    let at? (u : State) := u.tl.chains.find? (fun y => y.tile == tl && y.ch == ch)
    at? s0 = some x → x.desc = none → x.nextAddr = some a → shelfReads s0 x.ctx x.inst.second a.toNat 64 = .ok d →
    (∀ b : List Byte, Clean s → x.moved = 0 → descriptorOk s0 x.ctx d (x.count + 1) = true → ddSpace d 0 = 0 →
      ddSpace d 8 = 0 → ddRows d = 1 → 0 < ddLength d → ddAddr d 8 % 64 + ddLength d ≤ 64 → ddSignal d = false →
      x.golden = false → contextPaused s0 tl x.ctx (shelfBase 0) = false →
      shelfReads s0 x.ctx x.inst.second (ddAddr d 0) (ddLength d) = .ok b →
      firstUnbound s0 x.ctx x.inst.second (ddAddr d 8) (ddLength d) = none → touchesSlot s0 x.ctx (ddAddr d 8) (ddLength d) = false →
      ∃ u y, exec (.dmaDescriptor tl ch host 0) s = .next u ∧
        shelfReads u x.ctx x.inst.second (ddAddr d 8) (ddLength d) = .ok b ∧
        (∀ e, outside (physPieces s0 x.ctx x.inst.second (ddAddr d 8) (ddLength d)) e → memRead u.mem e = memRead s.mem e) ∧
        at? u = some y ∧ y.count = x.count + 1 ∧
        y.nextAddr = (if ddNext d = 0xFFFFFFFF then none else some (BitVec.ofNat 32 (ddNext d))) ∧ y.inst = x.inst ∧
        u.gh = s0.gh ∧ u.sync = s0.sync ∧ u.hostMem = s0.hostMem) ∧
    (∀ upset, descriptorOk s0 x.ctx d (x.count + 1) = false → x.golden = false → (ctxOf s0 x.ctx).state = .ready →
      ∃ u, exec (.dmaDescriptor tl ch host upset) s = .next u ∧ at? u = none ∧ (ctxOf u x.ctx).state = .faulted ∧
        (ctxOf u x.ctx).firstFault = 0x0204 ∧ (∀ c, c ≠ x.ctx → ctxOf u c = ctxOf s c) ∧ u.sync = s.sync) ∧
    (∀ upset, descriptorOk s0 x.ctx d (x.count + 1) = false → x.golden = true →
      ∃ u, exec (.dmaDescriptor tl ch host upset) s = .next u ∧ at? u = none ∧ u.sync = s.sync ∧
        (∀ c, (ctxOf u c).state = (ctxOf s c).state))) ∧
  (∀ (s : State) (tl : TileId) (ch : Fin 16) (x : Chain), s.tl.chains.find? (fun y => y.tile == tl && y.ch == ch) = some x →
    engineGone s tl = false → x.nextAddr = none → x.desc = none →
    ∃ u, exec (.dmaChainEnd tl ch) s = .next u ∧
      u.tl.chains = s.tl.chains.filter (fun y => !(y.tile == tl && y.ch == ch)) ∧ u.sync = s.sync ∧ u.gh.queues = s.gh.queues ∧
      (∀ i, findInst s x.inst = some i → i.wait = .dma → i.golden = false →
        (∀ y ∈ s.tl.chains, y.inst = x.inst → y.tile = tl ∧ y.ch = ch) →
        (findInst u x.inst).map (fun j => j.wait) = some .ready)) ∧
  (∀ (s : State) (i : ItemId) (host : List Host.Cell) (t : Nat) (x : Item) (tl : TileId),
    let s0 := atTime t (hostWrites host s)
    let c := dCtx x.desc
    let n := copyLen x.desc
    let src := copySrc x.desc
    let dst := copyDst x.desc
    let done (u : State) : Prop :=
      (findItem u i).map (fun y => (y.stage, y.verdict, y.engine)) = some (.done, some (0, 0), none)
    findItem s0 i = some x → x.engine = some tl → x.stage = .running → x.verdict = none → engineGone s0 tl = false → Clean s →
    (∀ s1, copyLines tl c i x.desc (n / 64 + 2) s0 = (s1, .whole) →
      ∃ u, exec (.copyTransferEnd i host t) s = .next u ∧ done u ∧ u.hostMem = s1.hostMem ∧ u.partnerMem = s1.partnerMem ∧
        (∀ j, j ≠ i → findItem u j = findItem s1 j) ∧ u.sync = s0.sync) ∧
    (∀ pa pb k m o q, x.copied = 0 → 0 < n → src % 64 + n ≤ 64 → dst % 4096 + n ≤ 4096 →
      tlbFind (tileOf s0 tl) c src false = some pa → tlbFind (tileOf s0 tl) c dst true = some pb →
      absentFor s0 (tileDie tl).val pa = false → absentFor s0 (tileDie tl).val pb = false →
      placeOf pa = .lpddr k o → placeOf pb = .lpddr m q →
      enginePaused s0 tl c src false = false → enginePaused s0 tl c dst true = false →
      (∀ e, s.gh.mirrorA = some e ∨ s.gh.mirrorB = some e →
        pb + n ≤ journalAddr s e i ∨ journalAddr s e i + 128 ≤ pb) →
      ∃ u, exec (.copyTransferEnd i host t) s = .next u ∧ done u ∧ memReads u.mem pb n = memReads s.mem pa n ∧
        (∀ a, (a < pb ∨ pb + n ≤ a) → (∀ e, s.gh.mirrorA = some e ∨ s.gh.mirrorB = some e →
          a < journalAddr s e i ∨ journalAddr s e i + 128 ≤ a) → memRead u.mem a = memRead s.mem a) ∧
        u.hostMem = s0.hostMem ∧ u.partnerMem = s.partnerMem ∧ u.sync = s.sync))

/-- A walk for a transfer of the context that reaches a legal leaf leaves the tile's TLB serving the address with
the leaf's physical address, and no byte of memory, item or queue changed; one that fails with a REASON for a chain
of a READY context makes the context FAULTED with ST_TRANSLATION_FAULT and latches TU_FAULT with the address,
context and REASON when it held nothing; a write of TU_INVAL by function 0 while GO is 0 starts an invalidation, any
other changes nothing; its end drops the context's entries, and no other, from every tile's TLB and clears GO. -/
def Obligations.TranslationAndInvalidation : Prop :=
  (∀ (s : State) (tl : TileId) (c : CtxId) (va : Addr48) (write : Bool), (transferOn s tl c).isSome = true →
    (∀ s1 pa, translate s tl c va.toNat write = (s1, .ok pa) →
      ∃ u, exec (.translationWalk tl c va write) s = .next u ∧ tlbFind (tileOf u tl) c va.toNat write = some pa ∧
        u.mem = s.mem ∧ u.gh.items = s.gh.items ∧ u.gh.queues = s.gh.queues ∧ u.tl.chains = s.tl.chains ∧ u.sync = s.sync) ∧
    (∀ s1 x v r, translate s tl c va.toNat write = (s1, .error (.fault v r)) → transferOn s tl c = some (.inl x) →
      x.golden = false → (ctxOf s c).state = .ready →
      ∃ u, exec (.translationWalk tl c va write) s = .next u ∧ (ctxOf u c).state = .faulted ∧
        (ctxOf u c).firstFault = 0x0201 ∧ (s.ms.fault.valid = false →
          u.ms.fault = ⟨va, BitVec.ofNat 10 c.val, BitVec.ofNat 3 r, true⟩) ∧
        (s.ms.fault.valid = true → u.ms.fault = s.ms.fault))) ∧
  (∀ (s : State) (f : FnId) (v : Word32),
    (f = 0 → s.ms.invalGo = false → ∃ u, exec (.tuInval f v) s = .next u ∧ u.ms.invalCtx = v.setWidth 10 ∧
      u.ms.invalGo = v.getLsbD 31 ∧ u.tl = s.tl ∧ u.gh = s.gh ∧ u.mem = s.mem ∧
      u.ms = { s.ms with invalCtx := u.ms.invalCtx, invalGo := u.ms.invalGo }) ∧
    (f ≠ 0 ∨ s.ms.invalGo = true → exec (.tuInval f v) s = .next s) ∧
    (s.ms.invalGo = true → ∃ u, exec .tuInvalDone s = .next u ∧ u.ms = { s.ms with invalGo := false } ∧
      (∀ tl, (tileOf u tl).tlb = (tileOf s tl).tlb.filter (fun y => y.1 != ctxId s.ms.invalCtx.toNat) ∧
        tileOf u tl = { tileOf s tl with tlb := (tileOf u tl).tlb }) ∧ u.tl.chains = s.tl.chains ∧ u.gh = s.gh ∧
      u.mem = s.mem))

/-- A request started while no other is in service and none waits ends at once with RESULT 3, 1, 0 or 2 by its
checks in that order and no block taken, or owns every block of its placement and keeps GO; its end, while no
request waits, no block of it is zeroed yet and the hub DMA has no limit and no level that pauses it, with the list
written lists the blocks at TU_ALLOC_LIST, zeroes their LPDDR6 bytes, counts the spilled ones and ends with RESULT
0, and with the list refused scrubs the blocks and ends with RESULT 4, while a hub DMA paused at the first block
keeps the request in service and every byte of the device's memory; a TU_FREE that names a block and its owner
starts the block's scrub and drops every translation into it, any other sets FREE_ERR; a scrub's end leaves the
block zero and unlisted. -/
def Obligations.BlockAllocationResults : Prop :=
  (∀ (s : State) (f : FnId) (v : Word32) (grants : List Nat),
    let a := { allocOf s f.val with
      ctrl := writeCtrl (allocOf s f.val).ctrl v ||| 0x80000000, placed := [], waiting := true, grants := grants }
    let s1 := setAlloc s f.val a
    let k := ctxOf s (acCtx a.ctrl)
    let bad3 := decide (512 < acCount a.ctrl) ||
      (f != 0 && (partMap s.part (acClass a.ctrl)).function.toNat != f.val)
    let bad1 := k.state == .closing || (k.state != .free && k.cls != acClass a.ctrl)
    let l := placement s1 a a.ctrl grants
    let ends (r : BitVec 3) : Prop := ∃ u, exec (.blockAlloc f v grants) s = .next u ∧ (allocOf u f.val).result = r ∧
      (allocOf u f.val).ctrl.getLsbD 31 = false ∧ u.ms.blocks = s.ms.blocks ∧ u.mem = s.mem
    hostReaches s f = true → v.getLsbD 31 = true → (∀ e ∈ s.ms.alloc, e.2.ctrl.getLsbD 31 = false) →
    (allocOf s f.val).ctrl.getLsbD 31 = false →
    (bad3 = true → ends 3) ∧ (bad3 = false → bad1 = true → ends 1) ∧
    (bad3 = false → bad1 = false → (acCount a.ctrl = 0 → ends 0) ∧
      (0 < acCount a.ctrl → l.length < acCount a.ctrl → ends 2) ∧
      (0 < acCount a.ctrl → acCount a.ctrl ≤ l.length → ∃ u, exec (.blockAlloc f v grants) s = .next u ∧
        (allocOf u f.val).placed = l ∧ (allocOf u f.val).ctrl.getLsbD 31 = true ∧
        (∀ e ∈ l, ownedBy u e.1 (acCtx a.ctrl) = true) ∧
        (∀ pa, (∀ e ∈ l, e.1 ≠ pa) → u.ms.blocks.find? (fun e => e.1 == pa) = s.ms.blocks.find? (fun e => e.1 == pa)) ∧
        u.mem = s.mem))) ∧
  (∀ (s : State) (f : FnId) (t : Nat),
    let a := allocOf s f.val
    let l := a.placed
    a.ctrl.getLsbD 31 = true → a.waiting = false → (∀ e ∈ s.ms.alloc, e.2.waiting = false) → a.zeroed = 0 →
    (∀ e r, l = e :: r → fnCanIssue s f.val = true → masterPaused s 0 e.1 = true →
      ∃ u, exec (.blockAllocDone f true t) s = .next u ∧ allocOf u f.val = a ∧ u.mem = s.mem ∧ u.ms.blocks = s.ms.blocks) ∧
    (s.part.masters[(0 : Fin 6)].limit = 0xFFFFFFFF →
    (∀ e ∈ l, levelPauses s.part.masters[(0 : Fin 6)].cls (queueLevel s e.1) = false) →
    (fnCanIssue s f.val = true → ∃ u, exec (.blockAllocDone f true t) s = .next u ∧ (allocOf u f.val).result = 0 ∧
      (allocOf u f.val).ctrl.getLsbD 31 = false ∧
      (allocOf u f.val).spilled = BitVec.ofNat 10 (l.filter (fun e => decide (3 ≤ e.2))).length ∧
      memReads u.hostMem (a.list.toNat / 8 * 8) (8 * l.length) = l.flatMap allocEntry ∧
      (∀ e ∈ l, e.1 < 0x20_0000_0000 → ∀ k < 0x20_0000, memRead u.mem (e.1 + k) = 0) ∧ u.ms.blocks = s.ms.blocks) ∧
    (∃ u, exec (.blockAllocDone f false t) s = .next u ∧ (allocOf u f.val).result = 4 ∧
      (allocOf u f.val).ctrl.getLsbD 31 = false ∧ (allocOf u f.val).spilled = 0 ∧ u.hostMem =
        (l.foldl (fun b e => zeroBlock b e.1) s).hostMem ∧ (∀ e ∈ l, (e.1, .scrubbing) ∈ u.ms.blocks)))) ∧
  (∀ (s : State) (f : FnId) (v : Word64),
    let pa := bits v.toNat 47 21 * blockBytesN
    hostReaches s f = true →
    (ownedBy s pa (ctxId (bits v.toNat 57 48)) = true → ∃ u, exec (.blockFree f v) s = .next u ∧
      (pa, .scrubbing) ∈ u.ms.blocks ∧ u.mem = s.mem ∧ u.gh = s.gh ∧
      (∀ tl, ∀ y ∈ (tileOf u tl).tlb, y.2.2.2.1 + 2 ^ y.2.2.1 ≤ pa ∨ pa + blockBytesN ≤ y.2.2.2.1)) ∧
    (ownedBy s pa (ctxId (bits v.toNat 57 48)) = false → ∃ u, exec (.blockFree f v) s = .next u ∧
      allocOf u f.val = { allocOf s f.val with freeErr := true } ∧ u.ms.blocks = s.ms.blocks ∧ u.tl = s.tl ∧ u.gh = s.gh ∧
      u.mem = s.mem)) ∧
  (∀ (s : State) (b : Nat), (b, .scrubbing) ∈ s.ms.blocks →
    ∃ u, exec (.blockScrubDone b) s = .next u ∧ tabHas u.ms.blocks b = false ∧
      (b < 0x20_0000_0000 → ∀ k < 0x20_0000, memRead u.mem (b + k) = 0) ∧
      (∀ c, c ≠ b → u.ms.blocks.find? (fun e => e.1 == c) = s.ms.blocks.find? (fun e => e.1 == c)) ∧ u.gh = s.gh ∧ u.tl = s.tl)

/-- A patrol read of a granule in the present range of an unfenced channel, of which no other mark of an error
touches a byte, changes nothing but the time when no symbol is in error, adds one to the corrected count and leaves
the granule without error when one symbol is, and when two symbols are, or the granule is already known bad, adds
one to the uncorrectable count, latches the granule's address with PATROL, lists the granule as bad and starts the
channel's targeted test; no other channel and no item changes. -/
def Obligations.PatrolReadOutcomes : Prop :=
  ∀ (s : State) (pa : Addr48) (n : Nat) (t : Nat),
    let g := pa.toNat / 32 * 32
    let k := g / 0x8_0000_0000
    let ch := channelAt s g
    let x := channelOf s k ch
    let known := s.ms.badGranules.contains g
    let soft := s.ms.softGranules.filter (inGranule g 32)
    lpddrPresent s g = true → x.state = 0 →
    let gives (p : State → Prop) : Prop := ∃ u, exec (.patrolRead pa n t) s = .next u ∧ p u ∧
      (∀ i j, 8 * i + j ≠ 8 * k + ch → channelOf u i j = channelOf s i j) ∧ u.gh.items = s.gh.items ∧ u.sync = s.sync
    (n = 0 → known = false → soft = [] → gives (fun u => u = atTime t s)) ∧
    ((n = 1 ∧ soft = [] ∨ n ≤ 1 ∧ soft = [g]) → known = false →
      gives (fun u => channelOf u k ch = { x with corrected := satInc x.corrected } ∧ u.bv = s.bv ∧ u.mem = s.mem ∧
        g ∉ u.ms.softGranules ∧ u.ms.badGranules = s.ms.badGranules)) ∧
    ((n = 2 ∨ n < 2 ∧ known = true) → gives (fun u =>
      channelOf u k ch = { x with uncorrectable := satInc x.uncorrectable, ueAddr := BitVec.ofNat 48 g, patrol := true,
                                  ueValid := true } ∧
      g ∈ u.ms.badGranules ∧ u.mem = s.mem ∧ u.bv.tests.any (fun r => r.unit == unitId k 2 ch && r.shelf == 0) = true))

/-- A write of GH_BATCH_ENTRY by function 0 replaces the selected context's register by the fields that name
entries, when the context is READY, and is ignored otherwise; with no memory error present and no request held, a
table step of a batch RUN of instances that its RUN command has taken up and that may start, or that is replayed,
completes with ST_OK when COUNT is 0; otherwise, its table read and its STATE bytes and live record written, it
completes with ST_OK when no entry is live and else leaves the instances to run: the live entries in mode 0, all
instances in mode 1; the rejected entries are added to GH_BATCH_REJECT once. -/
def Obligations.BatchEntriesAndTableStep : Prop :=
  (∀ (s : State) (f : FnId) (v : Word64),
    let c := ctxId s.gh.batchSelect.toNat
    let x := ctxOf s c
    (pfReaches s f = true → x.state = .ready → ∃ u, exec (.batchEntryWrite f v) s = .next u ∧
      ctxOf u c = { x with batch := batchWrite x.batch v x.entries.length } ∧ (∀ d, d ≠ c → ctxOf u d = ctxOf s d) ∧
      u.gh.items = s.gh.items ∧ u.mem = s.mem) ∧
    (pfReaches s f = false ∨ x.state ≠ .ready → exec (.batchEntryWrite f v) s = .next s)) ∧
  (∀ (s : State) (i : ItemId) (t : Nat) (host : List Host.Cell) (x : Item),
    let s0 := hostWrites host (atTime t s)
    let c := dCtx x.desc
    let b := x.block
    findItem s0 i = some x → x.batch = true → x.taken = true → x.tabled = false → x.error = none → x.verdict = none → ghRuns s0 = true →
    (ctxOf s0 c).state = .ready → field x.desc 26 2 ≠ 0 →
    (mayStart s0 x = true ∨ (x.began = true ∧ x.stage = .running)) → Clean s →
    gwHeld s0 c (bhTable b) (32 * bhCount b) true = false →
    let done (u : State) : Prop := (findItem u i).map (fun y => (y.stage, y.verdict)) = some (.done, some (0, 0))
    (bhCount b = 0 → ∃ u, exec (.batchTableStep i t host) s = .next u ∧ done u ∧ u.sync = s0.sync ∧ u.tl = s0.tl) ∧
    (∀ s1 s2 s4 tb, 0 < bhCount b →
      gwReads c 8 s0 (bhTable b) (32 * bhCount b) = (s1, .ok tb) →
      let l := (List.range (bhCount b)).map (fun e => (seqEntry tb e, seqState (bhGroups b) (seqEntry tb e)))
      let live := (List.range (bhCount b)).filter (fun e => (l[e]?.map (fun p => p.2)) == some 0)
      let rej := (l.filter (fun p => decide (2 ≤ p.2))).length
      writeStates c (bhTable b) (l.map (fun p => p.2)) s1 0 = (s2, .ok ()) →
      writeLive (if x.paired then bindShadow s2 c else s2) c (bhLive b) (liveRecord (bhCount b) (bhRecent b) l) = (s4, .ok ()) →
      ∃ u, exec (.batchTableStep i t host) s = .next u ∧
        (x.counted = false → u.gh.rejectEntries = satAdd s.gh.rejectEntries rej ∧
          u.gh.rejectItems = satAdd s.gh.rejectItems (if rej = 0 then 0 else 1)) ∧
        (x.counted = true → u.gh.rejectEntries = s.gh.rejectEntries ∧ u.gh.rejectItems = s.gh.rejectItems) ∧
        (live = [] → done u) ∧
        (live ≠ [] → (findItem u i).map (fun y => (y.tabled, y.todo, y.stage)) =
          some (true, if bhMode b = 0 then live else List.range (field x.desc 26 2), x.stage))))

/-- A split or map write by function 0 sets BUSY_ERR alone when it moves a partition that is not empty, else
RANGE_ERR alone when its range check fails, else the written fields; a guarantee write of a selected master takes
effect exactly when the limit and the pool allow it, a class write of one but the Fusion Engine and the Maze exactly
when the pool does; while nothing of the Fusion Engine's is held up, a queue occupancy of at most 64 gives its level
by BW_HIGH and BW_STEP and changes no other level, and at the end of a regulator window every count returns to zero,
and one waiting QM master below its guarantee raises the miss count and latches its number. -/
def Obligations.PartitionAndBandwidthWrites : Prop :=
  (∀ (s : State) (f : FnId) (v : Word32), pfReaches s f = true →
    let busy := classes.any (fun c => splitMoves s v c && !partitionEmpty s c)
    ∃ u, exec (.partSplitWrite f v) s = .next u ∧ u = { s with part := u.part } ∧
      (busy = true → u.part = { s.part with busyErr := true }) ∧
      (busy = false → splitBad v = true → u.part = { s.part with rangeErr := true }) ∧
      (busy = false → splitBad v = false → u.part.dShelves.toNat = bits v.toNat 7 0 ∧
        u.part.bShelves.toNat = bits v.toNat 15 8 ∧ u.part.dMem.toNat = bits v.toNat 22 16 ∧
        u.part.bMem.toNat = bits v.toNat 30 24 ∧ u.part = { s.part with
          dShelves := u.part.dShelves, bShelves := u.part.bShelves, dMem := u.part.dMem, bMem := u.part.bMem })) ∧
  (∀ (s : State) (f : FnId) (k : Sys2Proof.Class) (v : Word64), pfReaches s f = true →
    let old := partMap s.part k
    let m : PartMap := ⟨v.setWidth 16, BitVec.ofNat 16 (bits v.toNat 31 16),
      if bits v.toNat 35 32 ≤ 8 then BitVec.ofNat 4 (bits v.toNat 35 32) else old.function⟩
    let clash := classes.any (fun c => c != k && rangesOverlap m (partMap s.part c))
    ∃ u, exec (.partMapWrite f k v) s = .next u ∧ u = { s with part := u.part } ∧
      (m ≠ old → partitionEmpty s k = false → u.part = { s.part with busyErr := true }) ∧
      ((m = old ∨ partitionEmpty s k = true) → clash = true → u.part = { s.part with rangeErr := true }) ∧
      ((m = old ∨ partitionEmpty s k = true) → clash = false → partMap u.part k = m ∧
        (∀ c, c ≠ k → partMap u.part c = partMap s.part c) ∧ u.part.schedule = s.part.schedule ∧
        u.part.busyErr = s.part.busyErr ∧ u.part.rangeErr = s.part.rangeErr)) ∧
  (∀ (s : State) (f : FnId) (v : Word32) (m : Fin 6), pfReaches s f = true → s.part.bwSelect.toNat = m.val →
    let x := s.part.masters[m]
    (v.toNat ≤ x.limit.toNat → contextSum s x.cls + masterSum s x.cls m.val + v.toNat ≤ classPool s x.cls →
      ∃ u, exec (.bwMasterGuaranteeWrite f v) s = .next u ∧ u.part.masters[m] = { x with guarantee := v } ∧
        (∀ n : Fin 6, n ≠ m → u.part.masters[n] = s.part.masters[n]) ∧ u = { s with part := { s.part with masters := u.part.masters } }) ∧
    (x.limit.toNat < v.toNat ∨ classPool s x.cls < contextSum s x.cls + masterSum s x.cls m.val + v.toNat →
      exec (.bwMasterGuaranteeWrite f v) s = .next s) ∧
    (∀ c, classOf (bits v.toNat 1 0) = some c →
      (m ≠ 2 → m ≠ 3 → contextSum s c + masterSum s c m.val + x.guarantee.toNat ≤ classPool s c →
        ∃ u, exec (.bwMasterClassWrite f v) s = .next u ∧ u.part.masters[m] = { x with cls := c } ∧
          (∀ n : Fin 6, n ≠ m → u.part.masters[n] = s.part.masters[n]) ∧ u = { s with part := { s.part with masters := u.part.masters } }) ∧
      (m = 2 ∨ m = 3 ∨ classPool s c < contextSum s c + masterSum s c m.val + x.guarantee.toNat →
        exec (.bwMasterClassWrite f v) s = .next s))) ∧
  (∀ (s : State) (q : OutQueue) (n : Nat), n ≤ 64 → s.fe.held = [] → s.fe.reading = [] → s.fe.outgoing = none →
    let h := s.part.bwHigh.toNat
    let st := s.part.bwStep.toNat
    ∃ u, exec (.throttleLevelChange q n) s = .next u ∧ u = { s with part := { s.part with levels := u.part.levels } } ∧
      (n ≤ h → tabGet 0 u.part.levels (levelKey q) = 0) ∧
      (h < n → n ≤ h + st → tabGet 0 u.part.levels (levelKey q) = 1) ∧
      (h + st < n → n ≤ h + 2 * st → tabGet 0 u.part.levels (levelKey q) = 2) ∧
      (h + 2 * st < n → tabGet 0 u.part.levels (levelKey q) = 3) ∧
      (∀ k, k ≠ levelKey q → tabGet 0 u.part.levels k = tabGet 0 s.part.levels k)) ∧
  (∀ (s : State) (t : Nat) (l : List MasterId), max s.sun.ns t % (s.part.bwWindow.toNat * 1000) = 0 →
    s.fe.held = [] → s.fe.reading = [] → s.fe.outgoing = none →
    ∃ u, exec (.regulatorWindow t l) s = .next u ∧ u.part.counts = [] ∧ u.gh = s.gh ∧ u.tl.chains = s.tl.chains ∧
      u.part.masters = s.part.masters ∧ (l = [] → u.part.miss = s.part.miss) ∧
      (∀ m, l = [m] → (countOf s m).2.2.1 = .qm → tabGet 0 s.part.counts (countOf s m).1 < (countOf s m).2.1 →
        u.part.miss.count = satInc s.part.miss.count ∧ u.part.miss.master = BitVec.ofNat 9 (countOf s m).2.2.2.1 ∧
        u.part.miss.valid = true ∧ u.bv = s.bv))

/-- A window whose time has come opens, and one whose time is past closes, no other window changing; at the close of
a window that is not golden every tile whose instance is no golden run and has no open window left, and which has no
post, gets VACATE, and a tile whose context still has one stays as it is; a boundary of a running device puts the
done sections into effect, starts the Maze's cycle with nothing bound, no chain and every edge UNCHECKED and the
held stop as it stands, takes the Fusion Engine's snapshot when its sections are complete, opens a new watchdog
cycle and leaves MAZE_IDLE as the Maze is. -/
def Obligations.WindowsAndTheBoundary : Prop :=
  (∀ (s : State) (w : WindowId) (t : Nat),
    let x := s.part.schedule[w]
    let ns := max s.sun.ns t % 1000000
    (openAtPhase x ns = true → ∃ u, exec (.windowOpen w t) s = .next u ∧ u.part.openMask.getLsbD w.val = true ∧
      (∀ v : WindowId, v ≠ w → u.part.openMask.getLsbD v.val = s.part.openMask.getLsbD v.val) ∧ u.tl = s.tl ∧ u.gh = s.gh ∧
      u.mem = s.mem) ∧
    (openAtPhase x ns = false → s.part.openMask.getLsbD w.val = true → ∃ u, exec (.windowClose w t) s = .next u ∧
      u.part.openMask.getLsbD w.val = false ∧
      (∀ v : WindowId, v ≠ w → u.part.openMask.getLsbD v.val = s.part.openMask.getLsbD v.val) ∧
      (x.kind ≠ 5 → u.gh = s.gh ∧ u.mem = s.mem ∧ ∀ tl i, (tileOf s tl).inst = some i → (tileOf s tl).next = none →
        isGolden s i = false →
        (windowOpenFor u (ctxOf s (tileOf s tl).ctx) = false → ∃ p, (tileOf u tl).next = some p ∧ p.inst = none) ∧
        (windowOpenFor u (ctxOf s (tileOf s tl).ctx) = true → tileOf u tl = tileOf s tl)))) ∧
  (∀ (s : State) (t : Nat), t % 1000000 = 0 → s.sun.ns ≤ t → s.pw.sleepState.toNat < 3 → s.rs.held = false →
    s.bv.lastBoundary ≠ some t →
    ∃ u, exec (.planCycleBoundary t) s = .next u ∧ u.sun.ns = t ∧ u.bv.lastBoundary = some t ∧ u.bv.judged = 0 ∧
      u.part.logged = [] ∧ u.fe.waiting = [] ∧ u.mz.waiting = [] ∧ u.mz.cycleAt = t ∧ u.mz.bound = none ∧
      u.mz.chain = none ∧ u.mz.stop = s.mz.stop ∧ u.mz.edges = [] ∧ u.mz.opened = none ∧ u.mz.fixed = none ∧
      (fusionNeeds.all (fun k => tabHas u.fe.config k) = true → u.fe.state = 2 ∧ u.fe.snapAt = some t) ∧
      u.bv.b.causes.getLsbD 9 = mazeIdle u ∧ u.sync = s.sync)

/-- Unless the package follows its pair leader or the hub runs on its internal oscillator in HOLDOVER, a write of
SD_CFG by function 0 that changes SOURCE starts the new discipline, SOURCE 0 without correction. A SD_SET without a
plan queue steps Sundial to the written seconds at once under SOURCE 0 and waits for the next edge under SOURCE 2
and 3. An edge of the selected polarity is stamped; without a plan queue it applies the waiting SD_SET, with one
Sundial does not step. A sync exchange is noted for its port, and on the slave port under SOURCE 1 or 3 its offset
is kept; with a plan queue Sundial does not step and an UNSET one stays so, without one an UNSET Sundial leaves that
state. The loss of the selected source ends in HOLDOVER with the time counting on. A sync message leaves a running
die's replica within 8 ns of Sundial and takes a stopped one to RESYNC; one whose clock has returned reaches SYNC,
and one that stops reads stopped and is remembered. -/
def Obligations.SundialSources : Prop :=
  (∀ (s : State) (f : FnId) (v : Word32), f = 0 → hostReaches s f = true → bits v.toNat 1 0 ≠ sunSource s →
    ∃ u, exec (.sdSourceWrite f v) s = .next u ∧ u.sun.cfg = v.setWidth 9 ∧ u.sun.ns = s.sun.ns ∧ u = { s with sun := u.sun } ∧
      (pairDisciplined s = false → (s.sun.state ≠ .holdover ∨ s.rs.reduced = false) →
        u.sun.state = (if bits v.toNat 1 0 = 0 then .freeRun else if s.sun.timeSet = true then .acquiring else .unset) ∧
        (bits v.toNat 1 0 = 0 → u.sun.ppb = 0)) ∧
      (pairDisciplined s = true ∨ (s.sun.state = .holdover ∧ s.rs.reduced = true) → u.sun.state = s.sun.state)) ∧
  (∀ (s : State) (f : FnId) (v : Word64), f = 0 → hostReaches s f = true → planQueueExists s = false →
    pairDisciplined s = false →
    (sunSource s = 0 → ∃ u, exec (.sdSet f v) s = .next u ∧
      u.sun.ns = v.toNat % 2 ^ 48 * 1000000000 % 2 ^ 64 ∧ u.sun.frac = 0 ∧ u.sun.timeSet = true ∧ u = { s with sun := u.sun }) ∧
    (2 ≤ sunSource s → exec (.sdSet f v) s =
      .next { s with sun := { s.sun with pendingSet := some (v.setWidth 48) } })) ∧
  (∀ (s : State) (rising : Bool) (t : Nat), rising ≠ s.sun.cfg.getLsbD 8 →
    (sunSource s < 2 ∨ pairDisciplined s = true → ∃ u, exec (.ppsEdge rising t) s = .next u ∧
      u.sun.ppsStamp = some (max s.sun.ns t) ∧ u.sun.ns = max s.sun.ns t ∧ u = { s with sun := u.sun }) ∧
    (∀ v, 2 ≤ sunSource s → pairDisciplined s = false → s.sun.pendingSet = some v → planQueueExists s = false →
      ∃ u, exec (.ppsEdge rising t) s = .next u ∧ u.sun.ns = v.toNat * 1000000000 % 2 ^ 64 ∧ u.sun.pendingSet = none ∧
        u.sun.timeSet = true ∧ u = { s with sun := u.sun }) ∧
    (2 ≤ sunSource s → pairDisciplined s = false → planQueueExists s = true →
      ∃ u, exec (.ppsEdge rising t) s = .next u ∧ u.sun.ns = max s.sun.ns t ∧ u.sun.pendingSet = none ∧
        u.sun.ppsStamp = some (max s.sun.ns t) ∧ u = { s with sun := u.sun, free := u.free })) ∧
  (∀ (s : State) (p : Fin 4) (o : Int) (t : Nat), s.rs.reduced = false →
    ∃ u, exec (.gptpSync p o t) s = .next u ∧ u.sun.gptpSync.getLsbD p.val = true ∧
      (∀ q : Fin 4, q ≠ p → u.sun.gptpSync.getLsbD q.val = s.sun.gptpSync.getLsbD q.val) ∧
      u = { s with sun := u.sun, free := u.free } ∧
      (pairDisciplined s = false → (sunSource s = 1 ∨ sunSource s = 3) → sunPort s = p.val → u.sun.offsetNs = offsetReg o ∧
        (planQueueExists s = true → u.sun.ns = max s.sun.ns t ∧ (s.sun.state = .unset → u.sun.state = .unset)) ∧
        (planQueueExists s = false → u.sun.state ≠ .unset)) ∧
      (sunPort s ≠ p.val → u.sun.state = s.sun.state ∧ u.sun.ns = max s.sun.ns t)) ∧
  (∀ (s : State) (src : TimeSource), pairDisciplined s = false → s.sun.state ≠ .unset →
    (src = .gptp ∧ sunSource s = 1 ∨ src = .pps ∧ sunSource s = 2) →
    ∃ u, exec (.sourceLost src) s = .next u ∧ u.sun.state = .holdover ∧ u.sun.ns = s.sun.ns ∧ u.sun.ppb = s.sun.ppb ∧
      (s.sun.state ≠ .holdover → u.sun.sourceLost = true) ∧ u = { s with sun := u.sun }) ∧
  (∀ (s : State) (d : DieId) (t : Nat), d.val ≠ 4 →
    (timebaseRuns s d.val = true → ∃ u, exec (.timeBusSync d t) s = .next u ∧
      (let e : Int := (replicaTime u d.val : Int) - (now u : Int); now u = max s.sun.ns t ∧ (8 ≤ now u → -8 ≤ e ∧ e ≤ 8)) ∧
      replicaOf u d.val = (if replicaOf s d.val = .stopped then .resync else replicaOf s d.val) ∧
      (∀ e, e ≠ d.val → replicaOf u e = replicaOf s e)) ∧
    (replicaOf s d.val ≠ .stopped → ∃ u, exec (.replicaStopped d t) s = .next u ∧ replicaOf u d.val = .stopped ∧
      u.sun.stoppedEver.getLsbD d.val = true ∧ (∀ e, e ≠ d.val → replicaOf u e = replicaOf s e)) ∧
    (timebaseRuns s d.val = true → ∃ u, exec (.replicaResync d) s = .next u ∧ replicaOf u d.val = .sync ∧
      (∀ e, e ≠ d.val → replicaOf u e = replicaOf s e) ∧ u.sun.stoppedEver = s.sun.stoppedEver))

/-- For the sensor that the sensor table names, no sample waiting for its ring and the sensor without one or the
Fusion Engine's master without limit and level: a trigger edge at a multiple of its period appends its time to the
sensor's unmatched triggers; a camera frame with a trigger, or with none after an earlier one, a lidar packet that
holds its timestamp, an SPI sample and a GNSS fix after a PPS edge each raise its sample number by one, count it
invalid exactly when its stamp is more than 1 microsecond after its arrival, Sundial is UNSET or a lidar's port has
no gPTP synchronisation, and join the samples for the next snapshot with the stamp that R272 and R273 give only when
they are neither invalid, stale nor corrupt; no other sensor's record changes, nor do the sections in force and the
Maze. -/
def Obligations.SensorSamples : Prop :=
  let kept (s u : State) (i : Nat) : Prop := (∀ j, j ≠ i → sensorOf u j = sensorOf s j) ∧ u.fe.config = s.fe.config ∧ u.mz = s.mz
  let taken (s u : State) (i stamp arrival : Nat) (bad corrupt : Bool) : Prop :=
    let x := sensorOf s i
    let y := sensorOf u i
    let invalid := bad || decide (arrival + 1000 < stamp) || s.sun.state == .unset
    let stale := !invalid && decide (stField s i 4 4 * 1000 < arrival - stamp)
    kept s u i ∧ y.n = x.n + 1 ∧ y.invalid = (if invalid then satInc x.invalid else x.invalid) ∧
      y.stale = (if stale then satInc x.stale else x.stale) ∧
      y.samples = (if invalid || stale || corrupt then x.samples else (stamp, arrival, x.n) :: x.samples)
  let goes (s : State) (i : Nat) : Prop := s.fe.held = [] ∧
    (allZero (ringEntry s i) = true ∨ (s.part.masters[(2 : Fin 6)].limit = 0xFFFFFFFF ∧ s.part.levels = []))
  (∀ (s : State) (p : Fin 16) (t i : Nat), sensorsWhere s (fun j => isCamera (stType s j) && stField s j 1 1 == p.val &&
      t % (stField s j 12 4 * 1000) == 0) = [i] →
    ∃ u, exec (.cameraTrigger p t) s = .next u ∧ (sensorOf u i).pendTrig = (sensorOf s i).pendTrig ++ [t] ∧
      tabGet 0 u.sun.triggers p.val = t ∧ kept s u i) ∧
  (∀ (s : State) (f : CameraSample) (i p : Nat), (sensorsWhere s (fun j => isCamera (stType s j) &&
      stField s j 1 1 == f.port.val && stField s j 2 1 == f.channel.toNat)).head? = some i →
    (sensorOf s i).pendTrig.find? (fun q => decide (q ≤ f.frameStart) && decide (f.frameStart - q ≤ stField s i 4 4 * 1000)) =
      some p → goes s i →
    ∃ u, exec (.cameraFrame f) s = .next u ∧
      taken s u i ((p : Int) + signedOf 32 (stField s i 8 4) + timeOffset s i).toNat f.arrival false f.corrupt) ∧
  (∀ (s : State) (f : CameraSample) (i p : Nat), (sensorsWhere s (fun j => isCamera (stType s j) &&
      stField s j 1 1 == f.port.val && stField s j 2 1 == f.channel.toNat)).head? = some i →
    (∀ q ∈ (sensorOf s i).pendTrig, f.frameStart < q ∨ stField s i 4 4 * 1000 < f.frameStart - q) →
    (sensorOf s i).lastStamp = some p → goes s i →
    ∃ u, exec (.cameraFrame f) s = .next u ∧ taken s u i p f.arrival false f.corrupt ∧
      (sensorOf u i).frozen = satInc (sensorOf s i).frozen) ∧
  (∀ (s : State) (k : LidarSample) (i : Nat), s.rs.reduced = false →
    (sensorsWhere s (fun j => stType s j == 3 && stField s j 1 1 == k.port.val && stField s j 22 2 == k.udpPort.toNat)).head? =
      some i → stField s i 24 2 + 10 ≤ k.payload.length → goes s i →
    let o := stField s i 24 2
    ∃ u, exec (.lidarPacket k) s = .next u ∧ taken s u i
      (((beNat (slice k.payload o 6) * 1000000000 + beNat (slice k.payload (o + 6) 4) : Nat) : Int) + timeOffset s i).toNat
      k.arrival (!(k.gptpSynced && s.sun.gptpSync.getLsbD k.port.val)) false) ∧
  (∀ (s : State) (p : Fin 4) (b : List Byte) (e a i : Nat), (sensorsWhere s (fun j =>
      (stType s j == 4 || stType s j == 6) && stField s j 1 1 == p.val)).head? = some i →
    goes s i →
    ∃ u, exec (.spiDataReady p b e a) s = .next u ∧ taken s u i ((e : Int) + timeOffset s i).toNat a false false) ∧
  (∀ (s : State) (b : List Byte) (a e i : Nat), (sensorsWhere s (fun j => stType s j == 5)).head? = some i →
    s.sun.ppsStamp = some e → goes s i →
    ∃ u, exec (.gnssFix b a) s = .next u ∧ taken s u i ((e : Int) + timeOffset s i).toNat a false false)

/-- With a snapshot taken, the Fusion Engine running, no outputs of an earlier cycle left and no limit or level on
its master, a publication sets FE_STATUS.CYCLE to the cycle's number, ends the snapshot, adds one, limited at all-
ones, to the object OUT_SYNC_ID and changes no other object, clears the cycle's events of every sensor, gives
Belvedere A a status record of 512 bytes that begins with the cycle's number and time and that, with no memory error
present, stands at the record's address of the cycle where that is present LPDDR6 within reach, and, with the Maze
die in service, completes an epoch of at most 8,192 records whose number is one more than the newest in a bank that
is not BOUND; the bank that is BOUND keeps its state, epoch and records. While its master's count pauses before the
first request left, a publication writes nothing. -/
def Obligations.FusionCyclePublication : Prop :=
  (∀ (s : State) (inp : FusionInput) (t tc : Nat), s.fe.state = 2 → s.fe.snapAt = some tc → s.fe.outgoing = none →
    s.part.masters[(2 : Fin 6)].limit = 0xFFFFFFFF → s.part.levels = [] →
    let id := outField s 24 2
    let a := outField s 16 6 + tc / 1000000 % 2 * 512
    ∃ u, exec (.fusionPublish inp t) s = .next u ∧ u.fe.snapAt = none ∧ u.fe.outgoing = none ∧
      u.fe.cycle = BitVec.ofNat 32 (tc / 1000000) ∧
      (syncGet u id).toNat = min (2 ^ 32 - 1) ((syncGet s id).toNat + 1) ∧ (∀ j, j ≠ id → syncGet u j = syncGet s j) ∧
      (∀ i, (sensorOf u i).evLate = 0 ∧ (sensorOf u i).evStale = 0 ∧ (sensorOf u i).evFrozen = 0 ∧
        (sensorOf u i).evInvalid = 0) ∧
      u.bv.fusionRecord.length = 512 ∧ u.bv.fusionRecord.take 16 = leBytes 8 (tc / 1000000) ++ leBytes 8 tc ∧
      (Clean s → inp.unreadable = [] → a < 0x20_0000_0000 → masterReaches s 2 a 256 = true → masterReaches s 2 (a + 256) 256 = true →
        memReads u.mem a 512 = u.bv.fusionRecord) ∧
      (∀ b : Fin 2, (worldBankOf s b).state = 3 → (worldBankOf s (1 - b)).state ≠ 3 → worldBankOf u b = worldBankOf s b) ∧
      (dieState s 5 = .service → u.mz.newest = s.mz.newest + 1 ∧ ∃ b : Fin 2, (worldBankOf u b).state = 2 ∧
        (worldBankOf u b).epoch = s.mz.newest + 1 ∧ (worldBankOf u b).count ≤ 8192 ∧
        (worldBankOf u b).speed = inp.speed ∧ (worldBankOf u b).cycle = tc / 1000000) ∧
      (dieState s 5 ≠ .service → u.mz = s.mz) ∧ u.gh.queues = s.gh.queues) ∧
  (∀ (s : State) (inp : FusionInput) (t : Nat) (o : Outgoing) (r : Nat × List Byte) (l : List (Nat × List Byte)),
    s.fe.outgoing = some o → o.requests = r :: l → masterPaused s 2 r.1 = true →
    exec (.fusionPublish inp t) s = .next (atTime t s))

/-- The opening of a window binds the newest complete epoch and starts the program at step 0, and a consistent read
of the machine state becomes the state used; a PASS gives every edge of its range a state, BLOCKED where the limits
mask it, and no other edge; a SEARCH expands at most its limit of nodes and holds the chain it finds; SKIP-IF-FOUND
skips its steps exactly when a chain is held; a PASS that meets an uncorrectable word of the store ends the program
without a chain; the program's end and the window's close release the bank and end the stage, giving every watchdog
of the Maze's window its completion, the close counting in MZ_CLOSED and stamped with its own instant; before
section 0x01 takes effect, and while the package sleeps, there is neither publication nor commit; publication opens
once a cycle, and rechecks, also where a timing fault has fixed the result, only when a newer epoch has additions,
is complete and time is left, without time giving up the chain; a recheck counts, checks the newer epoch and never
finds a chain of its own; a commit whose regulator pauses its first request writes nothing and waits; with no pause
it counts its result by its status and is sent to Belvedere B with a completion event; on an enabled plan queue with
room it makes its item done with that status, a full queue sets PLAN_DROP, and one that is not enabled gets no item.
-/
def Obligations.MazeCycleSteps : Prop :=
  (∀ (s : State) (t : Nat) (bad : MazeUpset) (between : List StateWrite) (w : Window), windowOfKind s 3 = some w →
    mazeIdle s = false → s.mz.opened = none → s.mz.bound = none → opensAt s w ≤ max s.sun.ns t →
    max s.sun.ns t < closesAt s w →
    ∃ u, exec (.mazeWindowOpen t ⟨bad, between⟩) s = .next u ∧ u.mz.opened = some (max s.sun.ns t) ∧ u.mz.state = 2 ∧
      u.mz.pc = 0 ∧ u.mz.bound = newestBank s ∧ (∀ b, newestBank s = some b → (worldBankOf u b).state = 3 ∧
        u.mz.newer = false ∧ u.mz.checkSpeed = (worldBankOf s b).speed) ∧ u.gh = s.gh ∧ u.sync = s.sync ∧
      (let a := mzParam s 8 6
       let r := paReads s a 64
       Clean s → masterReaches s 3 a 64 = true → masterPaused s 3 a = false → field r 0 4 = field r 60 4 →
         ∃ m, u.mz.used = some m ∧ m.seq.toNat = field r 0 4 ∧ m.region = field r 4 1 ∧ m.stamp = field r 8 8 ∧
           m.curvature.toNat = field r 16 2 ∧ m.articulation.toNat = field r 18 2 ∧ m.masks.toNat = field r 20 8 ∧
           (m.stamp + mzParam s 16 4 * 1000 < s.mz.cycleAt → u.mz.stale = true))) ∧
  (∀ (s : State) (bad : MazeUpset) (st : List Byte) (b : Fin 2) (m : MachineState), s.mz.running = true →
    programStep s = some st → field st 0 1 = 1 → s.mz.bound = some b → s.mz.used = some m →
    let s0 := upsetWords s bad
    let n := regionEdges s m.region
    let lo := min (field st 2 2) n
    let hi := min (field st 2 2 + min (field st 4 4) (passCap s)) n
    let broken := programBad s0 || edgesBad s0 m.region lo hi 0 96
    ∃ u, exec (.mazePass bad) s = .next u ∧ u.gh = s.gh ∧ u.sync = s.sync ∧ u.mem = s.mem ∧
      (broken = true → u.mz.running = false ∧ u.mz.chain = none ∧ u.mz.edges = s.mz.edges) ∧
      (broken = false → u.mz.pc = s.mz.pc + 1 ∧ u.mz.chain = s.mz.chain ∧
        (∀ e, lo ≤ e → e < hi → tabGet .unchecked u.mz.edges e ≠ .unchecked ∧
          (edgeMasked m (edgeRecord s m.region e) = true → tabGet .unchecked u.mz.edges e = .blocked)) ∧
        (∀ e, e < lo ∨ hi ≤ e → tabGet .unchecked u.mz.edges e = tabGet .unchecked s.mz.edges e))) ∧
  (∀ (s : State) (st : List Byte) (m : MachineState), s.mz.running = true → programStep s = some st → field st 0 1 = 2 →
    s.mz.used = some m → programBad s = false →
    let r := m.region
    let x := searchLoop s r (field st 1 1) (field st 2 2) ⟨[(0, ⟨0, 0, 0⟩)], [0], [], 0, none⟩
    searchBad s r (field st 1 1) (x.found.isNone && bit (field st 8 4) 0) x = false →
    ∃ u, exec .mazeSearch s = .next u ∧ u.mz.pc = s.mz.pc + 1 ∧ u.mz.edges = s.mz.edges ∧ u.gh = s.gh ∧ u.mem = s.mem ∧
      x.expanded ≤ field st 2 2 ∧
      (∀ n, x.found = some n → u.mz.chain = some ⟨pathTo s r x 64 n, BitVec.ofNat 32 (reachedG x n), x.expanded, false⟩) ∧
      (x.found = none → (bit (field st 8 4) 0 = false ∨ partialNode s r (field st 4 4) x = none) →
        u.mz.chain = s.mz.chain) ∧
      (∀ n, x.found = none → bit (field st 8 4) 0 = true → partialNode s r (field st 4 4) x = some n →
        u.mz.chain = some ⟨pathTo s r x 64 n, BitVec.ofNat 32 (reachedG x n), x.expanded, true⟩)) ∧
  (∀ (s : State) (st : List Byte), s.mz.running = true → programStep s = some st → field st 0 1 = 3 → programBad s = false →
    ∃ u, exec .mazeSkipIfFound s = .next u ∧ u.gh = s.gh ∧ u.mem = s.mem ∧ u.mz.chain = s.mz.chain ∧
      u.mz.pc = s.mz.pc + (if s.mz.chain.isSome then 1 + field st 1 1 else 1)) ∧
  (∀ (s : State) (t o : Nat), s.mz.opened = some o →
    let ended (c : Instr) (at_ stamp : Nat) (closed : BitVec 16) : Prop := ∃ u, exec c s = .next u ∧ u.mz.running = false ∧
      u.mz.opened = none ∧ u.mz.state = 1 ∧ u.mz.closed = closed ∧
      (∀ b, s.mz.bound = some b → (worldBankOf u b).state ≠ 3) ∧
      u.mz.programMax.toNat = max s.mz.programMax.toNat (min (at_ - o) 0xFFFFFFFF) ∧ u.mz.chain = s.mz.chain ∧
      u.gh = s.gh ∧ u.sync = s.sync ∧ u.mem = s.mem ∧ (∀ e ∈ s.bv.stages, e ∈ u.bv.stages) ∧
      (∀ v : WindowId, (s.part.schedule[v]).kind = 3 → (s.bv.wd[v]).on = true → (v, stamp, 5) ∈ u.bv.stages)
    ((s.mz.running = false ∨ ∃ st, programStep s = some st ∧ field st 0 1 = 4) →
      ended (.mazeEnd t) (max s.sun.ns t) (replicaTime (atTime t s) 5) s.mz.closed) ∧
    (∀ w, windowOfKind s 3 = some w → closesAt s w ≤ max s.sun.ns t →
      ended (.mazeWindowClose t) (closesAt s w) (closesAt s w) (satInc s.mz.closed))) ∧
  (∀ (s : State) (t : Nat), resultsDue s = false →
    exec (.publicationOpen t) s = .next (atTime t s) ∧ exec (.planCommit t) s = .next (atTime t s)) ∧
  (∀ (s : State) (t : Nat) (w : Window), windowOfKind s 4 = some w → resultsDue s = true → s.mz.publishing = false →
    opensAt s w ≤ max s.sun.ns t → s.mz.committed ≠ some (cycleNo s) →
    ∃ u, exec (.publicationOpen t) s = .next u ∧ u.mz.publishing = true ∧ u.mz.state = 3 ∧ u.gh = s.gh ∧ u.sync = s.sync ∧
      u.mem = s.mem ∧
      (s.mz.newer = false ∨ s.mz.bound = none ∨ noStops s = true → u.mz.rechecking = false ∧
        u.mz.chain = s.mz.chain ∧ u.mz.bound = s.mz.bound) ∧
      (∀ b, s.mz.bound = some b → s.mz.newer = true → noStops s = false →
        let short := decide (closesAt s w - max s.sun.ns t < (mzParam s 20 2 + 8) * 1000)
        (short = true → u.mz.rechecking = false ∧ u.mz.chain = none ∧ u.mz.bound = s.mz.bound) ∧
        (∀ d, short = false → newestBank s = some d → u.mz.rechecking = true ∧ u.mz.bound = some d ∧
          u.mz.newer = false ∧ u.mz.chain = s.mz.chain))) ∧
  (∀ (s : State) (t : Nat) (bad : MazeUpset) (b : Fin 2), s.mz.rechecking = true → s.mz.bound = some b →
    ∃ u, exec (.recheckPass t bad) s = .next u ∧ u.mz.recheck = satInc s.mz.recheck ∧ u.mz.rechecked = true ∧
      u.mz.checkEpoch = (worldBankOf s b).epoch ∧ (u.mz.chain = none ∨ u.mz.chain = s.mz.chain) ∧ u.gh = s.gh ∧
      u.sync = s.sync ∧ u.mem = s.mem) ∧
  (∀ (s : State) (t : Nat) (q : QueueId), resultsDue s = true → s.mz.planQueue = some q → s.mz.publishing = true →
    s.mz.rechecking = false → s.mz.committed ≠ some (cycleNo s) → s.mz.slotSent = 0 → s.mz.slotHeld = none → Clean s →
    let at_ := s.mz.resultBase.toNat + cycleNo s % 16 * 1024
    let m := s.part.masters[(3 : Fin 6)]
    (masterReaches s 3 at_ 1024 = true → masterPaused s 3 (at_ + 256) = true → ∃ u, exec (.planCommit t) s = .next u ∧
      u.mz.slotHeld.isSome = true ∧ u.mz.slotSent = 0 ∧ u.mz.publishing = true ∧ u.mz.committed = s.mz.committed ∧
      u.mem = s.mem ∧ u.gh = s.gh ∧ u.bv.commit = s.bv.commit) ∧
    (masterReaches s 3 at_ 1024 = false ∨
        m.limit = 0xFFFFFFFF ∧ (∀ k, k < 4 → levelPauses m.cls (queueLevel s (at_ + 256 * k)) = false) →
    let st := (s.mz.fixed.map (fun r => r.2)).getD (selectResult s).status
    let x := queueOf s q
    ∃ u, exec (.planCommit t) s = .next u ∧ u.mz.committed = some (cycleNo s) ∧ u.mz.publishing = false ∧
      u.mz.lastCycle = BitVec.ofNat 32 (cycleNo s) ∧ u.bv.commit.isSome = true ∧ u.sync = s.sync ∧
      u.mz.trajectory = (if st = 0 then satInc s.mz.trajectory else s.mz.trajectory) ∧
      u.mz.held = (if st = 1 then satInc s.mz.held else s.mz.held) ∧
      u.mz.maxDecel = (if st ≠ 0 ∧ st ≠ 1 then satInc s.mz.maxDecel else s.mz.maxDecel) ∧
      (∀ v : WindowId, (s.part.schedule[v]).kind = 4 → (s.bv.wd[v]).on = true →
        (v, replicaTime (atTime t s) 5, 5) ∈ u.bv.stages) ∧
      (x.enable = false → u.gh = s.gh) ∧
      (x.enable = true → kilnsIn s ≠ [] → ghRuns s = true → ringSize x ≤ queueLive s q →
        (queueOf u q).planDrop = true ∧ u.gh.items = s.gh.items) ∧
      (x.enable = true → kilnsIn s ≠ [] → ghRuns s = true → queueLive s q < ringSize x →
        findItem s ⟨q, x.nextSeq⟩ = none →
        (findItem u ⟨q, x.nextSeq⟩).map (fun y => (y.plan, y.stage, y.verdict)) =
          some (true, .done, some (st, BitVec.ofNat 32 (cycleNo s % 16))))))

/-- Each event that the manual gives a cause raises that cause in an island that is not held in reset, takes no
cause away and leaves both outputs of the island low, a supply fault naming its rail; a spacing of boundaries within
limits is only noted; the reset input restarts the island and, while low, drives its SAFE0 low; heartbeats, a miss
starting the count again, the end of an oscillator fault and a release by its key clear the causes they name and no
others; the Gatehouse's silence is judged in S0 only, from 300 µs after a return on, and the spacing of boundaries
not in S3 and S4 nor up to the second boundary after a return; an island in reset lets all of these pass but what
its pins and supervisors show; a wrong release or stop frame counts and changes no cause; a held-stop frame carries
the held stop's KIND; the watchdog takes the earliest completion event of its window: one in time is judged and
nothing else changes, one early counts a timing fault; so does a deadline by which no event came, and a deadline
after a judgement does nothing. -/
def Obligations.IslandsAndWatchdogs : Prop :=
  let raised (s u : State) (i : Island) (n : Nat) : Prop := holdsCause u i n = true ∧
    (∀ j k, holdsCause s j k = true → holdsCause u j k = true) ∧ u.bv.pins.getLsbD (2 * islandNo i) = false ∧
    u.bv.pins.getLsbD (2 * islandNo i + 1) = false
  let raises (s : State) (c : Instr) (i : Island) (n : Nat) : Prop :=
    ∃ u, exec c s = .next u ∧ raised s u i n ∧ u.gh = s.gh ∧ u.mz = s.mz ∧ u.sync = s.sync
  (∀ (s : State) (i : Island),
    raises s (.islandOscillatorFault i) i 8 ∧
    (∃ u, exec (.islandSupplyFault i) s = .next u ∧ raised s u i 7 ∧ Rail.island i ∈ u.rs.railsOut ∧ u.gh = s.gh ∧
      u.mz = s.mz ∧ u.sync = s.sync) ∧
    ((islandOf s i).inReset = false →
      raises s (.lockstepMismatch i) i 2 ∧ raises s (.peerHeartbeatLoss i) i 6 ∧
      (i = .b → raises s (.peerHeartbeatLoss .b) .b 10) ∧
      (i = .a → judgesHeartbeat s = true → raises s .gatehouseHeartbeatLoss .a 11) ∧
      (s.pw.sleepState.toNat < 3 → s.bv.resuming = 0 → s.bv.lastBoundary.isSome = true →
        raises s (.boundaryTimeout i .missing) i 3 ∧
        (∀ ns, spacingOdd (islandOf s i).trimmed ns = true → raises s (.boundaryTimeout i (.measured ns)) i 3) ∧
        (∀ ns, spacingOdd (islandOf s i).trimmed ns = false → ∃ u, exec (.boundaryTimeout i (.measured ns)) s = .next u ∧
          islandOf u i = { islandOf s i with spacing := some ns } ∧ (∀ j, j ≠ i → islandOf u j = islandOf s j)))) ∧
    ((islandOf s i).inReset = true → exec (.lockstepMismatch i) s = .next s ∧ exec (.peerHeartbeatLoss i) s = .next s ∧
      (∀ m, exec (.islandHeartbeat ⟨i, m⟩) s = .next s) ∧ (∀ m, exec (.boundaryTimeout i m) s = .next s) ∧
      (∀ id b, exec (.stopRequestFrame i id b) s = .next s) ∧ (i = .a → exec .gatehouseHeartbeatLoss s = .next s) ∧
      (i = .b → exec .heldStopFrame s = .next s)) ∧
    (∀ c b, canOn s i = some c → canSends s i = true →
      (2 ≤ b.length → field b 0 2 = 0x5AA5 → ∀ id : BitVec 29, id.toNat = c.stop.toNat → raises s (.stopRequestFrame i id b) i 4) ∧
      ((b.length < 2 ∨ field b 0 2 ≠ 0x5AA5) → ∀ id : BitVec 29, id.toNat = c.stop.toNat →
        exec (.stopRequestFrame i id b) s = .next { s with bv := { s.bv with stopReject := satInc s.bv.stopReject } })) ∧
    exec .gatehouseHeartbeat s = .next s ∧
    (judgesHeartbeat s = false → exec .gatehouseHeartbeatLoss s = .next s) ∧
    (3 ≤ s.pw.sleepState.toNat ∨ 0 < s.bv.resuming → ∀ m, exec (.boundaryTimeout i m) s = .next s) ∧
    (∀ low, ∃ u, exec (.islandReset ⟨i, low⟩) s = .next u ∧
      islandOf u i = { islandOf s i with alive := [], clean := 0, spacing := none, inReset := low } ∧
      (∀ j, j ≠ i → islandOf u j = islandOf s j) ∧
      u.bv.pins.getLsbD (2 * islandNo i) = (decide ((islandOf s i).causes = 0) && !low) ∧
      u.bv.pins.getLsbD (2 * islandNo i + 1) = decide ((islandOf s i).causes = 0)) ∧
    (∀ missed, (islandOf s i).inReset = false → (islandOf s (peerOf i)).inReset = false →
      let n := if missed = true then 1 else min 100 ((islandOf s i).clean + 1)
      ∃ u, exec (.islandHeartbeat ⟨i, missed⟩) s = .next u ∧ (islandOf u i).clean = n ∧
        (∀ k, k ≠ 6 → holdsCause u i k = holdsCause s i k) ∧
        holdsCause u i 6 = (holdsCause s i 6 && decide (n < 100)) ∧ (∀ j, j ≠ i → islandOf u j = islandOf s j)) ∧
    (∃ u, exec (.islandOscillatorRestored i) s = .next u ∧ holdsCause u i 8 = false ∧
      (∀ k, k ≠ 8 → holdsCause u i k = holdsCause s i k) ∧ (∀ j, j ≠ i → islandOf u j = islandOf s j)) ∧
    (∀ (c : Fin 4) (off : Bool), ∃ u, exec (.canBusOff c off) s = .next u ∧ u.bv.busOff.getLsbD c.val = off ∧
      (∀ d : Fin 4, d ≠ c → u.bv.busOff.getLsbD d.val = s.bv.busOff.getLsbD d.val) ∧ u.bv.a = s.bv.a ∧ u.bv.b = s.bv.b)) ∧
  (∀ (s : State) (f : FnId) (v : Word32), hostReaches s f = true →
    (let left (x : IslandState) (n : Nat) : BitVec 16 :=
       let c := if v.getLsbD n = true ∧ x.inReset = false then x.causes &&& ~~~ 0x0C3E#16 else x.causes
       if v.getLsbD 18 = true ∧ s.bv.inject.getLsbD 0 = true then c &&& ~~~ 1#16 else c
     f = 0 → bits v.toNat 15 0 = 0xA5C3 → ∃ u, exec (.safeRelease f v) s = .next u ∧
      u.bv.a.causes = left s.bv.a 16 ∧ u.bv.b.causes = left s.bv.b 17 ∧ u.bv.releaseReject = s.bv.releaseReject ∧
      u.gh = s.gh ∧ u.mz = s.mz) ∧
    (f ≠ 0 ∨ bits v.toNat 15 0 ≠ 0xA5C3 → exec (.safeRelease f v) s =
      .next { s with bv := { s.bv with releaseReject := satInc s.bv.releaseReject } })) ∧
  (∀ (s : State) (c : CanConfig), canOn s .b = some c → canSends s .b = true → heldFrames s = true →
    ∃ u f, exec .heldStopFrame s = .next u ∧ u.bv.frames = f :: s.bv.frames ∧ f.island = .b ∧ f.ident = c.result ∧
      f.data.length = 32 ∧ field f.data 4 1 = (heldStop s).1 ∧ u.bv.b.causes = s.bv.b.causes ∧ u.bv.a = s.bv.a) ∧
  (∀ (s : State) (w : WindowId) (t : Nat), s.bv.stages.find? (fun e => e.1 == w) = none →
    exec (.watchdogCompletion w t) s = .next (atTime t s)) ∧
  (∀ (s : State) (w : WindowId) (b t : Nat), s.bv.lastBoundary = some b → watched s w = true →
    s.bv.judged.getLsbD w.val = false → (islandOf s (watchIsland s w)).inReset = false →
    let e := s.bv.wd[w]
    let m := BitVec.ofNat 8 (2 ^ w.val)
    let s0 := atTime t s
    (∀ ev, s.bv.stages.find? (fun x => x.1 == w) = some ev → b ≤ judgedStamp s0 ev → judgedStamp s0 ev < b + 1000000 →
      judgedStamp s0 ev ≤ b + e.closeUs * 1000 →
      (b + e.openUs * 1000 ≤ judgedStamp s0 ev → exec (.watchdogCompletion w t) s =
        .next { s0 with bv := { s0.bv with stages := s.bv.stages.erase ev, judged := s.bv.judged ||| m } }) ∧
      (judgedStamp s0 ev < b + e.openUs * 1000 →
        ∃ u, exec (.watchdogCompletion w t) s = .next u ∧ raised s u (watchIsland s w) 1 ∧
          u.bv.stages = s.bv.stages.erase ev ∧ u.bv.judged = s.bv.judged ||| m ∧
          u.bv.wdEarly = s.bv.wdEarly ||| m ∧ u.bv.wdLate = s.bv.wdLate ∧ u.bv.wdCount = satInc s.bv.wdCount ∧
          u.gh = s.gh)) ∧
    (s.bv.owed.getLsbD w.val = false → s.bv.stages.find? (fun x => x.1 == w) = none →
      b + e.closeUs * 1000 + 200 ≤ max s.sun.ns t →
      ∃ u, exec (.watchdogDeadline w t) s = .next u ∧ raised s u (watchIsland s w) 1 ∧
        u.bv.wdLate = s.bv.wdLate ||| m ∧ u.bv.wdEarly = s.bv.wdEarly ∧ u.bv.wdCount = satInc s.bv.wdCount ∧
        u.bv.judged = s.bv.judged ||| m)) ∧
  (∀ (s : State) (w : WindowId) (b t : Nat), s.bv.lastBoundary = some b → s.bv.judged.getLsbD w.val = true →
    s.bv.owed.getLsbD w.val = false → s.bv.stages.find? (fun x => x.1 == w) = none →
    exec (.watchdogDeadline w t) s = .next (atTime t s))

/-- The first signature of a point waits; the second within 50 microseconds passes when equal, counting and sending
the primary's held effects, and fails when different or late, sending none; a golden reservation takes the tiles of
its dies, shared with another window's or not, a golden run writes its patch and is posted to its reserved tile; a
start-up test, which runs only while both islands run, clears START_UP when it passes, an idle Maze's cause then
held, and leaves it when it fails; a segment of a tile or of a checker bank starts, aborts or ends with its counts;
a passed targeted test gives its unit back, a failed one lists it as fenced; a first report opens its aggregator's
epoch, a later one counts, one after the epoch's end opens the next, and the close keeps the record as the newest in
its island's memory. -/
def Obligations.PairsGoldenRunsTestsAndReports : Prop :=
  (∀ (s : State) (w : InstanceId) (t : Nat) (i : Inst) (n : Nat) (sig : Word64), findInst s w = some i → i.golden = false →
    ((findItem s w.item).map (fun x => x.paired)).getD false = true → nextSignature s i = some (n, sig) →
    let other (e : PairPoint) : Bool := e.inst == { w with second := !w.second } && e.point == n
    let ns := max s.sun.ns t
    (s.bv.points.find? other = none → ∃ u, exec (.pairSignature w t) s = .next u ∧
      u.bv.points = s.bv.points ++ [⟨w, n, sig, ns⟩] ∧ u.sync = s.sync ∧ u.bv.pairChecked = s.bv.pairChecked) ∧
    (∀ e, s.bv.points.find? other = some e →
      (ns ≤ e.time + 50000 → e.sig = sig → ∃ u, exec (.pairSignature w t) s = .next u ∧
        u.bv.pairChecked = satInc s.bv.pairChecked ∧ u.bv.pairMismatch = s.bv.pairMismatch ∧
        u.sync.waiting = s.sync.waiting ++ (s.bv.held.filter (fun h => h.inst == { w with second := false })).map (fun h => h.op) ∧
        u.bv.points = s.bv.points.filter (fun y => !other y)) ∧
      (ns ≤ e.time + 50000 → e.sig ≠ sig → ∃ u, exec (.pairSignature w t) s = .next u ∧
        u.bv.pairMismatch = satInc s.bv.pairMismatch ∧ u.bv.pairTimeout = s.bv.pairTimeout ∧ u.bv.pairValid = true ∧
        u.sync = s.sync) ∧
      (e.time + 50000 < ns → ∃ u, exec (.pairSignature w t) s = .next u ∧ u.bv.pairTimeout = satInc s.bv.pairTimeout ∧
        u.bv.pairMismatch = s.bv.pairMismatch ∧ u.bv.pairValid = true ∧ u.sync = s.sync))) ∧
  (∀ (s : State) (i : ItemId) (n t : Nat) (e : PairPoint), s.bv.points.find? (fun e => e.inst.item == i && e.inst.index == n &&
      decide (e.time + 50000 ≤ max s.sun.ns t)) = some e →
    ∃ u, exec (.pairTimeout i n t) s = .next u ∧ u.bv.pairTimeout = satInc s.bv.pairTimeout ∧ u.bv.pairValid = true ∧
      u.sync = s.sync) ∧
  (∀ (s : State) (w : WindowId) (t : Nat), (s.part.schedule[w]).kind = 5 → ghRuns s = true →
    ∃ u, exec (.goldenReserve w t) s = .next u ∧ (∀ e ∈ s.bv.reserved, e ∈ u.bv.reserved) ∧
      u.gh.contexts = s.gh.contexts ∧ u.gh.queues = s.gh.queues ∧
      (∀ k ∈ kilns, leadRuns (atTime t s) s.part.schedule[w] k = true → ∀ tl ∈ reserveTiles s k (s.part.schedule[w]).reserve,
        (w, tl) ∈ u.bv.reserved)) ∧
  (∀ (s : State) (i : ItemId) (w : WindowId) (t : Nat) (x : Item) (e : GoldenEntry) (tl : TileId) (slot : Byte),
    let s0 := atTime t s
    let c := dCtx x.desc
    findItem s i = some x → (s.part.schedule[w]).kind = 5 → s.part.openMask.getLsbD w.val = true →
    (s.part.schedule[w]).cls = (ctxOf s c).cls → (ctxOf s c).state = .ready → ghRuns s = true → x.golden = .due →
    goldenEntry s c = some e → goldenTile s0 w (ctxOf s c).home = some tl → x.accepted < openedAt s0 w →
    freeSlot s c = some slot → Clean s →
    ∃ u, exec (.goldenRun i w t) s = .next u ∧ (findItem u i).map (fun y => y.golden) = some (.running w) ∧
      (findInst u ⟨i, 0xFFFF, false⟩).isSome = true ∧
      (tileOf u tl).next = some ⟨some ⟨i, 0xFFFF, false⟩, c, slot, none⟩ ∧ (tileOf u tl).state = .waiting ∧ u.sync = s.sync ∧
      (∀ p, e.elem ≤ 16 → boundShelf s c false e.shelf = some p →
        (∀ b, boundShelf s c b (ctxOf s c).seedShelf ≠ some p) →
        memReads u.mem (shelfBase p) (patchLen e) = patchBytes s e)) ∧
  (∀ (s : State) (o : StartupOutcome) (t : Nat), islandsRun s = false → exec (.startupTest o t) s = .next s) ∧
  (∀ (s : State) (o : StartupOutcome) (t : Nat), s.bv.inject.getLsbD 0 = false → islandsRun s = true →
    (failedBits o (o.tiles.filter (tileIn s)).length = 0 → ∃ u, exec (.startupTest o t) s = .next u ∧ u.bv.inject = 3 ∧
      holdsCause u .a 0 = false ∧ holdsCause u .b 0 = false ∧ (mazeIdle s = true → holdsCause u .b 9 = true) ∧ u.tl = s.tl ∧ u.gh = s.gh) ∧
    (failedBits o (o.tiles.filter (tileIn s)).length ≠ 0 → ∃ u, exec (.startupTest o t) s = .next u ∧
      u.bv.inject.getLsbD 0 = true ∧ u.bv.inject.getLsbD 1 = false ∧ (∀ i, holdsCause u i 0 = holdsCause s i 0))) ∧
  (∀ (s : State) (tl : TileId) (t : Nat),
    let s0 := atTime t s
    let x := tileOf s tl
    let old := decide (x.tested + 80000000 ≤ now s0)
    let len := segmentNs (kilnPower s (tileDie tl)).level.toNat
    let same (u : State) : Prop := (∀ v, v ≠ tl → tileOf u v = tileOf s v) ∧ u.gh = s.gh
    (tileIn s tl = true → tileFree s tl = true → x.testing = false →
      len + 20000 ≤ nextOpening s0 →
      ((readyAll s0).isEmpty = true ∨ old = true ∧ (readyAll s0).all (fun r => (ctxOf s (dCtx r.item.desc)).cls == .qm) = true) →
      ∃ u, exec (.selftestSegmentStart (.tile tl) t) s = .next u ∧ (tileOf u tl).state = .selfTest ∧
        (tileOf u tl).segAt = max s.sun.ns t ∧ same u) ∧
    (x.state = .selfTest → (openedSince s0 x.segAt || criticalWaits s0) = true →
      ∃ u, exec (.selftestSegmentAbort (.tile tl) t) s = .next u ∧ (tileOf u tl).state = .free ∧
        (tileOf u tl).segment = x.segment ∧ u.bv.aborted = satInc s.bv.aborted ∧ same u) ∧
    (x.state = .selfTest → x.segAt + len ≤ max s.sun.ns t →
      openedSince { s0 with sun := { s0.sun with ns := x.segAt + len } } x.segAt = false →
      (∃ u, exec (.selftestSegmentEnd (.tile tl) true t) s = .next u ∧ (tileOf u tl).state = .free ∧
        (tileOf u tl).segment = x.segment + 1 ∧ (tileOf u tl).tested = (if x.segment = 3 then max s.sun.ns t else x.tested) ∧
        u.bv.segments = satInc s.bv.segments ∧ same u) ∧
      (∃ u, exec (.selftestSegmentEnd (.tile tl) false t) s = .next u ∧ (tileOf u tl).state = .free ∧
        u.bv.segments = satInc s.bv.segments ∧ u.bv.tests.any (fun r => r.unit == tileUnit tl && r.shelf == 0) = true)) ∧
    (tileIn s tl = true → x.tested + 100000000 < max s.sun.ns t →
      ∃ u, exec (.selftestLag tl t) s = .next u ∧ u.bv.lag = true ∧ u.bv.lagTile = BitVec.ofNat 8 tl.val ∧ u.gh = s.gh)) ∧
  (∀ (s : State) (b : Fin 2) (t : Nat),
    let s0 := atTime t s
    let begun := tabGet 0 s.mz.segments b.val
    (dieState s 5 = .service → (banksIn s).contains b = true → tabHas s.mz.segments b.val = false → bankServes s0 = false →
      s.bv.tests.any (fun r => r.unit == unitId 5 5 b.val) = false → 60000 ≤ nextOfKind s0 3 → 40000 ≤ nextOfKind s0 4 →
      exec (.selftestSegmentStart (.bank b) t) s =
        .next { s0 with mz := { s0.mz with segments := tabPut s.mz.segments b.val (max s.sun.ns t) } }) ∧
    exec (.selftestSegmentAbort (.bank b) t) s = .next s0 ∧
    (tabHas s.mz.segments b.val = true → begun + 40000 ≤ max s.sun.ns t → ∀ pass, ∃ u,
      exec (.selftestSegmentEnd (.bank b) pass t) s = .next u ∧ u.mz.segments = tabDel s.mz.segments b.val ∧
      u.bv.segments = satInc s.bv.segments ∧ u.gh = s.gh ∧ (pass = true → u.bv.tests = s.bv.tests) ∧
      (pass = false → u.bv.tests.any (fun r => r.unit == unitId 5 5 b.val && r.shelf == 0) = true))) ∧
  (∀ (s : State) (unit : BitVec 16) (shelf : Byte) (t : Nat),
    let ran := (unit, shelf, (atTime t s).sun.elapsed)
    let hit (r : TestRun) : Bool := r.unit == unit && r.shelf == shelf
    s.bv.tests.any hit = true →
    (recentPasses { atTime t s with bv := { s.bv with passes := s.bv.passes ++ [ran] } } unit shelf < 4 →
      ∃ u, exec (.targetedTestEnd unit shelf true t) s = .next u ∧ u.bv.tests = s.bv.tests.filter (fun r => !hit r) ∧
        u.bv.passes = s.bv.passes ++ [ran] ∧ u.lg.fences = s.lg.fences ∧ u.gh = s.gh) ∧
    (∃ u, exec (.targetedTestEnd unit shelf false t) s = .next u ∧ (unit, shelf) ∈ u.lg.fences)) ∧
  (∀ (s : State) (d : DieId) (r : FaultReport) (t : Nat),
    let a := aggOf s d.val
    (a.isOpen = false → ∃ u, exec (.faultReport d r t) s = .next u ∧ (aggOf u d.val).isOpen = true ∧
      (aggOf u d.val).first = some r ∧ (aggOf u d.val).reports = 1 ∧ (aggOf u d.val).opened = max s.sun.ns t ∧
      (∀ e, e ≠ d.val → aggOf u e = aggOf s e) ∧ u.gh = s.gh) ∧
    (a.isOpen = true → max s.sun.ns t ≤ a.opened + 10000 → ∃ u, exec (.faultReport d r t) s = .next u ∧
      (aggOf u d.val).reports = satInc a.reports ∧ (aggOf u d.val).first = a.first ∧ (aggOf u d.val).isOpen = true ∧
      (∀ e, e ≠ d.val → aggOf u e = aggOf s e) ∧ u.gh = s.gh) ∧
    (a.isOpen = true → a.first.isSome = true → a.opened + 10000 < max s.sun.ns t →
      ∃ u, exec (.faultReport d r t) s = .next u ∧ (aggOf u d.val).isOpen = true ∧ (aggOf u d.val).first = some r ∧
        (aggOf u d.val).epoch = a.epoch + 1 ∧ (aggOf u d.val).opened = max s.sun.ns t ∧ u.gh = s.gh) ∧
    (∀ f, a.isOpen = true → a.first = some f → a.opened + 10000 ≤ max s.sun.ns t →
      let v := attribution a f
      ∃ u, exec (.faultEpochClose d t) s = .next u ∧ aggOf u d.val = { aggregatorReset with epoch := a.epoch + 1 } ∧
        (islandOf u (aggIsland d.val)).records.head? = some (faultRecord d.val a f f.injected
          (recentPasses (atTime t s) v (unitShelf v (tabGet f.detail a.details v.toNat)))) ∧
        (islandOf u (aggIsland d.val)).records.length ≤ 64 ∧ u.gh = s.gh))

/-- At an ACTIVE module a flit sent for the first time takes a place of the sender's retry buffer of 64, and waits
while there is none; one that arrives with its CRC and the expected sequence number takes that number on and leaves
the buffer, any other counts as a replay and as a failure of that flit, changes no sequence number and stays in the
buffer; a crossed error threshold retrains the module, counted in ERROR_RETRAINS, and starts its targeted test; a
training attempt takes its width from the half-groups that pass at both ends, goes on to ACTIVE, which clears
RETRAINS (CHECK while its test runs), when the patterns pass, for the Maze die's module giving back a Maze die that
was lost, for Pergola bringing up the pair unless both packages claim one role, tries again up to three times, and
ends DOWN where no half-group passes; DETECT without a partner goes DOWN; a reset sequence keeps no mask and no
retrain of earlier training, and a fenced module stays fenced. -/
def Obligations.LinksAndTraining : Prop :=
  (∀ (s : State) (m : ModuleId) (p : FlitPassage), hasModule m = true → (modEnd s m).state = 5 →
    let n := flitSeq p.sent
    let known := (sender s m).retry.any (fun l => flitSeq l == n)
    let buf := if known then (sender s m).retry else (sender s m).retry ++ [p.sent]
    (known = false → 64 ≤ (sender s m).retry.length → exec (.flitReceive m p) s = .next s) ∧
    (known = true ∨ (sender s m).retry.length < 64 →
      (flitGood (modEnd s m).seq p.got = true → ∃ u, exec (.flitReceive m p) s = .next u ∧ u = { s with ln := u.ln } ∧
        (modEnd u m).seq = ((modEnd s m).seq + 1) % 2 ^ 32 ∧
        (sender u m).retry = buf.filter (fun l => flitSeq l != (modEnd s m).seq) ∧
        tabHas (sender u m).failed (modEnd s m).seq = false ∧ (sender u m).replays = (sender s m).replays) ∧
      (flitGood (modEnd s m).seq p.got = false → ∃ u, exec (.flitReceive m p) s = .next u ∧ u = { s with ln := u.ln } ∧
        (modEnd u m).seq = (modEnd s m).seq ∧ (sender u m).retry = buf ∧
        tabGet 0 (sender u m).failed n = tabGet 0 (sender s m).failed n + 1 ∧
        (sender u m).replays = satInc (sender s m).replays))) ∧
  (∀ (s : State) (m : ModuleId) (t : Nat), hasModule m = true → (modEnd s m).state = 5 →
    overThreshold (atTime t s) m = true →
    ∃ u, exec (.linkErrorThreshold m t) s = .next u ∧ (modEnd u m).state = 2 ∧ (modEnd u m).failed = [] ∧
      (modEnd u m).errorRetrains = satInc (modEnd s m).errorRetrains ∧ (modEnd u m).retry = (modEnd s m).retry ∧
      u.bv.tests.any (fun x => x.unit == moduleUnit m) = true ∧ u.gh = s.gh ∧ u.sync = s.sync) ∧
  (∀ (s : State) (m : ModuleId) (a : TrainingAttempt) (t : Nat), mayTrain s m = true →
    let x := modEnd s m
    ∃ u, exec (.linkTraining m a t) s = .next u ∧ u.gh = s.gh ∧
      u.ms = { s.ms with generation := s.ms.generation + 2, dies := u.ms.dies } ∧ (∀ d, d ≠ 5 → dieState u d = dieState s d) ∧
      (modEnd u m).localMask = a.localMask ∧ (modEnd u m).remoteMask = a.remoteMask ∧ u.sync = s.sync ∧ u.mem = s.mem ∧
      (chosenWidth (a.localMask &&& a.remoteMask).toNat = none → (modEnd u m).state = 0 ∧ (modEnd u m).width = 0) ∧
      (∀ w, chosenWidth (a.localMask &&& a.remoteMask).toNat = some w →
        (a.patternOk = true → m ≠ .pergola ∨ x.testing = true ∨ a.partnerLeader ≠ s.ln.leader →
          (modEnd u m).state = (if x.testing then 4 else 5) ∧ (modEnd u m).width = BitVec.ofNat 2 w.1 ∧
          (modEnd u m).lanes = BitVec.ofNat 2 w.2 ∧ (modEnd u m).retrains = (if x.testing then x.retrains else 0) ∧
          (m = .trellis 5 0 → x.testing = false → dieState s 5 = .lost → dieState u 5 = .service)) ∧
        (a.patternOk = true → m = .pergola → x.testing = false →
          (a.partnerLeader = s.ln.leader → u.ln.roleErr = true ∧ u.ln.pairUp = s.ln.pairUp ∧ u.ln.pergola.state = 0) ∧
          (a.partnerLeader ≠ s.ln.leader → u.ln.pairUp = true ∧ u.ln.pairedEver = true ∧ u.ln.roleErr = s.ln.roleErr ∧
            (s.ln.leader = false → u.ln.delayNs = BitVec.ofNat 32 (a.roundTripNs / 2)))) ∧
        (a.patternOk = true → m = .pergola → x.testing = true → u.ln.claim = some (a.partnerLeader, a.roundTripNs) ∧
          u.ln.pairUp = s.ln.pairUp) ∧
        (a.patternOk = false → x.retrains.toNat < 3 → (modEnd u m).state = 1 ∧ (modEnd u m).width = 0 ∧
          (modEnd u m).retrains = x.retrains + 1) ∧
        (a.patternOk = false → 3 ≤ x.retrains.toNat → a.fallback = 0 → (modEnd u m).state = 0 ∧ (modEnd u m).stuck = true) ∧
        (a.patternOk = false → 3 ≤ x.retrains.toNat → a.fallback ≠ 0 →
          m ≠ .pergola ∨ x.testing = true ∨ a.partnerLeader ≠ s.ln.leader → (modEnd u m).width = 1 ∧
            (modEnd u m).state = (if x.testing then 4 else 5)))) ∧
  (∀ (s : State) (m : ModuleId), hasModule m = true →
    ((modEnd s m).state = 1 → ∃ u, exec (.linkDetectTimeout m) s = .next u ∧ (modEnd u m).state = 0 ∧
      u = { s with ln := u.ln, ms := { s.ms with generation := s.ms.generation + 2 } }) ∧
    ((modEnd s m).state ≠ 1 → exec (.linkDetectTimeout m) s = .next s) ∧
    (∃ u, exec (.linkResetSequence m) s = .next u ∧
      u = { s with ln := u.ln, ms := { s.ms with generation := s.ms.generation + 2 } } ∧
      ((modEnd s m).state = 7 → modEnd u m = modEnd s m) ∧
      ((modEnd s m).state ≠ 7 → (modEnd u m).state = 1 ∧ (modEnd u m).localMask = 0 ∧ (modEnd u m).remoteMask = 0 ∧
        (modEnd u m).retrains = 0 ∧ (modEnd u m).stuck = false ∧
        (modEnd u m).resetRetrains = satInc (modEnd s m).resetRetrains ∧
        (modEnd u m).errorRetrains = (modEnd s m).errorRetrains)))

/-- A Kiln die without a route to the hub is lost and holds no block any more, the Maze die without its module
raises MAZE_IDLE; the leader's time makes a non-leader PAIR_LOCKED, stepping from UNSET to the leader's time and the
link delay, but with a plan queue Sundial never steps and an UNSET one stays so; a refresh replaces the entries it
names and no other; the loss of the pair counts, makes the READY contexts that use the partner FAULTED with
ST_INPUT_LOST, and after 100 ms frees no block but the lent ones; the partner reads and writes lent blocks and
nothing else, and a request lends it a free block without moving a block of a context. -/
def Obligations.LostDiesAndThePair : Prop :=
  (∀ (s : State) (d : DieId) (t : Nat), dieState s d.val = .service →
    (d.val < 4 → (toHub s d.val).hops = 0xFF → ∃ u, exec (.dieLost d t) s = .next u ∧ dieState u d.val = .lost ∧
      (d.val < 4 → (kilnPower u (kilnId d.val)).shareW = 0) ∧
      ∀ e ∈ u.ms.blocks, e.1 < dieBase d.val ∨ dieBase d.val + 0x8_0000_0000 ≤ e.1) ∧
    (d.val < 4 → (toHub s d.val).hops ≠ 0xFF → exec (.dieLost d t) s = .next (atTime t s)) ∧
    (d.val = 5 → moduleLanes s 5 0 = 0 → ∃ u, exec (.dieLost d t) s = .next u ∧ dieState u 5 = .lost ∧
      u.mz.running = false ∧ u.mz.state = 0 ∧ holdsCause u .b 9 = true ∧ u.gh = s.gh)) ∧
  (∀ (s : State) (leader t : Nat), s.ln.pairUp = true → s.ln.leader = false → s.ln.pergola.state = 5 →
    let lead := leader + s.ln.delayNs.toNat
    ∃ u, exec (.pergolaTime leader t) s = .next u ∧ u.ln.offsetNs = pairOffset ((max s.sun.ns t : Int) - lead) ∧
      (planQueueExists s = false → u.sun.state = .pairLocked ∧ (u.sun.ns = lead ∨ u.sun.ns = max s.sun.ns t) ∧
        (s.sun.state = .unset → u.sun.ns = lead ∧ u.sun.timeSet = true)) ∧
      (planQueueExists s = true → u.sun.ns = max s.sun.ns t ∧ u.sun.timeSet = s.sun.timeSet ∧
        u.sun.state = (if s.sun.state = .unset then .unset else .pairLocked)) ∧ u.gh = s.gh ∧ u.mem = s.mem) ∧
  (∀ (s : State) (leader t : Nat), s.ln.pairUp = false ∨ s.ln.leader = true ∨ s.ln.pergola.state ≠ 5 →
    exec (.pergolaTime leader t) s = .next (atTime t s)) ∧
  (∀ (s : State) (l : List (DieId × Byte × Byte)), s.ln.pergola.state = 5 →
    ∃ u, exec (.pairTopologyRefresh l) s = .next u ∧ u = { s with ln := { s.ln with outbound := u.ln.outbound } } ∧
      ∀ d : DieId, tabGet (0, 0) u.ln.outbound d.val =
        ((l.reverse.find? (fun e => e.1 == d)).map (fun e => e.2)).getD (tabGet (0, 0) s.ln.outbound d.val)) ∧
  (∀ (s : State) (t : Nat), s.ln.pairUp = true → s.ln.pergola.state ≠ 5 →
    (s.ln.pergola.state = 2 ∨ s.ln.pergola.state = 4 → s.ln.pergola.retrainAt + 100000 < max s.sun.ns t) →
    ∃ u, exec (.pairLinkLoss t) s = .next u ∧ u.ln.pairUp = false ∧ u.ln.losses = satInc s.ln.losses ∧
      u.ln.lostAt = some (max s.sun.ns t) ∧
      ∀ c ∈ s.ln.partnerCtx, (ctxOf s c).state = .ready → (ctxOf u c).state = .faulted ∧ (ctxOf u c).firstFault = stInputLost) ∧
  (∀ (s : State) (t t0 : Nat), s.ln.lostAt = some t0 → s.ln.pairUp = false → t0 + 100000000 ≤ max s.sun.ns t →
    ∃ u, exec (.pairLendReclaim t) s = .next u ∧ u.ln.lend = [] ∧ u.ln.lostAt = none ∧ (∀ e ∈ u.ms.blocks, e.2 ≠ .lent) ∧
      (∀ a c n, (a, .owned c n) ∈ u.ms.blocks ↔ (a, .owned c n) ∈ s.ms.blocks) ∧ u.mem = s.mem ∧ u.gh = s.gh) ∧
  (∀ (s : State) (pa : Addr48) (n : Nat) (l : List Byte), s.ln.pairUp = true → packageUp s = true →
    masterPaused s 5 pa.toNat = false →
    (lentRange s pa.toNat n = false → exec (.partnerAccess pa none n) s = .next { s with lastBytes := [] }) ∧
    (lentRange s pa.toNat l.length = false → exec (.partnerAccess pa (some l) n) s = .next { s with lastBytes := [] }) ∧
    (s.ms.badGranules = [] → lentRange s pa.toNat n = true → ∃ u, exec (.partnerAccess pa none n) s = .next u ∧
      u.lastBytes = memReads s.mem pa.toNat n ∧ u.mem = s.mem ∧ u.gh = s.gh) ∧
    (s.ms.badGranules = [] → lentRange s pa.toNat l.length = true → ∃ u, exec (.partnerAccess pa (some l) n) s = .next u ∧
      memReads u.mem pa.toNat l.length = l ∧
      (∀ a, a < pa.toNat ∨ pa.toNat + l.length ≤ a → memRead u.mem a = memRead s.mem a) ∧ u.gh = s.gh ∧ u.sync = s.sync)) ∧
  (∀ (s : State) (n : Nat), s.ln.pairUp = true → packageUp s = true → 0 < n → lentBlocks s < s.ms.pairLimit.toNat →
    lendable s ≠ [] →
    ∃ u pa, exec (.partnerLendRequest n) s = .next u ∧ pa ∈ lendable s ∧ (pa, .lent) ∈ u.ms.blocks ∧ pa ∈ u.ln.lend ∧
      (∀ a c k, (a, .owned c k) ∈ s.ms.blocks → (a, .owned c k) ∈ u.ms.blocks) ∧ u.mem = s.mem ∧ u.gh = s.gh)

/-- The loss of the reference clock puts the package in reduced mode: every channel not fenced at the reduced rate,
a Kiln die at P0 one level lower and a raise to P0 cancelled, Pergola down, Sundial in HOLDOVER, also from UNSET
(log entry 161); its return sets REF_VALID alone. The loss of a die's forwarded clock, or of its rail, latches its
bits, stops its replica and loses the die, and the memory of a lost Kiln die reads as nothing written. A package
rail holds the device in reset with DEVICE of Belvedere A asserted, an island's rail raises its SUPPLY cause until
the rail is back; a device that has tripped is not let go by its rails. Package cold reset keeps fuses, flash, host
and partner memory and the queue, and returns sync objects, power registers, queues, items and contexts to reset,
with Sundial starting anew. -/
def Obligations.ClocksRailsAndColdReset : Prop :=
  (∀ (s : State) (t : Nat), ∃ u, exec (.refclkLoss t) s = .next u ∧ u.rs.refValid = false ∧ u.rs.refLost = true ∧
    u.rs.reduced = true ∧ (∀ k c, k < 4 → c < 8 → (channelOf s k c).state ≠ 1 → (channelOf u k c).reduced = true) ∧
    (u.ln.pergola.state = 0 ∨ u.ln.pergola.state = 7) ∧ u.ln.pairUp = false ∧ u.sun.state = .holdover ∧
    (∀ k : KilnId, let x := kilnPower s k
      (x.level = 0 → x.request = none → (kilnPower u k).level = 1 ∧ (kilnPower u k).request = some (false, 1)) ∧
      (x.level ≠ 0 → (kilnPower u k).level = x.level) ∧
      (x.level = 1 → ∀ l, x.request = some (true, l) → (kilnPower u k).queued = some 1))) ∧
  (∀ s : State, exec .refclkRestored s = .next { s with rs := { s.rs with refValid := true } }) ∧
  (∀ (s : State) (d : DieId) (t : Nat),
    (d.val = 4 ∨ dieState s d.val = .fenced → exec (.forwardedClockLoss d t) s = .next (atTime t s)) ∧
    (d.val ≠ 4 → dieState s d.val ≠ .fenced →
      ∃ u, exec (.forwardedClockLoss d t) s = .next u ∧ u.rs.fwdLost.getLsbD d.val = true ∧
        u.rs.clockOut.getLsbD d.val = true ∧ replicaOf u d.val = .stopped ∧ dieState u d.val = .lost ∧
        (d.val < 4 → ∀ a, dieBase d.val ≤ a → a < dieBase d.val + 0x8_0000_0000 → memRead u.mem a = 0))) ∧
  (∀ (s : State) (b : BootInput), ∃ u, exec (.coldReset b) s = .next u ∧ u.pending = s.pending ∧ u.hostMem = s.hostMem ∧
    u.partnerMem = s.partnerMem ∧ u.lg.lifecycle = s.lg.lifecycle ∧ u.lg.keyHash = s.lg.keyHash ∧
    u.lg.serial = s.lg.serial ∧ u.sync = syncReset ∧
    u.pw = { powerReset with kilns := u.pw.kilns } ∧ (∀ k, kilnPower u k = kilnReset) ∧ u.sun.ns = 0 ∧ u.gh.queues = [] ∧
    u.gh.items = [] ∧ u.gh.insts = [] ∧ u.gh.contexts = [] ∧ u.rs.held = (b.hot || !s.rs.railsOut.isEmpty) ∧
    u.rs.railsOut = s.rs.railsOut ∧ u.ln.leader = b.pairLead ∧ (u.rs.held = true → u.mem = [] ∧ u.tl = State.reset.tl)) ∧
  (∀ (s : State) (t : Nat),
    let noted (u : State) (r : Rail) : Prop := ∀ q, q ∈ u.rs.railsOut ↔ q = r ∨ q ∈ s.rs.railsOut
    (∃ u, exec (.railFault .package t) s = .next u ∧ u.rs.held = true ∧ u.rs.heldByRail = true ∧ u.hi.linkUp = false ∧
      holdsCause u .a causeDevice = true ∧ noted u .package ∧ u.gh = s.gh ∧ u.mem = s.mem) ∧
    (∀ i : Island, ∃ u, exec (.railFault (.island i) t) s = .next u ∧ holdsCause u i 7 = true ∧ u.rs.held = s.rs.held ∧
      noted u (.island i) ∧ u.gh = s.gh) ∧
    (∀ k : KilnId, s.rs.held = false → dieState s k.val ≠ .fenced → ∃ u, exec (.railFault (.kiln k) t) s = .next u ∧
      dieState u k.val = .lost ∧ noted u (.kiln k)) ∧
    (s.rs.held = false → dieState s 5 ≠ .fenced → ∃ u, exec (.railFault .maze t) s = .next u ∧ dieState u 5 = .lost ∧
      u.mz.running = false ∧ noted u .maze) ∧
    (∃ u, exec (.railFault .other t) s = .next u ∧ noted u .other ∧ u = { atTime t s with rs := u.rs })) ∧
  (∀ (s : State) (r : Rail) (b : BootInput),
    (s.rs.railsOut.contains r = false → exec (.railRestored r b) s = .next s) ∧
    (s.rs.railsOut.contains r = true → ∃ u, exec (.railRestored r b) s = .next u ∧ u.rs.railsOut = s.rs.railsOut.erase r ∧
      (s.rs.tripped = true → u.rs.held = s.rs.held) ∧
      (s.rs.held = true → s.rs.heldByRail = true → s.rs.tripped = false → s.rs.railsOut.erase r = [] →
        u.rs.held = b.hot ∧ u.sync = syncReset ∧ u.gh.contexts = []) ∧
      (s.rs.held = false → u.rs.held = false ∧ u.gh = s.gh ∧ u.mem = s.mem ∧
        ∀ i, r = .island i → holdsCause u i 7 = false)))

/-- A tile reset frees the tile and keeps its checks and every shelf's binding. A keyed partition reset takes every
context of the class to CLOSING and waits for the tiles that hold the class, each at most up to its bound, then for
its transactions; with none of either it frees every context of the class, zeroes its sync range, completes every
unpublished item of the class's queues, a plan item among them, with ST_PARTITION_RESET and reports its length; one
more while it runs is refused with RESULT 1; one that waits for transactions names the holder of the oldest
transaction as the stuck unit; after 3 ms the units' tags are purged, counted, and it ends. A hub warm reset takes
every context, instance, chain and sync object away, keeps PUBLISHED, completes what was not done with
ST_RESET_ABORTED and bars the signals of what was; with AUTO it waits for its dump. A keyed die reset of a die that
it may reset puts the die in service with RESULT 0, a Kiln die at P5 and fenced when its aggregator does not flag,
the Maze die with its sections 0x10 to 0x13 alone and without checker bank 1 when a comparison does not flag; of
another die it is refused with RESULT 1. -/
def Obligations.ResetsOfTilesPartitionsDiesAndTheHub : Prop :=
  (∀ (s : State) (tl : TileId),
    ((tileOf s tl).state = .fenced ∨ (tileOf s tl).state = .inReset → exec (.tileReset tl) s = .next s) ∧
    ((tileOf s tl).state ≠ .fenced → (tileOf s tl).state ≠ .inReset →
      ∃ u, exec (.tileReset tl) s = .next u ∧ (tileOf u tl).state = .free ∧ (tileOf u tl).inst = none ∧
        (tileOf u tl).next = none ∧ (tileOf u tl).checks = (tileOf s tl).checks ∧ u.tl.shelves = s.tl.shelves)) ∧
  (∀ (s : State) (v : Word32) (t : Nat) (x : PartitionRun) (c : Sys2Proof.Class), pfReaches s 0 = true → bits v.toNat 31 16 = 0x96A5 →
    classOf (bits v.toNat 1 0) = some c →
    (s.rs.partBusy = true → exec (.partitionReset 0 v t x) s =
      .next { atTime t s with rs := { s.rs with partResult := 1 } }) ∧
    let s1 := partitionStart (atTime t s) c x
    (s.rs.partBusy = false → s.rs.partQueue = [] → s.rs.flrWaits = [] → classTiles s1 c = [] → classTags s1 c = [] →
      ∃ u, exec (.partitionReset 0 v t x) s = .next u ∧ u.rs.partBusy = false ∧ u.rs.partResult = 0 ∧
        u.rs.durationUs = BitVec.ofNat 16 (min 0xFFFF x.durationUs) ∧
        (∀ k : CtxId, (ctxOf s k).state ≠ .free → (ctxOf s k).cls = c → (ctxOf u k).state = .free) ∧
        (∀ i, inSyncRange s.part c i = true → syncGet u i = 0) ∧
        (Clean s → (s.gh.items.map (fun y => y.id)).Nodup → ∀ z ∈ s.gh.items, z.stage ≠ .rejected →
          (queueOf s z.id.queue).cls = c → (findItem u z.id).map (fun y => (y.stage, y.verdict)) =
            some (.done, some (stPartitionReset, BitVec.ofNat 32 (classCode c))))) ∧
    (s.rs.partBusy = false → classTiles s1 c ≠ [] → exec (.partitionReset 0 v t x) s = .next s1 ∧ s1.rs.partBusy = true ∧
      s1.rs.partStep2 = some (max s.sun.ns t) ∧ s1.rs.partStep3 = none ∧
      (∀ k : CtxId, (ctxOf s k).state ≠ .free → (ctxOf s k).cls = c → (ctxOf s1 k).state = .closing)) ∧
    (s.rs.partBusy = false → classTiles s1 c = [] → classTags s1 c ≠ [] →
      ∃ u, exec (.partitionReset 0 v t x) s = .next u ∧ u.rs.partBusy = true ∧ u.rs.partStep3 = some (max s.sun.ns t) ∧
        (classTags (atTime t s) c ≠ [] → u.rs.stuckValid = true ∧ u.rs.stuckUnit = x.holder))) ∧
  (∀ (s : State) (x : PartitionPurge) (t0 : Nat), s.rs.partBusy = true →
    let c := classOfD s.rs.partClass.toNat
    (s.rs.partStep3 = none → s.rs.partStep2 = some t0 → classTiles (atTime x.t s) c ≠ [] →
      (∀ tl ∈ classTiles (atTime x.t s) c, max s.sun.ns x.t < t0 + yieldBoundNs (atTime x.t s) tl) →
      exec (.partitionPurgeTimeout x) s = .next (atTime x.t s)) ∧
    (s.rs.partStep3 = some t0 → classTags s c ≠ [] →
      (max s.sun.ns x.t < t0 + 3000000 → exec (.partitionPurgeTimeout x) s = .next (atTime x.t s)) ∧
      (t0 + 3000000 ≤ max s.sun.ns x.t → s.rs.partQueue = [] → s.rs.flrWaits = [] →
        ∃ u, exec (.partitionPurgeTimeout x) s = .next u ∧ u.rs.partBusy = false ∧
          u.rs.purged = satAdd s.rs.purged (x.holders.map (fun e => e.2)).sum ∧
          ∀ y ∈ u.tl.chains, (ctxOf s y.ctx).cls ≠ c))) ∧
  (∀ (s : State) (v : Word32) (t : Nat) (c : Instr),
    (c = .perstN t ∨ (c = .tlResetHub 0 v t ∧ pfReaches s 0 = true ∧ bits v.toNat 31 16 = 0x5AC3 ∧ v.getLsbD 3 = true)) →
    packageUp s = true → s.rs.hubWaits = none →
    (s.rs.dumpAuto = true → ∃ u, exec c s = .next u ∧ u.rs.hubWaits = some (decide (c = .perstN t)) ∧ u.rs.dumpGo = true ∧
      u.gh = s.gh ∧ u.sync = s.sync ∧ u.mem = s.mem) ∧
    (s.rs.dumpAuto = false → ∃ u, exec c s = .next u ∧ u.gh.contexts = [] ∧ u.gh.insts = [] ∧ u.tl.chains = [] ∧
      u.sync = syncReset ∧ u.db.ghState = 0 ∧ u.ln.pairUp = false ∧ u.gh.published = s.gh.published ∧ (c = .perstN t → u.hi.linkUp = false) ∧
      (Clean s → s.rs.flrWaits = [] → (s.gh.items.map (fun x => x.id)).Nodup → ∀ x ∈ s.gh.items,
        (x.stage = .rejected → findItem u x.id = some x) ∧
        (x.stage = .done → (findItem u x.id).map (fun y => (y.stage, y.verdict, y.dropped)) = some (.done, x.verdict, true)) ∧
        (x.stage ≠ .rejected → x.stage ≠ .done → (findItem u x.id).map (fun y => (y.stage, y.verdict)) =
          some (.done, some (stResetAborted, 0)))))) ∧
  (∀ (s : State) (v : Word32) (t : Nat) (o : StartupOutcome), pfReaches s 0 = true → bits v.toNat 31 16 = 0x5AC3 →
    v.getLsbD 3 = false → packageUp s = true →
    let d := bits v.toNat 2 0
    let bad := d = 4 ∨ 5 < d ∨ dieState s d = .fenced ∨ s.rs.busy = true
    (bad → exec (.tlResetDie 0 v t o) s = .next { atTime t s with rs := { s.rs with result := 1 } }) ∧
    (¬ bad → d < 4 → ∃ u, exec (.tlResetDie 0 v t o) s = .next u ∧ u.rs.result = 0 ∧
      dieState u d = (if o.aggregators.any (fun x => x.val == d) then .fenced else .service) ∧ u.rs.die = BitVec.ofNat 3 d ∧ (kilnPower u (kilnId d)).level = 5 ∧ (kilnPower u (kilnId d)).request = none ∧
      replicaOf u d = .resync) ∧
    (¬ bad → d = 5 → ∃ u, exec (.tlResetDie 0 v t o) s = .next u ∧ dieState u 5 = .service ∧ u.rs.result = 0 ∧ u.mz.fenced1 = (s.mz.fenced1 || o.mazeBank) ∧
      u.mz.newest = 0 ∧ u.mz.running = false ∧ (∀ e ∈ u.mz.config, 0x10 ≤ e.1 ∧ e.1 ≤ 0x13) ∧ holdsCause u .b 9 = true ∧
      (∀ a, storeBase ≤ a → a < 0x6000_2208_0000 → memRead u.mem a = 0)))

/-- A governor tick lowers an unparked Kiln die one level, with its voltage request, when its draw exceeds its share
or its level its ceiling, and asks for the voltage of one level up when R435 lets it rise; a completed request ends,
takes a raise not cancelled up, and is followed by the lowering that waits; a failed one keeps the level and is due
again 1 ms later; a current step is admitted exactly when those of the last microsecond stay within 40 A; a sample's
76 readings become the newest of at most 20 and the sensors' registers, its voltages the monitors', and set or clear
the over-temperature state above 118 and below 116 degrees; a package cold reset that a sensor above 105 degrees
holds ends with the first sample whose readings all lie below that, or from then on waits for the rails that are
out; the estimate follows R452 from 50 W up and a lower cap is in force at once; in that state a step lowers a
hottest unparked Kiln die; a trip latches THERMAL in both islands and holds the device in reset. -/
def Obligations.PowerLevelsAndThermal : Prop :=
  (∀ (s : State) (d : PowerDraws) (t : Nat) (k : KilnId), packageUp s = true → kilnIn s k = true →
    let x := kilnPower s k
    let n := x.level.toNat
    let d100 := (d.kiln100us[k.val]?).getD 0
    let d1000 := (d.kiln1ms[k.val]?).getD 0
    let share := dieShare s d
    let low := fracLt share (frac d100 1000)
    x.parked = false → x.request = none → x.retryAt = none →
    ∃ u, exec (.governorTick d t) s = .next u ∧ u.sync = s.sync ∧ u.rs = s.rs ∧
      (∀ j, kilnIn s j = false → kilnPower u j = kilnPower s j) ∧
      (low = true ∨ n < ceilingOf s k → n < 5 → (kilnPower u k).level = x.level + 1 ∧
        (kilnPower u k).request = some (false, x.level + 1) ∧ (kilnPower u k).changes = satInc x.changes ∧
        (kilnPower u k).parked = false) ∧
      (low = true → 5 ≤ n → (kilnPower u k).parked = true ∧ (kilnPower u k).level = x.level) ∧
      (low = false → ceilingOf s k < n → x.noRaise = false → (∀ t0, x.lowered = some t0 → t0 + 1000000 ≤ max s.sun.ns t) →
        fracLt share (frac (d1000 * fullLoad (n - 1) * 100) (1000 * fullLoad n * 95)) = false →
        (kilnPower u k).request = some (true, x.level - 1) ∧ (kilnPower u k).level = x.level)) ∧
  (∀ (s : State) (f : FnId) (k : KilnId) (v : Word64),
    (pfReaches s f = true → bits v.toNat 5 3 ≤ 5 → exec (.pmKilnCeilingWrite f k v) s =
      .next (setKilnPower s k { kilnPower s k with ceiling := BitVec.ofNat 3 (bits v.toNat 5 3) })) ∧
    (pfReaches s f = false ∨ 5 < bits v.toNat 5 3 → exec (.pmKilnCeilingWrite f k v) s = .next s)) ∧
  (∀ (s : State) (k : KilnId) (raise : Bool) (level : BitVec 3) (n mv t : Nat),
    (kilnPower s k).request = some (raise, level) → s.rs.held = false →
    let x := kilnPower s k
    (n ≤ 3 → levelMv level.toNat ≤ mv + 10 → mv ≤ levelMv level.toNat + 10 →
      ∃ u, exec (.avsRequest k n mv) s = .next u ∧ u.pw.retries = satAdd s.pw.retries n ∧ u.gh = s.gh ∧ u.tl = s.tl ∧
        (x.queued = none → (kilnPower u k).request = none ∧ (kilnPower u k).avsPending = false ∧
          (kilnPower u k).level = (if raise then level else x.level)) ∧
        (∀ l, x.queued = some l → (kilnPower u k).request = some (false, l) ∧ (kilnPower u k).level = x.level)) ∧
    (∃ u, exec (.avsRequestFail k n t) s = .next u ∧ u.pw.fail = true ∧ u.pw.failRail = BitVec.ofNat 4 k.val ∧
      (kilnPower u k).level = x.level ∧ (kilnPower u k).noRaise = true ∧
      (x.queued = none → (kilnPower u k).request = none ∧
        (kilnPower u k).retryAt = some (max s.sun.ns t + 1000000, raise, level)))) ∧
  (∀ (s : State) (rails : List (Nat × Nat)), s.rs.held = false → ∃ u, exec (.powerTelemetry rails) s = .next u ∧
    u.pw.power = frac (((rails.take 7).map (fun r => r.1 * r.2)).sum : Nat) 1000000 ∧ u.gh = s.gh ∧ u.tl = s.tl ∧
    u.pw.capExact = s.pw.capExact) ∧
  (∀ (s : State) (k : KilnId) (tl : TileId) (ma t : Nat), tileDie tl = k → tileIn s tl = true →
    let recent := (kilnPower s k).grants.filter (fun g => decide (max s.sun.ns t < g.1 + 1000))
    (ma + (recent.map (fun g => g.2)).sum ≤ 40000 → ∃ u, exec (.slewAdmit k tl ma t) s = .next u ∧
      (kilnPower u k).grants = recent ++ [(max s.sun.ns t, ma)] ∧ u.tl = s.tl ∧ u.gh = s.gh) ∧
    (40000 < ma + (recent.map (fun g => g.2)).sum → exec (.slewAdmit k tl ma t) s = .next (atTime t s))) ∧
  (∀ (s : State) (x : LodgeSample) (c : Option Int) (t : Nat) (tj : Int),
    let temps := x.temps
    temps.length = 76 → s.rs.held = false → s.pw.sleepState ≠ 4 → hottest temps = some tj →
    ∃ u, exec (.thermalSample x c t) s = .next u ∧ u.pw.history = (temps :: s.pw.history).take 20 ∧
      u.pw.hot = (if 118 * 16 < tj then true else if tj < 116 * 16 then false else s.pw.hot) ∧
      (∀ i x, temps[i]? = some x → tabGet (0, false) u.lg.sensors i = (BitVec.ofInt 16 x, true)) ∧
      (∀ i v, i < 16 → x.monitors[i]? = some (some v) → tabGet (0, none) u.lg.monitors i = (v, some (max s.sun.ns t))) ∧
      (∀ i, i < 16 → x.monitors[i]? = some none → tabGet (0, none) u.lg.monitors i = tabGet (0, none) s.lg.monitors i) ∧
      (∀ x, c = some x → (x < -640 ∨ 2000 < x) → u.pw.sensorFail = true) ∧
      (u.pw.flowStops ≠ s.pw.flowStops → holdsCause u .a 5 = true ∧ holdsCause u .b 5 = true ∧ u.pw.flowStop = true) ∧
      u.gh = s.gh ∧ u.tl = s.tl) ∧
  (∀ (s : State) (x : LodgeSample) (c : Option Int) (t : Nat) (b : BootInput), x.temps.length = 76 → s.rs.held = true →
    s.rs.heldHot = some b →
    ((∀ y ∈ x.temps, y < 105 * 16) →
      (s.rs.railsOut = [] → ∃ u, exec (.thermalSample x c t) s = .next u ∧ u.rs.held = false ∧ u.rs.heldHot = none ∧
        u.ln.leader = b.pairLead) ∧
      (s.rs.railsOut ≠ [] → exec (.thermalSample x c t) s =
        .next { s with rs := { s.rs with heldHot := none, heldByRail := true } })) ∧
    ((∃ y ∈ x.temps, 105 * 16 ≤ y) → exec (.thermalSample x c t) s = .next s)) ∧
  (∀ (s : State) (t : Nat) (temps : List Int), s.pw.history.head? = some temps → s.rs.held = false →
    ∃ u, exec (.rEstUpdate t) s = .next u ∧
      u.pw.rExact = (if fracLt s.pw.power ⟨50, 1⟩ then s.pw.rExact else nextEstimate s.pw ((hottest temps).getD 0)) ∧
      (s.pw.flowStop = false → fracLt (capLaw u.pw) s.pw.capExact = true → u.pw.capExact = capLaw u.pw) ∧
      (s.pw.flowStop = true → fracLt ⟨60, 1⟩ s.pw.capExact = true → u.pw.capExact = ⟨60, 1⟩) ∧ u.gh = s.gh ∧ u.tl = s.tl) ∧
  (∀ (s : State) (t : Nat), s.pw.hot = true → packageUp s = true → unparked s ≠ [] →
    (∀ k ∈ unparked s, (kilnPower s k).request = none ∧ (kilnPower s k).level.toNat < 5) →
    ∃ u k, exec (.hotStep t) s = .next u ∧ k ∈ unparked s ∧ (∀ j ∈ unparked s, dieHottest s j ≤ dieHottest s k) ∧
      (kilnPower u k).level = (kilnPower s k).level + 1 ∧ u.pw.hotSteps = satInc s.pw.hotSteps ∧
      (∀ j, j ≠ k → kilnPower u j = kilnPower s j) ∧ u.tl = s.tl) ∧
  (∀ (s : State) (i : Fin 76), s.rs.tripped = false → ∃ u, exec (.thermalTrip i) s = .next u ∧ u.rs.tripped = true ∧
    u.rs.held = true ∧ u.hi.linkUp = false ∧ holdsCause u .a 5 = true ∧ holdsCause u .b 5 = true ∧ u.gh = s.gh ∧ u.mem = s.mem)

/-- A write of PM_SLEEP with GO and TARGET 1 to 4 is refused with RESULT 2 while a return runs and with RESULT 1
where the conditions of the state or of a lighter one do not hold; else the device is in that state with RESULT 0,
in S2 with its shelves and every segment that PM_RETAIN does not select reading as nothing written and the selected
ones kept, in S3 and below with the link down, in S4 with Keep SRAM lost. TARGET 0 in S1 or S2, and the wake address
in any sleep state, start the return; another address changes nothing. A return that succeeds ends awake with RESULT
0, its state, its length and the lost segments recorded, those lost at the entry and those whose guards do not hold,
from S3 and S4 with no context and no sync object; one that fails twice ends in package cold reset. A byte of
PM_RETAIN that selects a segment but not the reserved area's keeps its value. -/
def Obligations.SleepAndWake : Prop :=
  (∀ (s : State) (f : FnId) (v : Word32) (t : Nat) (w : Option (Fin 4)),
    let n := bits v.toNat 2 0
    pfReaches s f = true → v.getLsbD 3 = true → 1 ≤ n → n ≤ 4 →
    (s.pw.sleepGo = true → exec (.sleepEntry f v t w) s = .next { atTime t s with pw := { s.pw with sleepResult := 2 } }) ∧
    (s.pw.sleepGo = false → (n ≤ s.pw.sleepState.toNat ∨ sleepReady s n = false) →
      ∃ u, exec (.sleepEntry f v t w) s = .next u ∧ u.pw.sleepResult = 1 ∧ u.pw.sleepState = s.pw.sleepState ∧
        u.gh = s.gh ∧ u.mem = s.mem) ∧
    (s.pw.sleepGo = false → s.pw.sleepState.toNat < n → sleepReady s n = true →
      ∃ u, exec (.sleepEntry f v t none) s = .next u ∧ u.pw.sleepState.toNat = n ∧ u.pw.sleepResult = 0 ∧
        u.pw.matcher = s.pw.wake ∧ u.pw.retain = s.pw.retain ∧
        (n = 1 → u.mem = s.mem ∧ u.gh = s.gh) ∧
        (n = 2 → s.pw.sleepState.toNat < 2 →
          (∀ a, shelfBase 0 ≤ a → a < shelfBase 65536 → memRead u.mem a = 0) ∧
          (∀ k i, k < 4 → i < 8 → ∀ a, (segmentRange s k i).1 ≤ a → a < (segmentRange s k i).2 →
            memRead u.mem a = (if s.pw.retain.getLsbD (8 * k + i) then memRead s.mem a else 0))) ∧
        (3 ≤ n → s.pw.sleepState.toNat < 3 → u.hi.linkUp = false ∧ u.ln.pairUp = false) ∧
        (n = 4 → ∀ a, keepBase ≤ a → a < keepBase + 0x80_0000 → memRead u.mem a = 0)) ∧
    (s.pw.sleepGo = false → s.pw.sleepState.toNat < n → sleepReady s n = true → s.pw.sleepState = 0 →
      ∀ m : Fin 4, 1 ≤ m.val → m.val ≤ n →
        ∃ u, exec (.sleepEntry f v t (some m)) s = .next u ∧ u.pw.sleepState.toNat = m.val ∧ u.pw.sleepGo = true ∧
          u.pw.byPort = true)) ∧
  (∀ (s : State) (f : FnId) (v : Word32), pfReaches s f = true → v.getLsbD 3 = true → bits v.toNat 2 0 = 0 →
    (s.pw.sleepGo = true → exec (.sleepReturnRequest f v) s = .next { s with pw := { s.pw with sleepResult := 2 } }) ∧
    (s.pw.sleepGo = false → s.pw.sleepState = 1 ∨ s.pw.sleepState = 2 → exec (.sleepReturnRequest f v) s =
      .next { s with pw := { s.pw with sleepTarget := 0, sleepGo := true, byPort := false } })) ∧
  (∀ (s : State) (b : Byte), s.pw.sleepState ≠ 0 → s.pw.sleepGo = false → s.rs.held = false →
    exec (.wakeAddress b) s = .next (if b.toNat / 2 = s.pw.matcher.toNat then
      { s with pw := { s.pw with sleepGo := true, byPort := true } } else s)) ∧
  (∀ (s : State) (o : ReturnOutcome) (t : Nat), s.pw.sleepGo = true → s.pw.sleepState ≠ 0 → s.rs.held = false →
    let n := s.pw.sleepState.toNat
    (o.failedStep = none → ∃ u, exec (.sleepReturn o t) s = .next u ∧ u.pw.sleepState = 0 ∧ u.pw.sleepGo = false ∧
      u.pw.sleepResult = 0 ∧ u.pw.wakeFrom = s.pw.sleepState ∧ u.pw.returnUs = BitVec.ofNat 16 (min 0xFFFF o.lengthUs) ∧
      (n = 1 → u.gh = s.gh ∧ u.mem = s.mem ∧ u.tl = s.tl) ∧
      (2 ≤ n → u.pw.lost = s.pw.lostAtEntry ||| (o.lost ||| brokenGuards s) ∧ u.pw.lostAtEntry = 0 ∧ u.pw.guards = [] ∧ ∀ k ∈ kilnsIn s, (kilnPower u k).level = 5) ∧
      (3 ≤ n → u.gh.contexts = [] ∧ u.gh.items = [] ∧ u.sync = syncReset)) ∧
    (∀ i : Fin 5, o.failedStep = some i → i.val ≠ 0 → (n = 1 → i.val = 4) → ∃ u, exec (.sleepReturn o t) s = .next u ∧
      u.pw = { powerReset with kilns := u.pw.kilns } ∧ (∀ k, kilnPower u k = kilnReset) ∧ u.gh.contexts = [] ∧ u.sync = syncReset)) ∧
  (∀ (s : State) (f : FnId) (v : Word64), pfReaches s f = true → ∃ u, exec (.pmRetainWrite f v) s = .next u ∧
    u = { s with pw := { s.pw with retain := u.pw.retain } } ∧ ∀ i, i < 4 →
      let b := bits v.toNat (8 * i + 7) (8 * i)
      bits u.pw.retain.toNat (8 * i + 7) (8 * i) =
        (if b = 0 ∨ bit b 7 = true then b else bits s.pw.retain.toNat (8 * i + 7) (8 * i)))

/-- A GO while a command is in progress sets REFUSED and changes nothing else but time and what the host stored;
while the physical function can issue no request a command that uses the buffer waits with GO 1, and nothing but
such a command goes on later; a command that the mode or lifecycle state bars ends with RESULT 6 and no output. A
command that is taken, at its GO or after its wait, and whose fields are as its row says ends with RESULT 0 and its
output in the buffer: STATUS its 288 bytes, ATTEST the report for the nonce, LOG-READ the entries asked for, CERTS
the chain; UPDATE puts the verified image into the inactive slot and leaves the active one active, or ends with the
result of the first check that the image fails and leaves the flash; COMMIT makes the trial slot active and raises
the anti-rollback counter, but with RESULT 8 where no trial runs; ACTIVATE with valid slots and a permitted
LIFECYCLE token end in package cold reset, the latter in the new state. A full page of the log, or one whose first
entry is 1 s old, goes to the mirror. -/
def Obligations.MailboxCommands : Prop :=
  (∀ (s : State) (g : MboxGo) (ok : Bool) (b : BootInput), ∀ r ∈ mailboxRows g ok b, g.resumes = true →
    s.lg.mboxGo = false ∨ s.lg.mboxCmd.toNat ≠ r.2 ∨ r.2 = 3 ∨ r.2 = 4 ∨ fnCanIssue s 0 = false →
    exec r.1 s = .next (hostWrites g.host (atTime g.t s))) ∧
  (∀ (s : State) (g : MboxGo) (ok : Bool) (b : BootInput), ∀ r ∈ mailboxRows g ok b, g.resumes = false →
    pfReaches s g.fn = true → g.value.getLsbD 31 = true → bits g.value.toNat 7 0 = r.2 →
    (s.lg.mboxGo = true → exec r.1 s =
      .next { hostWrites g.host (atTime g.t s) with lg := { s.lg with refused := true } }) ∧
    (s.lg.mboxGo = false → fnCanIssue s 0 = false → r.2 ≠ 3 → r.2 ≠ 4 → exec r.1 s =
      .next { hostWrites g.host (atTime g.t s) with lg := { s.lg with mboxCmd := BitVec.ofNat 8 r.2, mboxGo := true } }) ∧
    (s.lg.mboxGo = false → fnCanIssue s 0 = true → r.2 ≠ 1 → mboxBarred s r.2 = true →
      ∃ u, exec r.1 s = .next u ∧ mboxEnds u 6 0 ∧ u.hostMem = memCells s.hostMem g.host ∧ u.gh = s.gh ∧
        u.lg.flash = s.lg.flash)) ∧
  (∀ (s : State) (g : MboxGo), g.bufOk = true →
    let h := memCells s.hostMem g.host
    let at' := s.lg.buf.toNat
    (MboxTakes s g 1 → noArgs s = true → 288 ≤ s.lg.len.toNat → ∃ u, exec (.mboxStatus g) s = .next u ∧ mboxEnds u 0 288 ∧
      holdsBytes u at' (statusBytes s) ∧ u.gh = s.gh ∧ u.mem = s.mem) ∧
    (MboxTakes s g 5 → noArgs s = true → 704 ≤ s.lg.len.toNat → ∃ u, exec (.mboxAttest g) s = .next u ∧ mboxEnds u 0 640 ∧
      holdsBytes u (at' + 64) (attestReport (atTime g.t s) (memReads h at' 64)) ∧ u.gh = s.gh ∧ u.mem = s.mem) ∧
    (MboxTakes s g 6 → 1 ≤ s.lg.arg1.toNat → s.lg.arg1.toNat ≤ 65536 → s.lg.arg0.toNat ≤ 0xFFFFFFFF →
      32 * s.lg.arg1.toNat ≤ s.lg.len.toNat → ∃ u, exec (.mboxLogRead g) s = .next u ∧
        mboxEnds u 0 (32 * s.lg.arg1.toNat) ∧ u.gh = s.gh ∧ u.mem = s.mem ∧
        holdsBytes u at' ((List.range s.lg.arg1.toNat).flatMap
          (fun i => logOf s ((s.lg.arg0.toNat + i) % 0x1_0000_0000)))) ∧
    (MboxTakes s g 8 → noArgs s = true → (certChain s).length ≤ s.lg.len.toNat → ∃ u, exec (.mboxCerts g) s = .next u ∧
      mboxEnds u 0 (certChain s).length ∧ holdsBytes u at' (certChain s) ∧ u.gh = s.gh ∧ u.mem = s.mem)) ∧
  (∀ (s : State) (g : MboxGo) (k : Nat), MboxTakes s g 2 → g.bufOk = true → k < 5 → s.lg.arg0.toNat = 5 + k →
    s.lg.arg1 = 0 → (slotOf s k).trial = false →
    let n := s.lg.len.toNat
    let img := memReads (memCells s.hostMem g.host) s.lg.buf.toNat n
    let spare := !(slotOf s k).activeB
    416 ≤ n → field img 8 4 = n →
    (verifyImage s img (5 + k) (counterOf s k) = none → ∃ u, exec (.mboxUpdate g true) s = .next u ∧ mboxEnds u 0 0 ∧
      flashReads u (slotBase k spare) n = img ∧ (slotOf u k).activeB = (slotOf s k).activeB ∧
      slotState (slotOf u k) spare = 1 ∧ u.lg.counters = s.lg.counters ∧ u.gh = s.gh) ∧
    (∀ c, verifyImage s img (5 + k) (counterOf s k) = some c → ∃ u, exec (.mboxUpdate g true) s = .next u ∧
      mboxEnds u (checkResult c) 0 ∧ u.lg.flash = s.lg.flash ∧ u.lg.slots = s.lg.slots ∧ u.gh = s.gh)) ∧
  (∀ (s : State) (g : MboxGo), MboxTakes s g 4 → s.lg.arg0.toNat ≤ 4 → s.lg.arg1 = 0 → noBuffer s = true →
    let k := s.lg.arg0.toNat
    let x := slotOf s k
    let sv := (if x.activeB then x.svA else x.svB).toNat
    (s.lg.onTrial.getLsbD k = false → ∃ u, exec (.mboxCommit g) s = .next u ∧ mboxEnds u 8 0 ∧ u.lg.flash = s.lg.flash ∧
      u.lg.counters = s.lg.counters) ∧
    (s.lg.onTrial.getLsbD k = true → s.lg.counters.length = 5 → ∃ u, exec (.mboxCommit g) s = .next u ∧ mboxEnds u 0 0 ∧
      slotOf u k = { x with activeB := !x.activeB, trial := false, tried := false } ∧ u.lg.onTrial.getLsbD k = false ∧
      counterOf u k = max (counterOf s k) (min 64 sv) ∧ u.gh = s.gh)) ∧
  (∀ (s : State) (g : MboxGo) (b : BootInput), MboxTakes s g 3 → s.lg.arg0.toNat ≤ 31 → s.lg.arg1 = 0 → noBuffer s = true →
    ((∀ k, k < 5 → bit s.lg.arg0.toNat k = true → inactiveValid s k = true) → ∃ u, exec (.mboxActivate g b) s = .next u ∧
      u.gh.contexts = [] ∧ u.sync = syncReset ∧ u.pw = { powerReset with kilns := u.pw.kilns } ∧ u.hostMem = memCells s.hostMem g.host ∧
      u.lg.lifecycle = s.lg.lifecycle) ∧
    (∀ k, k < 5 → bit s.lg.arg0.toNat k = true → inactiveValid s k = false → ∃ u, exec (.mboxActivate g b) s = .next u ∧
      mboxEnds u 8 0 ∧ u.gh = s.gh ∧ u.lg.flash = s.lg.flash)) ∧
  (∀ (s : State) (g : MboxGo) (b : BootInput), MboxTakes s g 7 → g.bufOk = true → noArgs s = true →
    let n := s.lg.len.toNat
    let img := memReads (memCells s.hostMem g.host) s.lg.buf.toNat n
    let d := slice img (imgData img).1 64
    let target := field d 16 1
    let rev := field d 17 1
    416 ≤ n → field img 8 4 = n →
    (∀ c, verifyImage s img 0xA 0 = some c → ∃ u, exec (.mboxLifecycle g b) s = .next u ∧ mboxEnds u (checkResult c) 0 ∧
      u.lg.lifecycle = s.lg.lifecycle) ∧
    (verifyImage s img 0xA 0 = none →
      (slice d 0 16 ≠ slice s.lg.serial 0 16 ∨ lifecycleStep s.lg.lifecycle.toNat target = false →
        ∃ u, exec (.mboxLifecycle g b) s = .next u ∧ mboxEnds u 6 0 ∧ u.lg.lifecycle = s.lg.lifecycle ∧
          u.lg.revoke = s.lg.revoke) ∧
      (slice d 0 16 = slice s.lg.serial 0 16 → lifecycleStep s.lg.lifecycle.toNat target = true → rev ≤ 15 →
        s.lg.revoke ||| BitVec.ofNat 4 rev ≠ 15 → ∃ u, exec (.mboxLifecycle g b) s = .next u ∧
          u.lg.lifecycle = BitVec.ofNat 3 target ∧ u.lg.revoke = s.lg.revoke ||| BitVec.ofNat 4 rev ∧ u.gh.contexts = [] ∧
          u.sync = syncReset ∧ u.pw = { powerReset with kilns := u.pw.kilns }))) ∧
  (∀ (s : State) (t : Nat), s.rs.held = false →
    let n := (s.lg.nextSeq - s.lg.mirrored).toNat
    let room := 128 - s.lg.mirrored.toNat % 128
    (n = 0 ∨ (n < room ∧ max s.sun.ns t < s.lg.pageAt + 1000000000) → exec (.logMirrorFlush t) s = .next (atTime t s)) ∧
    (room ≤ n → ∃ u, exec (.logMirrorFlush t) s = .next u ∧ u.lg.mirrored = s.lg.mirrored + BitVec.ofNat 32 room ∧
      u.mem = s.mem ∧ u.gh = s.gh) ∧
    (0 < n → n < room → s.lg.pageAt + 1000000000 ≤ max s.sun.ns t → ∃ u, exec (.logMirrorFlush t) s = .next u ∧
      u.lg.mirrored = s.lg.nextSeq ∧ u.mem = s.mem ∧ u.gh = s.gh))

/-- A register access whose size or alignment R507 forbids is counted, a poisoned write counted and reported in its
function's Advanced Error Reporting, and neither does anything else; a read gives the unit's value, the half asked
for, and one that does not reach its unit gives 0; writes reach their fields as their kinds say: plain RW registers
read back the fields written, a 4-byte write changes its half, GH_SQ_BASE changes not while its queue is enabled, a
W1C bit is cleared by a one, and no access touches memory, an item's stage or verdict, a context, a chain or a
configuration section. A BAR4 read returns the present bytes and all-ones elsewhere, of an uncorrectable granule
all-ones in a poisoned completion; a write stores where memory is present outside the reserved area; one that its
regulator pauses waits. A function-level reset joins a partition reset that runs; with nothing of a partition in
flight it and a virtual function's end disable its queues at once, take their items away and free the contexts of
its partitions. A failed host read latches its record, with the function whose requester ID it carried: the queue's,
that of the reading context's class, or the physical function for the mailbox. -/
def Obligations.HostPortAndRegisters : Prop :=
  let idle (s : State) : Prop := s.rs.partBusy = false ∧ s.rs.partQueue = [] ∧ s.rs.flrWaits = [] ∧ s.tl.chains = [] ∧
    (∀ tl, (tileOf s tl).inst = none) ∧ (∀ x ∈ s.gh.items, x.engine = none)
  (∀ (s : State) (f : FnId) (t : Nat), fnExists s f.val = true →
    (idle s → ∃ u, exec (.functionLevelReset f t) s = .next u ∧
      (∀ q, (queueOf s q).enable = true → (f = 0 ∨ (queueOf s q).function.toNat = f.val) →
        (queueOf u q).enable = false ∧ ∀ x ∈ u.gh.items, x.id.queue ≠ q) ∧
      (∀ c : CtxId, (ctxOf s c).state ≠ .free → (f = 0 ∨ classFunction s (ctxOf s c).cls = f.val) →
        (ctxOf u c).state = .free) ∧
      (f = 0 → u.hi.vfEnable = false ∧ u.hi.numVfs = 0)) ∧
    (s.rs.partBusy = true → ∃ u, exec (.functionLevelReset f t) s = .next u ∧ u = { atTime t s with rs := u.rs } ∧
      u.rs.partBusy = true ∧ f.val ∈ u.rs.flrWaits ∧ (∀ c : Sys2Proof.Class, f = 0 ∨ classFunction s c = f.val →
        s.rs.partClass.toNat = classCode c ∨ c ∈ u.rs.partQueue))) ∧
  (∀ (s : State) (f : FnId) (t : Nat), fnExists s f.val = false → exec (.functionLevelReset f t) s = .next (atTime t s)) ∧
  (∀ (s : State) (on : Bool) (n t : Nat), ∃ u, exec (.sriovVfChange on n t) s = .next u ∧ u.hi.vfEnable = on ∧
    u.hi.numVfs = (if 8 < n then s.hi.numVfs else BitVec.ofNat 4 n) ∧
    (idle s → ∀ q, (queueOf s q).enable = true → (queueOf s q).function.toNat ≠ 0 → (queueOf s q).function.toNat ≤ 8 →
      fnExists s (queueOf s q).function.toNat = true → fnExists u (queueOf s q).function.toNat = false →
      (queueOf u q).enable = false)) ∧
  (∀ (s : State) (f : FnId) (d b : Bool),
    (fnExists s f.val = true → ∃ u, exec (.functionPowerState f d b) s = .next u ∧ (fnPower u f.val).d3hot = d ∧
      (fnPower u f.val).busMaster = b ∧ (∀ g, g ≠ f.val → fnPower u g = fnPower s g) ∧
      u = { s with hi := { s.hi with fns := u.hi.fns } }) ∧
    (fnExists s f.val = false → exec (.functionPowerState f d b) s = .next s)) ∧
  (∀ (s : State) (v : Fin 6) (w : Nat), s.rs.held = false →
    (∃ u, exec (.pcieLinkChange v w false) s = .next u ∧ u.hi.linkUp = false ∧ u.hi.linkSpeed = 0 ∧ u.hi.linkWidth = 0 ∧
      u.ms.generation = s.ms.generation + 2 ∧ u.gh = s.gh) ∧
    (0 < v.val → w ∈ [1, 2, 4, 8] → ∃ u, exec (.pcieLinkChange v w true) s = .next u ∧ u.hi.linkUp = true ∧
      u.hi.linkSpeed.toNat = v.val ∧ u.hi.linkWidth.toNat = w ∧ u.ms.generation = s.ms.generation + 2 ∧ u.gh = s.gh)) ∧
  (∀ (s : State) (a : Bar4Access) (l : List Byte), hostReaches s 0 = true → s.pw.sleepState.toNat < 2 → s.ms.badGranules = [] →
    let pa := bar4Address s a.off
    masterPaused s 1 pa = false →
    (a.write = none → a.off + a.n ≤ 2 ^ s.hi.bar4Log → ∃ u, exec (.bar4Access a) s = .next u ∧
      u.lastBytes = readPresent s pa a.n ∧ u.lastPoison = false ∧ u.mem = s.mem ∧ u.gh = s.gh) ∧
    (a.write = some l → a.off + l.length ≤ 2 ^ s.hi.bar4Log →
      (a.poisoned = true → ∃ u, exec (.bar4Access a) s = .next u ∧
        u = { s with hi := { s.hi with poisoned := satInc s.hi.poisoned, aer := u.hi.aer } } ∧
        (tabGet 0 u.hi.aer 0).getLsbD 12 = true) ∧
      (a.poisoned = false → (∀ i, i < l.length → bar4Writes s (pa + i) = true) → ∃ u, exec (.bar4Access a) s = .next u ∧
        memReads u.mem pa l.length = l ∧ (∀ b, b < pa ∨ pa + l.length ≤ b → memRead u.mem b = memRead s.mem b) ∧
        u.gh = s.gh ∧ u.sync = s.sync) ∧
      (a.poisoned = false → (∀ i, i < l.length → bar4Writes s (pa + i) = false) → ∃ u, exec (.bar4Access a) s = .next u ∧
        u.mem = s.mem ∧ u.gh = s.gh))) ∧
  (∀ (s : State) (a : Bar4Access), hostReaches s 0 = false ∨ masterPaused s 1 (bar4Address s a.off) = true →
    exec (.bar4Access a) s = .next s) ∧
  (∀ (s : State) (a : Bar4Access) (g : Nat), hostReaches s 0 = true → s.pw.sleepState.toNat < 2 → a.write = none →
    a.off + a.n ≤ 2 ^ s.hi.bar4Log → masterPaused s 1 (bar4Address s a.off) = false →
    badGranule s (bar4Address s a.off) a.n = some g → hubSees s g = true →
    ∃ u, exec (.bar4Access a) s = .next u ∧ u.lastBytes = List.replicate a.n 0xFF ∧ u.lastPoison = true ∧ u.mem = s.mem) ∧
  (∀ (s : State) (e : HostReadError), packageUp s = true → ∃ u, exec (.hostReadError e) s = .next u ∧
    u.hi.errValid = true ∧ u.hi.errKind = BitVec.ofNat 3 e.kind.val ∧
    (e.source = 0 ∨ e.source = 2 → u.hi.errFn = BitVec.ofNat 4 (queueOf s e.queue).function.toNat) ∧
    (∀ w, e.source = 1 → e.reader = some w →
      u.hi.errFn = BitVec.ofNat 4 (classFunction s (ctxOf s (itemCtx s w.item)).cls)) ∧
    (e.source = 3 → u.hi.errFn = 0) ∧
    u.hi.errSource = BitVec.ofNat 3 e.source.val ∧ u.hi.errAddr = e.addr ∧ u.hi.errCount = satInc s.hi.errCount ∧
    (e.source = 0 → canFetch s e.queue = true → (queueOf u e.queue).fetchFailed = true ∧
      (queueOf u e.queue).head = (queueOf s e.queue).head)) ∧
  (∀ (s : State) (r : BusRead), hostReaches s r.fn = true →
    let off := r.off.toNat
    (goodAccess off r.size = false → exec (.registerReadClear r) s =
      .next { s with hi := { s.hi with badAccess := satInc s.hi.badAccess }, lastRead := 0 }) ∧
    (goodAccess off r.size = true → (∀ tl, (tileOf s tl).vbad = []) →
      let s0 : State := { readSample (drawFree s) (off / 8 * 8) with free := s.free }
      let v := readUnit s0 r.fn (off / 8 * 8)
      ∃ u, exec (.registerReadClear r) s = .next u ∧ u.mem = s.mem ∧ u.hostMem = s.hostMem ∧
      u.gh.items.map (fun x => (x.id, x.stage, x.verdict)) = s.gh.items.map (fun x => (x.id, x.stage, x.verdict)) ∧
      u.gh.queues = s.gh.queues ∧ u.sync = s.sync ∧
      (unitReaches s r.fn (off / 8 * 8) false = false → u.lastRead = 0 ∧ u.tl = s.tl ∧ u.hi = s.hi) ∧
      (unitReaches s r.fn (off / 8 * 8) false = true → u.lastRead.toNat =
        (if r.size = 8 then v % 2 ^ 64 else if off % 8 = 0 then v % 2 ^ 32 else v / 2 ^ 32 % 2 ^ 32)) ∧
      (off = 0x28 → r.fn = 0 → u.hi.badAccess = 0 ∧ u.hi.poisoned = 0))) ∧
  (∀ (s : State) (f : FnId), hostReaches s f = false →
    (∀ r : BusRead, r.fn = f → exec (.registerReadClear r) s = .next s) ∧
    (∀ w : BusWrite, w.fn = f → exec (.registerWrite w) s = .next s)) ∧
  (∀ (s : State) (w : BusWrite), hostReaches s w.fn = true →
    let off := w.off.toNat
    (goodAccess off w.size = false → w.poisoned = false → exec (.registerWrite w) s =
      .next { s with hi := { s.hi with badAccess := satInc s.hi.badAccess } }) ∧
    (w.poisoned = true → ∃ u, exec (.registerWrite w) s = .next u ∧
      u = { s with hi := { s.hi with aer := u.hi.aer, poisoned := satInc s.hi.poisoned, badAccess := u.hi.badAccess } } ∧
      u.hi.badAccess = (if goodAccess off w.size = true then s.hi.badAccess else satInc s.hi.badAccess) ∧
      (tabGet 0 u.hi.aer w.fn.val).getLsbD 12 = true) ∧
    (goodAccess off w.size = true → w.poisoned = false → ∃ u, exec (.registerWrite w) s = .next u ∧ u.mem = s.mem ∧
      u.hostMem = s.hostMem ∧ u.gh.items = s.gh.items ∧ u.gh.contexts = s.gh.contexts ∧ u.sync.counters = s.sync.counters ∧
      u.tl.chains = s.tl.chains ∧ u.tl.shelves = s.tl.shelves ∧ u.mz.config = s.mz.config ∧ u.fe.config = s.fe.config ∧
      (∀ e ∈ [(0x10, 0x1FC0000000), (0x10_0100, 0x3FF), (0x10_0180, 0x3FF), (0x40_0260, 0x3FF), (0xE0_0020, 0xFFFFFFFFFFFFFFC0)],
        w.fn = 0 → w.size = 8 → off = e.1 → readUnit u 0 off % 2 ^ (if off = 0x10_0100 then 32 else 64) =
          w.data.toNat &&& e.2) ∧
      (w.fn = 0 → w.size = 4 → off = 0xE0_0024 → u.lg.buf = BitVec.ofNat 64
        ((w.data.toNat % 2 ^ 32 * 2 ^ 32 + s.lg.buf.toNat % 2 ^ 32) / 64 * 64)) ∧
      (w.fn = 0 → w.size = 8 → off = 0x10 → u.hi.bar4Base = BitVec.ofNat 7 (w.data.toNat / 2 ^ 30)) ∧
      (w.fn = 0 → w.size = 8 → off = 0x10_0108 → u.gh.faultCtx = { s.gh.faultCtx with
        valid := s.gh.faultCtx.valid && !w.data.getLsbD 63 }) ∧
      (∀ q : QueueId, w.fn = 0 → w.size = 8 → off = 0x11_0008 + 0x20 * q.val → queueOf u q =
        (if (queueOf s q).enable then queueOf s q
         else { queueOf s q with base := BitVec.ofNat 64 (w.data.toNat / 4096 * 4096) })) ∧
      (unitReaches s w.fn (off / 8 * 8) true = false → u = s)))

/-- Where the lifecycle state lets debug act and the context is not CLOSING, a breakpoint, a watch hit or a halt
request stops the tile with its cause, draining, and the halt is complete once no drain, check or weight fetch is
left; resume and step let it issue again, step for one instruction; where debug may not act the hit or request sets
REFUSED and the tile goes on. The Gatehouse halts with its cause, its PC and what a patch slot redirects that to, at
a watch only for an access that it watches, resumes, and halts again after a step, but in the state that forbids it
REFUSED is set. A source emits the earliest record that its events have formed, and no other; it goes to the local
buffer's filling half or to the source's queue, a LOST record ahead of it where some were dropped, and is counted
lost where there is no room; a full half goes to its host slot request by request and the count after it, as far as
the trace port's regulator lets it. A dump starts once and, at its end, writes within its buffer, or the flash where
there is none, and a hub warm reset that waited for it follows. -/
def Obligations.DebugTraceAndDump : Prop :=
  (∀ (s : State) (tl : TileId) (f : FnId) (v : Word32),
    let x := tileOf s tl
    let halts (c : Instr) (cause : Nat) : Prop := ∃ u, exec c s = .next u ∧ (tileOf u tl).state = .halted ∧
      (tileOf u tl).dbg.state = 1 ∧ (tileOf u tl).dbg.cause = BitVec.ofNat 4 cause ∧ (tileOf u tl).dbg.pc = x.pc ∧
      (tileOf u tl).inst = x.inst ∧ sameRegisters x (tileOf u tl) ∧ u.lg.haltUsed = true ∧ u.mem = s.mem ∧ u.gh = s.gh
    let refuses (c : Instr) : Prop := ∃ u, exec c s = .next u ∧ (tileOf u tl).state = x.state ∧
      (tileOf u tl).dbg.refused = (x.dbg.refused || s.lg.lifecycle != 4) ∧ sameRegisters x (tileOf u tl) ∧ u.gh = s.gh
    let acts (c : Instr) (cause : Nat) : Prop :=
      (debugActs s x.ctx = true → (ctxOf s x.ctx).state ≠ .closing → halts c cause) ∧ (debugActs s x.ctx = false → refuses c)
    x.inst.isSome = true → x.state = .running →
    (∀ i, breakpointAt s tl = some i → x.dbg.passing = false → x.dbg.watchHit = none → acts (.breakpointHit tl) (1 + i)) ∧
    (∀ j, x.dbg.watchHit = some j → acts (.watchHit tl) (5 + j.val)) ∧
    (windowReaches s f tl = true → v.getLsbD 0 = true → x.dbg.state = 0 → acts (.dbHalt f tl v) 0)) ∧
  (∀ (s : State) (tl : TileId) (f : FnId) (v : Word32),
    let x := tileOf s tl
    let work (u : State) : Prop := u.gh = { s.gh with items := u.gh.items } ∧
      u.gh.items.map (fun i => (i.id, i.stage, i.verdict)) = s.gh.items.map (fun i => (i.id, i.stage, i.verdict))
    (x.dbg.state = 1 → x.tensor.drain = none → x.tensor.fetches = [] → ∃ u, exec (.haltDrained tl) s = .next u ∧
      (tileOf u tl).dbg.state = 2 ∧ (tileOf u tl).dbg.cause = x.dbg.cause ∧ (tileOf u tl).state = x.state ∧
      (tileOf u tl).inst = x.inst ∧ (tileOf u tl).pc = x.pc ∧ sameRegisters x (tileOf u tl) ∧ work u ∧ u.mem = s.mem) ∧
    (x.dbg.state ≠ 1 ∨ x.tensor.drain.isSome = true ∨ x.tensor.fetches ≠ [] → exec (.haltDrained tl) s = .next s) ∧
    (windowReaches s f tl = true → x.dbg.state ≠ 0 →
      (v.getLsbD 1 = true → ∃ u, exec (.dbResume f tl v) s = .next u ∧ (tileOf u tl).dbg.state = 0 ∧
        (tileOf u tl).dbg.stepping = false ∧ (tileOf u tl).pc = x.pc ∧
        (tileOf u tl).state = (if x.state = .halted then .running else x.state) ∧ sameRegisters x (tileOf u tl) ∧ work u) ∧
      (v.getLsbD 2 = true → debugActs s x.ctx = true → ∃ u, exec (.dbStep f tl v) s = .next u ∧
        (tileOf u tl).dbg.state = 0 ∧ (tileOf u tl).dbg.stepping = true ∧ (tileOf u tl).pc = x.pc ∧ sameRegisters x (tileOf u tl) ∧ work u) ∧
      (v.getLsbD 2 = true → debugActs s x.ctx = false → ∃ u, exec (.dbStep f tl v) s = .next u ∧
        (tileOf u tl).dbg.state = x.dbg.state ∧ (tileOf u tl).dbg.refused = true)) ∧
    (windowReaches s f tl = true → ∃ u, exec (.engSelectWrite f tl v) s = .next u ∧
      (tileOf u tl).dbg.reason = BitVec.ofNat 4 (bits v.toNat 11 8) ∧
      (bits v.toNat 2 0 ≤ 4 → (tileOf u tl).dbg.engSelect = BitVec.ofNat 3 (bits v.toNat 2 0)) ∧
      (∀ e ∈ (tileOf u tl).dbg.engines, e.2.selected = 0) ∧ (tileOf u tl).state = x.state ∧ u.gh = s.gh)) ∧
  (∀ (s : State) (f : FnId) (v pc : Word32),
    let halted (cause : BitVec 4) : State := { s with
      db := { s.db with ghState := 2, ghCause := cause, ghPc := pc, ghPatch := patchTarget s pc.toNat },
      lg := { s.lg with haltUsed := true } }
    (s.db.ghState = 0 → debugReaches s f = true → v.getLsbD 0 = true →
      (ghDebugActs s = true → exec (.ghHalt (.request f v pc)) s = .next (halted 0)) ∧
      (ghDebugActs s = false → exec (.ghHalt (.request f v pc)) s =
        .next { s with db := { s.db with ghRefused := true } })) ∧
    (∀ i : Fin 4, s.db.ghState = 0 → ghDebugActs s = true → (tabGet 0 s.db.ghBp i.val).getLsbD 63 = true →
      bits (tabGet 0 s.db.ghBp i.val).toNat 47 1 = pc.toNat / 2 → exec (.ghHalt (.breakpoint i pc)) s =
        .next (halted (BitVec.ofNat 4 (1 + i.val)))) ∧
    (∀ (j : Fin 2) (a : Addr48) (n : Nat) (st : Bool), s.db.ghState = 0 → ghDebugActs s = true →
      exec (.ghHalt (.watch j pc a n st)) s = .next (if ghWatchHits (tabGet 0 s.db.ghWatch j.val) a n st = true then
        halted (BitVec.ofNat 4 (5 + j.val)) else s)) ∧
    (debugReaches s f = true → s.db.ghState ≠ 0 →
      (v.getLsbD 1 = true → exec (.ghResume f v) s = .next { s with db := { s.db with ghState := 0 } }) ∧
      (v.getLsbD 2 = true → ghDebugActs s = true → exec (.ghStep f v pc) s = .next (halted 7)))) ∧
  (∀ (s : State) (r : TraceInput) (t : Nat), ((dueOf s r.master.toNat).head?.map (fun d => d.kind)) ≠ some r.kind →
    exec (.traceRecord r t) s = .next (atTime t s)) ∧
  (∀ (s : State) (r : TraceInput) (t : Nat) (d : TraceDue), (dueOf s r.master.toNat).head? = some d → d.kind = r.kind →
    let m := r.master.toNat
    let bad := traceInvalid s r
    let rcd := traceBytes d.kind bad d.ctx d.body
    let b := bufferOf s (bufferIndex m)
    let x := sourceOf s m
    let entry (l : List Byte) : List Byte := leBytes 8 (replicaTime (atTime t s) (masterDieOf m)) ++ leBytes 2 m ++ zeros 6 ++ l
    let fresh := b.filling = [] ∨ max s.sun.ns t < b.started + 10000000
    let emitted (u : State) : Prop := dueOf u m = (dueOf s m).drop 1 ∧ u.gh = s.gh ∧ u.mem = s.mem
    (s.db.traceCtrl.getLsbD 0 = false → s.db.traceCtrl.getLsbD 1 = true →
      (s.db.ltbSlots ≠ 0 → fresh → x.lost = 0 → b.filling.length < 1023 → ∃ u, exec (.traceRecord r t) s = .next u ∧ emitted u ∧
        (bufferOf u (bufferIndex m)).filling = b.filling ++ [entry rcd] ∧ (bufferOf u (bufferIndex m)).full = b.full ∧
        u.db.lost = s.db.lost) ∧
      (s.db.ltbSlots ≠ 0 → fresh → x.lost ≠ 0 → lostLets s = true → b.filling.length < 1022 →
        ∃ u, exec (.traceRecord r t) s = .next u ∧ emitted u ∧ (sourceOf u m).lost = 0 ∧
          (bufferOf u (bufferIndex m)).filling =
            b.filling ++ [entry (traceBytes 6 bad 0xFFFF (leBytes 4 x.lost.toNat)), entry rcd]) ∧
      (s.db.ltbSlots = 0 ∨ (b.full.isSome = true ∧ 1024 ≤ b.filling.length) → x.lost = 0 →
        ∃ u, exec (.traceRecord r t) s = .next u ∧ emitted u ∧ u.db.buffers = s.db.buffers ∧ (sourceOf u m).lost = 1 ∧
          u.db.lost = satInc s.db.lost ∧ u.db.ltbLost = satInc s.db.ltbLost)) ∧
    (s.db.traceCtrl.getLsbD 0 = true → s.db.traceCtrl.getLsbD 1 = false → s.db.linkUp = false → x.lost = 0 →
      ∃ u, exec (.traceRecord r t) s = .next u ∧ emitted u ∧
        (x.queue.length < 64 → (sourceOf u m).queue = x.queue ++ [rcd] ∧ u.db.lost = s.db.lost) ∧
        (64 ≤ x.queue.length → (sourceOf u m).queue = x.queue ∧ (sourceOf u m).lost = 1 ∧ u.db.lost = satInc s.db.lost))) ∧
  (∀ (s : State) (i : Fin 5) (t : Nat), s.db.ltbSlots ≠ 0 → fnCanIssue s 0 = true → s.rs.held = false →
    let b := bufferOf s i.val
    let room := requestRoom s 4 0xC000_0000_0000 256 129
    (∀ l, s.db.drain = none → b.full = some l → ∃ u, exec (.ltbHalfDrain i t) s = .next u ∧ u.mem = s.mem ∧ u.gh = s.gh ∧
      (room = 129 → u.db.drain = none ∧ u.db.halves = s.db.halves + 1 ∧
        memReads u.hostMem s.db.ltbPtr.toNat 8 = leBytes 8 (s.db.halves + 1).toNat) ∧
      (room < 128 → u.db.drain = some ⟨i, (halfRequests s l).drop room⟩ ∧ u.db.halves = s.db.halves ∧
        u.hostMem = ((halfRequests s l).take room).foldl (fun h e => memWrites h e.1 e.2) s.hostMem)) ∧
    (∀ d, s.db.drain = some d → d.buf ≠ i → exec (.ltbHalfDrain i t) s = .next (atTime t s)) ∧
    (∀ d, s.db.drain = some d → d.buf = i → d.todo ≠ [] → requestRoom s 4 0xC000_0000_0000 256 d.todo.length = d.todo.length →
      ∃ u, exec (.ltbHalfDrain i t) s = .next u ∧ u.db.drain = none ∧
        u.hostMem = d.todo.foldl (fun h e => memWrites h e.1 e.2) s.hostMem ∧ u.mem = s.mem ∧ u.gh = s.gh) ∧
    (s.db.drain = none → b.full = none → (b.filling = [] ∨ max s.sun.ns t < b.started + 10000000) →
      exec (.ltbHalfDrain i t) s = .next (atTime t s))) ∧
  (∀ (s : State) (b : Bool), exec (.traceLinkChange b) s = .next { s with db := { s.db with linkUp := b } }) ∧
  (∀ (s : State) (f : FnId) (v : Word32) (t : Nat), debugReaches s f = true → v.getLsbD 31 = true →
    (s.rs.dumpGo = true → exec (.dumpStart f v t) s = .next (atTime t s)) ∧
    (s.rs.dumpGo = false → ∃ u, exec (.dumpStart f v t) s = .next u ∧ u.rs.dumpGo = true ∧ u.rs.dumpTrigger = 0 ∧
      u.rs.dumpStart = max s.sun.ns t ∧ u.rs.dumpRegions = v.setWidth 8 ∧ u.rs.dumpAuto = v.getLsbD 8 ∧ u.gh = s.gh ∧
      u.mem = s.mem)) ∧
  (∀ (s : State) (ok : Bool) (bad : List Nat) (t : Nat), s.rs.dumpGo = true → s.rs.held = false →
    (s.rs.hubWaits = none → s.rs.dumpSize ≠ 0 → ok = true → fnCanIssue s 0 = true →
      ∃ u, exec (.dumpEnd ok bad t) s = .next u ∧ u.rs.dumpGo = false ∧ u.rs.dumpResult ≠ 2 ∧
        memReads u.hostMem s.rs.dumpBase.toNat 4 = [0x44, 0x55, 0x4D, 0x50] ∧
        (∀ a, a < s.rs.dumpBase.toNat ∨ s.rs.dumpBase.toNat + s.rs.dumpSize.toNat * 4096 ≤ a →
          memRead u.hostMem a = memRead s.hostMem a) ∧ u.gh = s.gh ∧ u.mem = s.mem) ∧
    (s.rs.hubWaits = none → s.rs.dumpSize = 0 ∨ ok = false → ∃ u, exec (.dumpEnd ok bad t) s = .next u ∧
      u.rs.dumpGo = false ∧ u.rs.dumpResult = 2 ∧ u.hostMem = s.hostMem ∧ u.gh = s.gh) ∧
    (∀ p, s.rs.hubWaits = some p → s.rs.dumpSize = 0 ∨ ok = false → ∃ u, exec (.dumpEnd ok bad t) s = .next u ∧
      u.rs.dumpGo = false ∧ u.rs.hubWaits = none ∧ u.rs.dumpResult = 2 ∧ u.gh.contexts = [] ∧ u.sync = syncReset))

/-- After package cold reset no command waits, every queue is disabled, every context FREE with no item, instance or
chain, every tile free with its registers zero, every sync object 0 and not saturated, the default partition ranges,
shares, schedule and watchdogs stand, Sundial counts from 0 in FREE_RUN with its time set, both islands hold
START_UP alone with their outputs low, every Kiln die is at P5, PM_CAP and PM_RETAIN read 300 W and all segments, no
module is up, memory lists nothing; the memories are canonical and the outputs follow the causes. -/
def Obligations.ResetState : Prop :=
  let s := State.reset
  s.pending = [] ∧ (∀ q, queueOf s q = queueReset) ∧ queueReset.enable = false ∧ (∀ c, (ctxOf s c).state = .free) ∧
  s.gh.items = [] ∧ s.gh.insts = [] ∧ s.tl.chains = [] ∧ (∀ t, (tileOf s t).state = .free ∧ noRegisters (tileOf s t)) ∧
  (∀ i, syncGet s i = 0 ∧ tabGet false s.sync.saturated i = false) ∧
  s.part.mapD = ⟨0x0000, 0x0FFF, 0⟩ ∧ s.part.mapB = ⟨0x1000, 0x1FFF, 0⟩ ∧ s.part.mapQm = ⟨0x2000, 0xFFFF, 0⟩ ∧
  s.part.dShelves = 0x20 ∧ s.part.bShelves = 0x20 ∧ s.part.dMem = 0x10 ∧ s.part.bMem = 0x10 ∧
  s.part.schedule = defaultSchedule ∧ s.bv.wd = defaultWatchdogs ∧
  s.sun.ns = 0 ∧ s.sun.state = .freeRun ∧ s.sun.timeSet = true ∧
  s.bv.a.causes = 1 ∧ s.bv.b.causes = 1 ∧ s.bv.pins = 0 ∧ (∀ k, (kilnPower s k).level = 5) ∧
  s.pw.userW = 300 ∧ s.pw.retain = 0xFFFFFFFF ∧ s.pw.sleepState = 0 ∧ (∀ d i, (moduleOf s d i).state = 0) ∧
  s.mem = [] ∧ s.memoriesOk ∧ s.pinsOk

/-- From every state, reachable or not, in which the device's, the host's and the partner's memory list their
addresses strictly rising with no entry equal to what an unlisted address reads as, every step that answers a next
state leaves them so. -/
def Obligations.MemoriesStayCanonical : Prop :=
  ∀ s t : State, s.memoriesOk → step s = .next t → t.memoriesOk

/-- From every state, reachable or not, in which both outputs of each Belvedere island are low while it holds a
cause, SAFE0 low and SAFE1 high while only its reset input holds it (that SAFE1 stays high then is the model's
choice, log 147), and both high else, every step that answers a next state, whatever the command, leaves them so. -/
def Obligations.PinsFollowTheCauses : Prop :=
  ∀ s t : State, s.pinsOk → step s = .next t → t.pinsOk
end

