-- ==== Sys2Proof/Laws/Mem.lean ====
section
/-! SUPPORT. The laws of the byte memory: reads after writes, and the canonical form that every memory
operation keeps. -/

namespace Sys2Proof.Machine

/-! ## Reads after writes -/

theorem memRead_insert_same (m : Memory) (a : Nat) (b : Byte) : memRead (memInsert m a b) a = b := by
  induction m with
  | nil => simp [memInsert, memRead, tabGet]
  | cons e r ih =>
    obtain ⟨k, v⟩ := e
    unfold memRead at ih
    by_cases h : a < k
    · simp [memInsert, memRead, tabGet, h]
    · by_cases hk : a = k
      · simp [memInsert, memRead, tabGet, hk]
      · simp [memInsert, memRead, tabGet, h, hk, Ne.symm hk, ih]

theorem memRead_insert_other (m : Memory) {a c : Nat} (b : Byte) (h : c ≠ a) :
    memRead (memInsert m a b) c = memRead m c := by
  induction m with
  | nil => simp [memInsert, memRead, tabGet, Ne.symm h]
  | cons e r ih =>
    obtain ⟨k, v⟩ := e
    unfold memRead at ih
    by_cases hl : a < k
    · simp [memInsert, memRead, tabGet, hl, Ne.symm h]
    · by_cases hk : a = k
      · subst hk; simp [memInsert, memRead, tabGet, Ne.symm h]
      · simp [memInsert, memRead, tabGet, hl, hk, ih]

theorem memRead_erase_same (m : Memory) (a : Nat) : memRead (memErase m a) a = Memory.unlisted := by
  induction m with
  | nil => rfl
  | cons e r ih =>
    obtain ⟨k, v⟩ := e
    unfold memRead at ih
    by_cases h : k = a <;> simp [memErase, memRead, tabGet, h, ih]

theorem memRead_erase_other (m : Memory) {a c : Nat} (h : c ≠ a) : memRead (memErase m a) c = memRead m c := by
  induction m with
  | nil => rfl
  | cons e r ih =>
    obtain ⟨k, v⟩ := e
    unfold memRead at ih
    by_cases hk : k = a
    · simp [memErase, memRead, tabGet, hk, ih, Ne.symm h]
    · simp [memErase, memRead, tabGet, hk, ih]

/-- A byte reads as it was stored. -/
@[simp] theorem memRead_memWrite_same (m : Memory) (a : Nat) (b : Byte) : memRead (memWrite m a b) a = b := by
  by_cases h : b = Memory.unlisted
  · simp [memWrite, h, memRead_erase_same]
  · simp [memWrite, h, memRead_insert_same]

/-- A store leaves every other byte. -/
theorem memRead_memWrite_other (m : Memory) {a c : Nat} (b : Byte) (h : c ≠ a) :
    memRead (memWrite m a b) c = memRead m c := by
  by_cases hb : b = Memory.unlisted
  · simp [memWrite, hb, memRead_erase_other m h]
  · simp [memWrite, hb, memRead_insert_other m b h]

/-- A store of bytes leaves every byte outside its range. -/
theorem memRead_memWrites_outside (l : List Byte) :
    ∀ (m : Memory) (a c : Nat), (c < a ∨ a + l.length ≤ c) → memRead (memWrites m a l) c = memRead m c := by
  induction l with
  | nil => intros; rfl
  | cons b r ih =>
    intro m a c h
    simp only [List.length_cons] at h
    rw [memWrites, ih _ _ _ (by omega), memRead_memWrite_other m b (by omega)]

/-- Bytes read as they were stored. -/
theorem memReads_memWrites (l : List Byte) :
    ∀ (m : Memory) (a : Nat), memReads (memWrites m a l) a l.length = l := by
  induction l with
  | nil => intros; rfl
  | cons b r ih =>
    intro m a
    simp only [List.length_cons, memReads, memWrites]
    rw [memRead_memWrites_outside r _ _ _ (by omega), memRead_memWrite_same, ih]

/-! ## The canonical form -/

/-- Every key of a memory is above `a`. -/
def keysAbove (a : Nat) (m : Memory) : Prop := ∀ c ∈ m, a < c.1

theorem risingKeys_cons (a : Nat) (b : Byte) (m : Memory) :
    risingKeys ((a, b) :: m) = true ↔ keysAbove a m ∧ risingKeys m = true := by
  induction m generalizing a b with
  | nil => simp [risingKeys, keysAbove]
  | cons e r ih =>
    obtain ⟨k, v⟩ := e
    simp only [risingKeys, Bool.and_eq_true, decide_eq_true_eq]
    constructor
    · rintro ⟨h1, h2⟩
      refine ⟨?_, h2⟩
      intro c hc
      rcases List.mem_cons.mp hc with rfl | hc
      · exact h1
      · exact Nat.lt_trans h1 (((ih k v).mp h2).1 c hc)
    · rintro ⟨h1, h2⟩
      exact ⟨h1 (k, v) List.mem_cons_self, h2⟩

theorem mem_memInsert {m : Memory} {a : Nat} {b : Byte} {c : Host.Cell} (h : c ∈ memInsert m a b) :
    c = (a, b) ∨ c ∈ m := by
  induction m with
  | nil => simpa [memInsert] using h
  | cons e r ih =>
    obtain ⟨k, v⟩ := e
    simp only [memInsert] at h
    split at h
    · simpa using h
    · split at h
      · rcases List.mem_cons.mp h with h | h
        · exact .inl h
        · exact .inr (List.mem_cons_of_mem _ h)
      · rcases List.mem_cons.mp h with h | h
        · exact .inr (h ▸ List.mem_cons_self)
        · rcases ih h with h | h
          · exact .inl h
          · exact .inr (List.mem_cons_of_mem _ h)

theorem risingKeys_insert {m : Memory} (a : Nat) (b : Byte) (h : risingKeys m = true) :
    risingKeys (memInsert m a b) = true := by
  induction m with
  | nil => rfl
  | cons e r ih =>
    obtain ⟨k, v⟩ := e
    have hr := (risingKeys_cons k v r).mp h
    simp only [memInsert]
    split
    · rename_i hl
      rw [risingKeys_cons]
      refine ⟨?_, h⟩
      intro c hc
      rcases List.mem_cons.mp hc with rfl | hc
      · exact hl
      · exact Nat.lt_trans hl (hr.1 c hc)
    · split
      · rename_i hk
        rw [risingKeys_cons]
        exact ⟨by rw [hk]; exact hr.1, hr.2⟩
      · rw [risingKeys_cons]
        refine ⟨?_, ih hr.2⟩
        intro c hc
        rcases mem_memInsert hc with rfl | hc
        · dsimp; omega
        · exact hr.1 c hc

theorem memErase_eq_filter (m : Memory) (a : Nat) : memErase m a = m.filter (fun c => decide (c.1 ≠ a)) := by
  induction m with
  | nil => rfl
  | cons e r ih =>
    obtain ⟨k, v⟩ := e
    by_cases h : k = a <;> simp [memErase, h, ih]

theorem risingKeys_filter (p : Host.Cell → Bool) {m : Memory} (h : risingKeys m = true) :
    risingKeys (m.filter p) = true := by
  induction m with
  | nil => rfl
  | cons e r ih =>
    obtain ⟨k, v⟩ := e
    have hr := (risingKeys_cons k v r).mp h
    simp only [List.filter_cons]
    split
    · rw [risingKeys_cons]
      exact ⟨fun c hc => hr.1 c (List.mem_filter.mp hc).1, ih hr.2⟩
    · exact ih hr.2

theorem wf_filter (p : Host.Cell → Bool) {m : Memory} (h : m.wf = true) : Memory.wf (m.filter p) = true := by
  simp only [Memory.wf, Bool.and_eq_true, List.all_eq_true] at *
  exact ⟨risingKeys_filter p h.1, fun c hc => h.2 c (List.mem_filter.mp hc).1⟩

/-- A store of one byte keeps the canonical form. -/
theorem wf_memWrite {m : Memory} (a : Nat) (b : Byte) (h : m.wf = true) : (memWrite m a b).wf = true := by
  unfold memWrite
  split
  · rw [memErase_eq_filter]; exact wf_filter _ h
  · rename_i hb
    simp only [Memory.wf, Bool.and_eq_true, List.all_eq_true] at *
    refine ⟨risingKeys_insert a b h.1, ?_⟩
    intro c hc
    rcases mem_memInsert hc with rfl | hc
    · simpa using hb
    · exact h.2 c hc

/-- A store of bytes keeps the canonical form. -/
theorem wf_memWrites (l : List Byte) : ∀ {m : Memory} (a : Nat), m.wf = true → (memWrites m a l).wf = true := by
  induction l with
  | nil => intro m a h; exact h
  | cons b r ih => intro m a h; exact ih (a + 1) (wf_memWrite a b h)

/-- A store of cells keeps the canonical form. -/
theorem wf_memCells (l : List Host.Cell) : ∀ {m : Memory}, m.wf = true → (memCells m l).wf = true := by
  induction l with
  | nil => intro m h; exact h
  | cons e r ih => intro m h; exact ih (wf_memWrite e.1 e.2 h)

/-- Clearing a range keeps the canonical form. -/
theorem wf_memClear {m : Memory} (lo hi : Nat) (h : m.wf = true) : (memClear m lo hi).wf = true := wf_filter _ h

/-- Storing over physical ranges keeps the canonical form. -/
theorem wf_spread (r : List (Nat × Nat)) :
    ∀ {m : Memory} (l : List Byte), m.wf = true → (spread m r l).wf = true := by
  induction r with
  | nil => intro m l h; exact h
  | cons e r ih => intro m l h; exact ih (l.drop e.2) (wf_memWrites _ e.1 h)

end Sys2Proof.Machine
end

