-- ==== Sys2Proof/Laws/State.lean ====
section
/-! SUPPORT. What each named update does to each part of the state: one lemma per field per update. -/

namespace Sys2Proof.Machine

/-! ### atTime -/

@[simp] theorem atTime_pending (t : Nat) (s : State) : (atTime t s).pending = s.pending := rfl
@[simp] theorem atTime_free (t : Nat) (s : State) : (atTime t s).free = s.free := rfl
@[simp] theorem atTime_lastRead (t : Nat) (s : State) : (atTime t s).lastRead = s.lastRead := rfl
@[simp] theorem atTime_lastBytes (t : Nat) (s : State) : (atTime t s).lastBytes = s.lastBytes := rfl
@[simp] theorem atTime_lastPoison (t : Nat) (s : State) : (atTime t s).lastPoison = s.lastPoison := rfl
@[simp] theorem atTime_mem (t : Nat) (s : State) : (atTime t s).mem = s.mem := rfl
@[simp] theorem atTime_hostMem (t : Nat) (s : State) : (atTime t s).hostMem = s.hostMem := rfl
@[simp] theorem atTime_partnerMem (t : Nat) (s : State) : (atTime t s).partnerMem = s.partnerMem := rfl
@[simp] theorem atTime_gh (t : Nat) (s : State) : (atTime t s).gh = s.gh := rfl
@[simp] theorem atTime_sync (t : Nat) (s : State) : (atTime t s).sync = s.sync := rfl
@[simp] theorem atTime_tl (t : Nat) (s : State) : (atTime t s).tl = s.tl := rfl
@[simp] theorem atTime_ms (t : Nat) (s : State) : (atTime t s).ms = s.ms := rfl
@[simp] theorem atTime_part (t : Nat) (s : State) : (atTime t s).part = s.part := rfl
@[simp] theorem atTime_sun (t : Nat) (s : State) : (atTime t s).sun =
    { s.sun with ns := max s.sun.ns t, elapsed := s.sun.elapsed + (t - s.sun.ns),
                 frac := if s.sun.ns < t then Config.subNs t else s.sun.frac } := rfl
@[simp] theorem atTime_fe (t : Nat) (s : State) : (atTime t s).fe = s.fe := rfl
@[simp] theorem atTime_mz (t : Nat) (s : State) : (atTime t s).mz = s.mz := rfl
@[simp] theorem atTime_bv (t : Nat) (s : State) : (atTime t s).bv = s.bv := rfl
@[simp] theorem atTime_ln (t : Nat) (s : State) : (atTime t s).ln = s.ln := rfl
@[simp] theorem atTime_rs (t : Nat) (s : State) : (atTime t s).rs = s.rs := rfl
@[simp] theorem atTime_pw (t : Nat) (s : State) : (atTime t s).pw = s.pw := rfl
@[simp] theorem atTime_lg (t : Nat) (s : State) : (atTime t s).lg = s.lg := rfl
@[simp] theorem atTime_db (t : Nat) (s : State) : (atTime t s).db = s.db := rfl
@[simp] theorem atTime_hi (t : Nat) (s : State) : (atTime t s).hi = s.hi := rfl

/-! ### drawFree -/

@[simp] theorem drawFree_pending (s : State) : (drawFree s).pending = s.pending := rfl
@[simp] theorem drawFree_free (s : State) : (drawFree s).free = s.free + 1 := rfl
@[simp] theorem drawFree_lastRead (s : State) : (drawFree s).lastRead = s.lastRead := rfl
@[simp] theorem drawFree_lastBytes (s : State) : (drawFree s).lastBytes = s.lastBytes := rfl
@[simp] theorem drawFree_lastPoison (s : State) : (drawFree s).lastPoison = s.lastPoison := rfl
@[simp] theorem drawFree_mem (s : State) : (drawFree s).mem = s.mem := rfl
@[simp] theorem drawFree_hostMem (s : State) : (drawFree s).hostMem = s.hostMem := rfl
@[simp] theorem drawFree_partnerMem (s : State) : (drawFree s).partnerMem = s.partnerMem := rfl
@[simp] theorem drawFree_gh (s : State) : (drawFree s).gh = s.gh := rfl
@[simp] theorem drawFree_sync (s : State) : (drawFree s).sync = s.sync := rfl
@[simp] theorem drawFree_tl (s : State) : (drawFree s).tl = s.tl := rfl
@[simp] theorem drawFree_ms (s : State) : (drawFree s).ms = s.ms := rfl
@[simp] theorem drawFree_part (s : State) : (drawFree s).part = s.part := rfl
@[simp] theorem drawFree_sun (s : State) : (drawFree s).sun = s.sun := rfl
@[simp] theorem drawFree_fe (s : State) : (drawFree s).fe = s.fe := rfl
@[simp] theorem drawFree_mz (s : State) : (drawFree s).mz = s.mz := rfl
@[simp] theorem drawFree_bv (s : State) : (drawFree s).bv = s.bv := rfl
@[simp] theorem drawFree_ln (s : State) : (drawFree s).ln = s.ln := rfl
@[simp] theorem drawFree_rs (s : State) : (drawFree s).rs = s.rs := rfl
@[simp] theorem drawFree_pw (s : State) : (drawFree s).pw = s.pw := rfl
@[simp] theorem drawFree_lg (s : State) : (drawFree s).lg = s.lg := rfl
@[simp] theorem drawFree_db (s : State) : (drawFree s).db = s.db := rfl
@[simp] theorem drawFree_hi (s : State) : (drawFree s).hi = s.hi := rfl

/-! ### hostWrites -/

@[simp] theorem hostWrites_pending (h : List Host.Cell) (s : State) : (hostWrites h s).pending = s.pending := rfl
@[simp] theorem hostWrites_free (h : List Host.Cell) (s : State) : (hostWrites h s).free = s.free := rfl
@[simp] theorem hostWrites_lastRead (h : List Host.Cell) (s : State) : (hostWrites h s).lastRead = s.lastRead := rfl
@[simp] theorem hostWrites_lastBytes (h : List Host.Cell) (s : State) : (hostWrites h s).lastBytes = s.lastBytes := rfl
@[simp] theorem hostWrites_lastPoison (h : List Host.Cell) (s : State) : (hostWrites h s).lastPoison = s.lastPoison := rfl
@[simp] theorem hostWrites_mem (h : List Host.Cell) (s : State) : (hostWrites h s).mem = s.mem := rfl
@[simp] theorem hostWrites_hostMem (h : List Host.Cell) (s : State) : (hostWrites h s).hostMem = memCells s.hostMem h := rfl
@[simp] theorem hostWrites_partnerMem (h : List Host.Cell) (s : State) : (hostWrites h s).partnerMem = s.partnerMem := rfl
@[simp] theorem hostWrites_gh (h : List Host.Cell) (s : State) : (hostWrites h s).gh = s.gh := rfl
@[simp] theorem hostWrites_sync (h : List Host.Cell) (s : State) : (hostWrites h s).sync = s.sync := rfl
@[simp] theorem hostWrites_tl (h : List Host.Cell) (s : State) : (hostWrites h s).tl = s.tl := rfl
@[simp] theorem hostWrites_ms (h : List Host.Cell) (s : State) : (hostWrites h s).ms = s.ms := rfl
@[simp] theorem hostWrites_part (h : List Host.Cell) (s : State) : (hostWrites h s).part = s.part := rfl
@[simp] theorem hostWrites_sun (h : List Host.Cell) (s : State) : (hostWrites h s).sun = s.sun := rfl
@[simp] theorem hostWrites_fe (h : List Host.Cell) (s : State) : (hostWrites h s).fe = s.fe := rfl
@[simp] theorem hostWrites_mz (h : List Host.Cell) (s : State) : (hostWrites h s).mz = s.mz := rfl
@[simp] theorem hostWrites_bv (h : List Host.Cell) (s : State) : (hostWrites h s).bv = s.bv := rfl
@[simp] theorem hostWrites_ln (h : List Host.Cell) (s : State) : (hostWrites h s).ln = s.ln := rfl
@[simp] theorem hostWrites_rs (h : List Host.Cell) (s : State) : (hostWrites h s).rs = s.rs := rfl
@[simp] theorem hostWrites_pw (h : List Host.Cell) (s : State) : (hostWrites h s).pw = s.pw := rfl
@[simp] theorem hostWrites_lg (h : List Host.Cell) (s : State) : (hostWrites h s).lg = s.lg := rfl
@[simp] theorem hostWrites_db (h : List Host.Cell) (s : State) : (hostWrites h s).db = s.db := rfl
@[simp] theorem hostWrites_hi (h : List Host.Cell) (s : State) : (hostWrites h s).hi = s.hi := rfl

/-! ### setQueue -/

@[simp] theorem setQueue_pending (s : State) (q : QueueId) (x : Queue) : (setQueue s q x).pending = s.pending := rfl
@[simp] theorem setQueue_free (s : State) (q : QueueId) (x : Queue) : (setQueue s q x).free = s.free := rfl
@[simp] theorem setQueue_lastRead (s : State) (q : QueueId) (x : Queue) : (setQueue s q x).lastRead = s.lastRead := rfl
@[simp] theorem setQueue_lastBytes (s : State) (q : QueueId) (x : Queue) : (setQueue s q x).lastBytes = s.lastBytes := rfl
@[simp] theorem setQueue_lastPoison (s : State) (q : QueueId) (x : Queue) : (setQueue s q x).lastPoison = s.lastPoison := rfl
@[simp] theorem setQueue_mem (s : State) (q : QueueId) (x : Queue) : (setQueue s q x).mem = s.mem := rfl
@[simp] theorem setQueue_hostMem (s : State) (q : QueueId) (x : Queue) : (setQueue s q x).hostMem = s.hostMem := rfl
@[simp] theorem setQueue_partnerMem (s : State) (q : QueueId) (x : Queue) : (setQueue s q x).partnerMem = s.partnerMem := rfl
@[simp] theorem setQueue_gh (s : State) (q : QueueId) (x : Queue) : (setQueue s q x).gh = { s.gh with queues := tabPut s.gh.queues q.val x } := rfl
@[simp] theorem setQueue_sync (s : State) (q : QueueId) (x : Queue) : (setQueue s q x).sync = s.sync := rfl
@[simp] theorem setQueue_tl (s : State) (q : QueueId) (x : Queue) : (setQueue s q x).tl = s.tl := rfl
@[simp] theorem setQueue_ms (s : State) (q : QueueId) (x : Queue) : (setQueue s q x).ms = s.ms := rfl
@[simp] theorem setQueue_part (s : State) (q : QueueId) (x : Queue) : (setQueue s q x).part = s.part := rfl
@[simp] theorem setQueue_sun (s : State) (q : QueueId) (x : Queue) : (setQueue s q x).sun = s.sun := rfl
@[simp] theorem setQueue_fe (s : State) (q : QueueId) (x : Queue) : (setQueue s q x).fe = s.fe := rfl
@[simp] theorem setQueue_mz (s : State) (q : QueueId) (x : Queue) : (setQueue s q x).mz = s.mz := rfl
@[simp] theorem setQueue_bv (s : State) (q : QueueId) (x : Queue) : (setQueue s q x).bv = s.bv := rfl
@[simp] theorem setQueue_ln (s : State) (q : QueueId) (x : Queue) : (setQueue s q x).ln = s.ln := rfl
@[simp] theorem setQueue_rs (s : State) (q : QueueId) (x : Queue) : (setQueue s q x).rs = s.rs := rfl
@[simp] theorem setQueue_pw (s : State) (q : QueueId) (x : Queue) : (setQueue s q x).pw = s.pw := rfl
@[simp] theorem setQueue_lg (s : State) (q : QueueId) (x : Queue) : (setQueue s q x).lg = s.lg := rfl
@[simp] theorem setQueue_db (s : State) (q : QueueId) (x : Queue) : (setQueue s q x).db = s.db := rfl
@[simp] theorem setQueue_hi (s : State) (q : QueueId) (x : Queue) : (setQueue s q x).hi = s.hi := rfl

/-! ### modItem -/

@[simp] theorem modItem_pending (s : State) (i : ItemId) (f : Item → Item) : (modItem s i f).pending = s.pending := rfl
@[simp] theorem modItem_free (s : State) (i : ItemId) (f : Item → Item) : (modItem s i f).free = s.free := rfl
@[simp] theorem modItem_lastRead (s : State) (i : ItemId) (f : Item → Item) : (modItem s i f).lastRead = s.lastRead := rfl
@[simp] theorem modItem_lastBytes (s : State) (i : ItemId) (f : Item → Item) : (modItem s i f).lastBytes = s.lastBytes := rfl
@[simp] theorem modItem_lastPoison (s : State) (i : ItemId) (f : Item → Item) : (modItem s i f).lastPoison = s.lastPoison := rfl
@[simp] theorem modItem_mem (s : State) (i : ItemId) (f : Item → Item) : (modItem s i f).mem = s.mem := rfl
@[simp] theorem modItem_hostMem (s : State) (i : ItemId) (f : Item → Item) : (modItem s i f).hostMem = s.hostMem := rfl
@[simp] theorem modItem_partnerMem (s : State) (i : ItemId) (f : Item → Item) : (modItem s i f).partnerMem = s.partnerMem := rfl
@[simp] theorem modItem_gh (s : State) (i : ItemId) (f : Item → Item) : (modItem s i f).gh = { s.gh with items := s.gh.items.map (fun x => if x.id = i then f x else x) } := rfl
@[simp] theorem modItem_sync (s : State) (i : ItemId) (f : Item → Item) : (modItem s i f).sync = s.sync := rfl
@[simp] theorem modItem_tl (s : State) (i : ItemId) (f : Item → Item) : (modItem s i f).tl = s.tl := rfl
@[simp] theorem modItem_ms (s : State) (i : ItemId) (f : Item → Item) : (modItem s i f).ms = s.ms := rfl
@[simp] theorem modItem_part (s : State) (i : ItemId) (f : Item → Item) : (modItem s i f).part = s.part := rfl
@[simp] theorem modItem_sun (s : State) (i : ItemId) (f : Item → Item) : (modItem s i f).sun = s.sun := rfl
@[simp] theorem modItem_fe (s : State) (i : ItemId) (f : Item → Item) : (modItem s i f).fe = s.fe := rfl
@[simp] theorem modItem_mz (s : State) (i : ItemId) (f : Item → Item) : (modItem s i f).mz = s.mz := rfl
@[simp] theorem modItem_bv (s : State) (i : ItemId) (f : Item → Item) : (modItem s i f).bv = s.bv := rfl
@[simp] theorem modItem_ln (s : State) (i : ItemId) (f : Item → Item) : (modItem s i f).ln = s.ln := rfl
@[simp] theorem modItem_rs (s : State) (i : ItemId) (f : Item → Item) : (modItem s i f).rs = s.rs := rfl
@[simp] theorem modItem_pw (s : State) (i : ItemId) (f : Item → Item) : (modItem s i f).pw = s.pw := rfl
@[simp] theorem modItem_lg (s : State) (i : ItemId) (f : Item → Item) : (modItem s i f).lg = s.lg := rfl
@[simp] theorem modItem_db (s : State) (i : ItemId) (f : Item → Item) : (modItem s i f).db = s.db := rfl
@[simp] theorem modItem_hi (s : State) (i : ItemId) (f : Item → Item) : (modItem s i f).hi = s.hi := rfl

/-! ### modInst -/

@[simp] theorem modInst_pending (s : State) (w : InstanceId) (f : Inst → Inst) : (modInst s w f).pending = s.pending := rfl
@[simp] theorem modInst_free (s : State) (w : InstanceId) (f : Inst → Inst) : (modInst s w f).free = s.free := rfl
@[simp] theorem modInst_lastRead (s : State) (w : InstanceId) (f : Inst → Inst) : (modInst s w f).lastRead = s.lastRead := rfl
@[simp] theorem modInst_lastBytes (s : State) (w : InstanceId) (f : Inst → Inst) : (modInst s w f).lastBytes = s.lastBytes := rfl
@[simp] theorem modInst_lastPoison (s : State) (w : InstanceId) (f : Inst → Inst) : (modInst s w f).lastPoison = s.lastPoison := rfl
@[simp] theorem modInst_mem (s : State) (w : InstanceId) (f : Inst → Inst) : (modInst s w f).mem = s.mem := rfl
@[simp] theorem modInst_hostMem (s : State) (w : InstanceId) (f : Inst → Inst) : (modInst s w f).hostMem = s.hostMem := rfl
@[simp] theorem modInst_partnerMem (s : State) (w : InstanceId) (f : Inst → Inst) : (modInst s w f).partnerMem = s.partnerMem := rfl
@[simp] theorem modInst_gh (s : State) (w : InstanceId) (f : Inst → Inst) : (modInst s w f).gh = { s.gh with insts := s.gh.insts.map (fun x => if x.id = w then f x else x) } := rfl
@[simp] theorem modInst_sync (s : State) (w : InstanceId) (f : Inst → Inst) : (modInst s w f).sync = s.sync := rfl
@[simp] theorem modInst_tl (s : State) (w : InstanceId) (f : Inst → Inst) : (modInst s w f).tl = s.tl := rfl
@[simp] theorem modInst_ms (s : State) (w : InstanceId) (f : Inst → Inst) : (modInst s w f).ms = s.ms := rfl
@[simp] theorem modInst_part (s : State) (w : InstanceId) (f : Inst → Inst) : (modInst s w f).part = s.part := rfl
@[simp] theorem modInst_sun (s : State) (w : InstanceId) (f : Inst → Inst) : (modInst s w f).sun = s.sun := rfl
@[simp] theorem modInst_fe (s : State) (w : InstanceId) (f : Inst → Inst) : (modInst s w f).fe = s.fe := rfl
@[simp] theorem modInst_mz (s : State) (w : InstanceId) (f : Inst → Inst) : (modInst s w f).mz = s.mz := rfl
@[simp] theorem modInst_bv (s : State) (w : InstanceId) (f : Inst → Inst) : (modInst s w f).bv = s.bv := rfl
@[simp] theorem modInst_ln (s : State) (w : InstanceId) (f : Inst → Inst) : (modInst s w f).ln = s.ln := rfl
@[simp] theorem modInst_rs (s : State) (w : InstanceId) (f : Inst → Inst) : (modInst s w f).rs = s.rs := rfl
@[simp] theorem modInst_pw (s : State) (w : InstanceId) (f : Inst → Inst) : (modInst s w f).pw = s.pw := rfl
@[simp] theorem modInst_lg (s : State) (w : InstanceId) (f : Inst → Inst) : (modInst s w f).lg = s.lg := rfl
@[simp] theorem modInst_db (s : State) (w : InstanceId) (f : Inst → Inst) : (modInst s w f).db = s.db := rfl
@[simp] theorem modInst_hi (s : State) (w : InstanceId) (f : Inst → Inst) : (modInst s w f).hi = s.hi := rfl

/-! ### delInst -/

@[simp] theorem delInst_pending (s : State) (w : InstanceId) : (delInst s w).pending = s.pending := rfl
@[simp] theorem delInst_free (s : State) (w : InstanceId) : (delInst s w).free = s.free := rfl
@[simp] theorem delInst_lastRead (s : State) (w : InstanceId) : (delInst s w).lastRead = s.lastRead := rfl
@[simp] theorem delInst_lastBytes (s : State) (w : InstanceId) : (delInst s w).lastBytes = s.lastBytes := rfl
@[simp] theorem delInst_lastPoison (s : State) (w : InstanceId) : (delInst s w).lastPoison = s.lastPoison := rfl
@[simp] theorem delInst_mem (s : State) (w : InstanceId) : (delInst s w).mem = s.mem := rfl
@[simp] theorem delInst_hostMem (s : State) (w : InstanceId) : (delInst s w).hostMem = s.hostMem := rfl
@[simp] theorem delInst_partnerMem (s : State) (w : InstanceId) : (delInst s w).partnerMem = s.partnerMem := rfl
@[simp] theorem delInst_gh (s : State) (w : InstanceId) : (delInst s w).gh = { s.gh with insts := s.gh.insts.filter (fun x => x.id != w) } := rfl
@[simp] theorem delInst_sync (s : State) (w : InstanceId) : (delInst s w).sync = s.sync := rfl
@[simp] theorem delInst_tl (s : State) (w : InstanceId) : (delInst s w).tl = s.tl := rfl
@[simp] theorem delInst_ms (s : State) (w : InstanceId) : (delInst s w).ms = s.ms := rfl
@[simp] theorem delInst_part (s : State) (w : InstanceId) : (delInst s w).part = s.part := rfl
@[simp] theorem delInst_sun (s : State) (w : InstanceId) : (delInst s w).sun = s.sun := rfl
@[simp] theorem delInst_fe (s : State) (w : InstanceId) : (delInst s w).fe = s.fe := rfl
@[simp] theorem delInst_mz (s : State) (w : InstanceId) : (delInst s w).mz = s.mz := rfl
@[simp] theorem delInst_bv (s : State) (w : InstanceId) : (delInst s w).bv = s.bv := rfl
@[simp] theorem delInst_ln (s : State) (w : InstanceId) : (delInst s w).ln = s.ln := rfl
@[simp] theorem delInst_rs (s : State) (w : InstanceId) : (delInst s w).rs = s.rs := rfl
@[simp] theorem delInst_pw (s : State) (w : InstanceId) : (delInst s w).pw = s.pw := rfl
@[simp] theorem delInst_lg (s : State) (w : InstanceId) : (delInst s w).lg = s.lg := rfl
@[simp] theorem delInst_db (s : State) (w : InstanceId) : (delInst s w).db = s.db := rfl
@[simp] theorem delInst_hi (s : State) (w : InstanceId) : (delInst s w).hi = s.hi := rfl

/-! ### setCtx -/

@[simp] theorem setCtx_pending (s : State) (c : CtxId) (x : Context) : (setCtx s c x).pending = s.pending := rfl
@[simp] theorem setCtx_free (s : State) (c : CtxId) (x : Context) : (setCtx s c x).free = s.free := rfl
@[simp] theorem setCtx_lastRead (s : State) (c : CtxId) (x : Context) : (setCtx s c x).lastRead = s.lastRead := rfl
@[simp] theorem setCtx_lastBytes (s : State) (c : CtxId) (x : Context) : (setCtx s c x).lastBytes = s.lastBytes := rfl
@[simp] theorem setCtx_lastPoison (s : State) (c : CtxId) (x : Context) : (setCtx s c x).lastPoison = s.lastPoison := rfl
@[simp] theorem setCtx_mem (s : State) (c : CtxId) (x : Context) : (setCtx s c x).mem = s.mem := rfl
@[simp] theorem setCtx_hostMem (s : State) (c : CtxId) (x : Context) : (setCtx s c x).hostMem = s.hostMem := rfl
@[simp] theorem setCtx_partnerMem (s : State) (c : CtxId) (x : Context) : (setCtx s c x).partnerMem = s.partnerMem := rfl
@[simp] theorem setCtx_gh (s : State) (c : CtxId) (x : Context) : (setCtx s c x).gh = { s.gh with contexts := tabPut s.gh.contexts c.val x } := rfl
@[simp] theorem setCtx_sync (s : State) (c : CtxId) (x : Context) : (setCtx s c x).sync = s.sync := rfl
@[simp] theorem setCtx_tl (s : State) (c : CtxId) (x : Context) : (setCtx s c x).tl = s.tl := rfl
@[simp] theorem setCtx_ms (s : State) (c : CtxId) (x : Context) : (setCtx s c x).ms = s.ms := rfl
@[simp] theorem setCtx_part (s : State) (c : CtxId) (x : Context) : (setCtx s c x).part = s.part := rfl
@[simp] theorem setCtx_sun (s : State) (c : CtxId) (x : Context) : (setCtx s c x).sun = s.sun := rfl
@[simp] theorem setCtx_fe (s : State) (c : CtxId) (x : Context) : (setCtx s c x).fe = s.fe := rfl
@[simp] theorem setCtx_mz (s : State) (c : CtxId) (x : Context) : (setCtx s c x).mz = s.mz := rfl
@[simp] theorem setCtx_bv (s : State) (c : CtxId) (x : Context) : (setCtx s c x).bv = s.bv := rfl
@[simp] theorem setCtx_ln (s : State) (c : CtxId) (x : Context) : (setCtx s c x).ln = s.ln := rfl
@[simp] theorem setCtx_rs (s : State) (c : CtxId) (x : Context) : (setCtx s c x).rs = s.rs := rfl
@[simp] theorem setCtx_pw (s : State) (c : CtxId) (x : Context) : (setCtx s c x).pw = s.pw := rfl
@[simp] theorem setCtx_lg (s : State) (c : CtxId) (x : Context) : (setCtx s c x).lg = s.lg := rfl
@[simp] theorem setCtx_db (s : State) (c : CtxId) (x : Context) : (setCtx s c x).db = s.db := rfl
@[simp] theorem setCtx_hi (s : State) (c : CtxId) (x : Context) : (setCtx s c x).hi = s.hi := rfl

/-! ### setTile -/

@[simp] theorem setTile_pending (s : State) (k : TileId) (x : Tile) : (setTile s k x).pending = s.pending := rfl
@[simp] theorem setTile_free (s : State) (k : TileId) (x : Tile) : (setTile s k x).free = s.free := rfl
@[simp] theorem setTile_lastRead (s : State) (k : TileId) (x : Tile) : (setTile s k x).lastRead = s.lastRead := rfl
@[simp] theorem setTile_lastBytes (s : State) (k : TileId) (x : Tile) : (setTile s k x).lastBytes = s.lastBytes := rfl
@[simp] theorem setTile_lastPoison (s : State) (k : TileId) (x : Tile) : (setTile s k x).lastPoison = s.lastPoison := rfl
@[simp] theorem setTile_mem (s : State) (k : TileId) (x : Tile) : (setTile s k x).mem = s.mem := rfl
@[simp] theorem setTile_hostMem (s : State) (k : TileId) (x : Tile) : (setTile s k x).hostMem = s.hostMem := rfl
@[simp] theorem setTile_partnerMem (s : State) (k : TileId) (x : Tile) : (setTile s k x).partnerMem = s.partnerMem := rfl
@[simp] theorem setTile_gh (s : State) (k : TileId) (x : Tile) : (setTile s k x).gh = s.gh := rfl
@[simp] theorem setTile_sync (s : State) (k : TileId) (x : Tile) : (setTile s k x).sync = s.sync := rfl
@[simp] theorem setTile_tl (s : State) (k : TileId) (x : Tile) : (setTile s k x).tl = { s.tl with tiles := tabPut s.tl.tiles k.val x } := rfl
@[simp] theorem setTile_ms (s : State) (k : TileId) (x : Tile) : (setTile s k x).ms = s.ms := rfl
@[simp] theorem setTile_part (s : State) (k : TileId) (x : Tile) : (setTile s k x).part = s.part := rfl
@[simp] theorem setTile_sun (s : State) (k : TileId) (x : Tile) : (setTile s k x).sun = s.sun := rfl
@[simp] theorem setTile_fe (s : State) (k : TileId) (x : Tile) : (setTile s k x).fe = s.fe := rfl
@[simp] theorem setTile_mz (s : State) (k : TileId) (x : Tile) : (setTile s k x).mz = s.mz := rfl
@[simp] theorem setTile_bv (s : State) (k : TileId) (x : Tile) : (setTile s k x).bv = s.bv := rfl
@[simp] theorem setTile_ln (s : State) (k : TileId) (x : Tile) : (setTile s k x).ln = s.ln := rfl
@[simp] theorem setTile_rs (s : State) (k : TileId) (x : Tile) : (setTile s k x).rs = s.rs := rfl
@[simp] theorem setTile_pw (s : State) (k : TileId) (x : Tile) : (setTile s k x).pw = s.pw := rfl
@[simp] theorem setTile_lg (s : State) (k : TileId) (x : Tile) : (setTile s k x).lg = s.lg := rfl
@[simp] theorem setTile_db (s : State) (k : TileId) (x : Tile) : (setTile s k x).db = s.db := rfl
@[simp] theorem setTile_hi (s : State) (k : TileId) (x : Tile) : (setTile s k x).hi = s.hi := rfl

/-! ### setChains -/

@[simp] theorem setChains_pending (s : State) (l : List Chain) : (setChains s l).pending = s.pending := rfl
@[simp] theorem setChains_free (s : State) (l : List Chain) : (setChains s l).free = s.free := rfl
@[simp] theorem setChains_lastRead (s : State) (l : List Chain) : (setChains s l).lastRead = s.lastRead := rfl
@[simp] theorem setChains_lastBytes (s : State) (l : List Chain) : (setChains s l).lastBytes = s.lastBytes := rfl
@[simp] theorem setChains_lastPoison (s : State) (l : List Chain) : (setChains s l).lastPoison = s.lastPoison := rfl
@[simp] theorem setChains_mem (s : State) (l : List Chain) : (setChains s l).mem = s.mem := rfl
@[simp] theorem setChains_hostMem (s : State) (l : List Chain) : (setChains s l).hostMem = s.hostMem := rfl
@[simp] theorem setChains_partnerMem (s : State) (l : List Chain) : (setChains s l).partnerMem = s.partnerMem := rfl
@[simp] theorem setChains_gh (s : State) (l : List Chain) : (setChains s l).gh = s.gh := rfl
@[simp] theorem setChains_sync (s : State) (l : List Chain) : (setChains s l).sync = s.sync := rfl
@[simp] theorem setChains_tl (s : State) (l : List Chain) : (setChains s l).tl = { s.tl with chains := l } := rfl
@[simp] theorem setChains_ms (s : State) (l : List Chain) : (setChains s l).ms = s.ms := rfl
@[simp] theorem setChains_part (s : State) (l : List Chain) : (setChains s l).part = s.part := rfl
@[simp] theorem setChains_sun (s : State) (l : List Chain) : (setChains s l).sun = s.sun := rfl
@[simp] theorem setChains_fe (s : State) (l : List Chain) : (setChains s l).fe = s.fe := rfl
@[simp] theorem setChains_mz (s : State) (l : List Chain) : (setChains s l).mz = s.mz := rfl
@[simp] theorem setChains_bv (s : State) (l : List Chain) : (setChains s l).bv = s.bv := rfl
@[simp] theorem setChains_ln (s : State) (l : List Chain) : (setChains s l).ln = s.ln := rfl
@[simp] theorem setChains_rs (s : State) (l : List Chain) : (setChains s l).rs = s.rs := rfl
@[simp] theorem setChains_pw (s : State) (l : List Chain) : (setChains s l).pw = s.pw := rfl
@[simp] theorem setChains_lg (s : State) (l : List Chain) : (setChains s l).lg = s.lg := rfl
@[simp] theorem setChains_db (s : State) (l : List Chain) : (setChains s l).db = s.db := rfl
@[simp] theorem setChains_hi (s : State) (l : List Chain) : (setChains s l).hi = s.hi := rfl

/-! ### setShelf -/

@[simp] theorem setShelf_pending (s : State) (p : Nat) (u : ShelfUse) : (setShelf s p u).pending = s.pending := rfl
@[simp] theorem setShelf_free (s : State) (p : Nat) (u : ShelfUse) : (setShelf s p u).free = s.free := rfl
@[simp] theorem setShelf_lastRead (s : State) (p : Nat) (u : ShelfUse) : (setShelf s p u).lastRead = s.lastRead := rfl
@[simp] theorem setShelf_lastBytes (s : State) (p : Nat) (u : ShelfUse) : (setShelf s p u).lastBytes = s.lastBytes := rfl
@[simp] theorem setShelf_lastPoison (s : State) (p : Nat) (u : ShelfUse) : (setShelf s p u).lastPoison = s.lastPoison := rfl
@[simp] theorem setShelf_mem (s : State) (p : Nat) (u : ShelfUse) : (setShelf s p u).mem = s.mem := rfl
@[simp] theorem setShelf_hostMem (s : State) (p : Nat) (u : ShelfUse) : (setShelf s p u).hostMem = s.hostMem := rfl
@[simp] theorem setShelf_partnerMem (s : State) (p : Nat) (u : ShelfUse) : (setShelf s p u).partnerMem = s.partnerMem := rfl
@[simp] theorem setShelf_gh (s : State) (p : Nat) (u : ShelfUse) : (setShelf s p u).gh = s.gh := rfl
@[simp] theorem setShelf_sync (s : State) (p : Nat) (u : ShelfUse) : (setShelf s p u).sync = s.sync := rfl
@[simp] theorem setShelf_tl (s : State) (p : Nat) (u : ShelfUse) : (setShelf s p u).tl = { s.tl with shelves := tabSet .free s.tl.shelves p u } := rfl
@[simp] theorem setShelf_ms (s : State) (p : Nat) (u : ShelfUse) : (setShelf s p u).ms = s.ms := rfl
@[simp] theorem setShelf_part (s : State) (p : Nat) (u : ShelfUse) : (setShelf s p u).part = s.part := rfl
@[simp] theorem setShelf_sun (s : State) (p : Nat) (u : ShelfUse) : (setShelf s p u).sun = s.sun := rfl
@[simp] theorem setShelf_fe (s : State) (p : Nat) (u : ShelfUse) : (setShelf s p u).fe = s.fe := rfl
@[simp] theorem setShelf_mz (s : State) (p : Nat) (u : ShelfUse) : (setShelf s p u).mz = s.mz := rfl
@[simp] theorem setShelf_bv (s : State) (p : Nat) (u : ShelfUse) : (setShelf s p u).bv = s.bv := rfl
@[simp] theorem setShelf_ln (s : State) (p : Nat) (u : ShelfUse) : (setShelf s p u).ln = s.ln := rfl
@[simp] theorem setShelf_rs (s : State) (p : Nat) (u : ShelfUse) : (setShelf s p u).rs = s.rs := rfl
@[simp] theorem setShelf_pw (s : State) (p : Nat) (u : ShelfUse) : (setShelf s p u).pw = s.pw := rfl
@[simp] theorem setShelf_lg (s : State) (p : Nat) (u : ShelfUse) : (setShelf s p u).lg = s.lg := rfl
@[simp] theorem setShelf_db (s : State) (p : Nat) (u : ShelfUse) : (setShelf s p u).db = s.db := rfl
@[simp] theorem setShelf_hi (s : State) (p : Nat) (u : ShelfUse) : (setShelf s p u).hi = s.hi := rfl

/-! ### setDie -/

@[simp] theorem setDie_pending (s : State) (d : Nat) (x : DieState) : (setDie s d x).pending = s.pending := rfl
@[simp] theorem setDie_free (s : State) (d : Nat) (x : DieState) : (setDie s d x).free = s.free := rfl
@[simp] theorem setDie_lastRead (s : State) (d : Nat) (x : DieState) : (setDie s d x).lastRead = s.lastRead := rfl
@[simp] theorem setDie_lastBytes (s : State) (d : Nat) (x : DieState) : (setDie s d x).lastBytes = s.lastBytes := rfl
@[simp] theorem setDie_lastPoison (s : State) (d : Nat) (x : DieState) : (setDie s d x).lastPoison = s.lastPoison := rfl
@[simp] theorem setDie_mem (s : State) (d : Nat) (x : DieState) : (setDie s d x).mem = s.mem := rfl
@[simp] theorem setDie_hostMem (s : State) (d : Nat) (x : DieState) : (setDie s d x).hostMem = s.hostMem := rfl
@[simp] theorem setDie_partnerMem (s : State) (d : Nat) (x : DieState) : (setDie s d x).partnerMem = s.partnerMem := rfl
@[simp] theorem setDie_gh (s : State) (d : Nat) (x : DieState) : (setDie s d x).gh = s.gh := rfl
@[simp] theorem setDie_sync (s : State) (d : Nat) (x : DieState) : (setDie s d x).sync = s.sync := rfl
@[simp] theorem setDie_tl (s : State) (d : Nat) (x : DieState) : (setDie s d x).tl = s.tl := rfl
@[simp] theorem setDie_ms (s : State) (d : Nat) (x : DieState) : (setDie s d x).ms = { s.ms with dies := tabSet .service s.ms.dies d x } := rfl
@[simp] theorem setDie_part (s : State) (d : Nat) (x : DieState) : (setDie s d x).part = s.part := rfl
@[simp] theorem setDie_sun (s : State) (d : Nat) (x : DieState) : (setDie s d x).sun = s.sun := rfl
@[simp] theorem setDie_fe (s : State) (d : Nat) (x : DieState) : (setDie s d x).fe = s.fe := rfl
@[simp] theorem setDie_mz (s : State) (d : Nat) (x : DieState) : (setDie s d x).mz = s.mz := rfl
@[simp] theorem setDie_bv (s : State) (d : Nat) (x : DieState) : (setDie s d x).bv = s.bv := rfl
@[simp] theorem setDie_ln (s : State) (d : Nat) (x : DieState) : (setDie s d x).ln = s.ln := rfl
@[simp] theorem setDie_rs (s : State) (d : Nat) (x : DieState) : (setDie s d x).rs = s.rs := rfl
@[simp] theorem setDie_pw (s : State) (d : Nat) (x : DieState) : (setDie s d x).pw = s.pw := rfl
@[simp] theorem setDie_lg (s : State) (d : Nat) (x : DieState) : (setDie s d x).lg = s.lg := rfl
@[simp] theorem setDie_db (s : State) (d : Nat) (x : DieState) : (setDie s d x).db = s.db := rfl
@[simp] theorem setDie_hi (s : State) (d : Nat) (x : DieState) : (setDie s d x).hi = s.hi := rfl

/-! ### setChannel -/

@[simp] theorem setChannel_pending (s : State) (k c : Nat) (x : Channel) : (setChannel s k c x).pending = s.pending := rfl
@[simp] theorem setChannel_free (s : State) (k c : Nat) (x : Channel) : (setChannel s k c x).free = s.free := rfl
@[simp] theorem setChannel_lastRead (s : State) (k c : Nat) (x : Channel) : (setChannel s k c x).lastRead = s.lastRead := rfl
@[simp] theorem setChannel_lastBytes (s : State) (k c : Nat) (x : Channel) : (setChannel s k c x).lastBytes = s.lastBytes := rfl
@[simp] theorem setChannel_lastPoison (s : State) (k c : Nat) (x : Channel) : (setChannel s k c x).lastPoison = s.lastPoison := rfl
@[simp] theorem setChannel_mem (s : State) (k c : Nat) (x : Channel) : (setChannel s k c x).mem = s.mem := rfl
@[simp] theorem setChannel_hostMem (s : State) (k c : Nat) (x : Channel) : (setChannel s k c x).hostMem = s.hostMem := rfl
@[simp] theorem setChannel_partnerMem (s : State) (k c : Nat) (x : Channel) : (setChannel s k c x).partnerMem = s.partnerMem := rfl
@[simp] theorem setChannel_gh (s : State) (k c : Nat) (x : Channel) : (setChannel s k c x).gh = s.gh := rfl
@[simp] theorem setChannel_sync (s : State) (k c : Nat) (x : Channel) : (setChannel s k c x).sync = s.sync := rfl
@[simp] theorem setChannel_tl (s : State) (k c : Nat) (x : Channel) : (setChannel s k c x).tl = s.tl := rfl
@[simp] theorem setChannel_ms (s : State) (k c : Nat) (x : Channel) : (setChannel s k c x).ms = { s.ms with channels := tabPut s.ms.channels (8 * k + c) x } := rfl
@[simp] theorem setChannel_part (s : State) (k c : Nat) (x : Channel) : (setChannel s k c x).part = s.part := rfl
@[simp] theorem setChannel_sun (s : State) (k c : Nat) (x : Channel) : (setChannel s k c x).sun = s.sun := rfl
@[simp] theorem setChannel_fe (s : State) (k c : Nat) (x : Channel) : (setChannel s k c x).fe = s.fe := rfl
@[simp] theorem setChannel_mz (s : State) (k c : Nat) (x : Channel) : (setChannel s k c x).mz = s.mz := rfl
@[simp] theorem setChannel_bv (s : State) (k c : Nat) (x : Channel) : (setChannel s k c x).bv = s.bv := rfl
@[simp] theorem setChannel_ln (s : State) (k c : Nat) (x : Channel) : (setChannel s k c x).ln = s.ln := rfl
@[simp] theorem setChannel_rs (s : State) (k c : Nat) (x : Channel) : (setChannel s k c x).rs = s.rs := rfl
@[simp] theorem setChannel_pw (s : State) (k c : Nat) (x : Channel) : (setChannel s k c x).pw = s.pw := rfl
@[simp] theorem setChannel_lg (s : State) (k c : Nat) (x : Channel) : (setChannel s k c x).lg = s.lg := rfl
@[simp] theorem setChannel_db (s : State) (k c : Nat) (x : Channel) : (setChannel s k c x).db = s.db := rfl
@[simp] theorem setChannel_hi (s : State) (k c : Nat) (x : Channel) : (setChannel s k c x).hi = s.hi := rfl

/-! ### bumpTopology -/

@[simp] theorem bumpTopology_pending (s : State) : (bumpTopology s).pending = s.pending := rfl
@[simp] theorem bumpTopology_free (s : State) : (bumpTopology s).free = s.free := rfl
@[simp] theorem bumpTopology_lastRead (s : State) : (bumpTopology s).lastRead = s.lastRead := rfl
@[simp] theorem bumpTopology_lastBytes (s : State) : (bumpTopology s).lastBytes = s.lastBytes := rfl
@[simp] theorem bumpTopology_lastPoison (s : State) : (bumpTopology s).lastPoison = s.lastPoison := rfl
@[simp] theorem bumpTopology_mem (s : State) : (bumpTopology s).mem = s.mem := rfl
@[simp] theorem bumpTopology_hostMem (s : State) : (bumpTopology s).hostMem = s.hostMem := rfl
@[simp] theorem bumpTopology_partnerMem (s : State) : (bumpTopology s).partnerMem = s.partnerMem := rfl
@[simp] theorem bumpTopology_gh (s : State) : (bumpTopology s).gh = s.gh := rfl
@[simp] theorem bumpTopology_sync (s : State) : (bumpTopology s).sync = s.sync := rfl
@[simp] theorem bumpTopology_tl (s : State) : (bumpTopology s).tl = s.tl := rfl
@[simp] theorem bumpTopology_ms (s : State) : (bumpTopology s).ms = { s.ms with generation := s.ms.generation + 2 } := rfl
@[simp] theorem bumpTopology_part (s : State) : (bumpTopology s).part = s.part := rfl
@[simp] theorem bumpTopology_sun (s : State) : (bumpTopology s).sun = s.sun := rfl
@[simp] theorem bumpTopology_fe (s : State) : (bumpTopology s).fe = s.fe := rfl
@[simp] theorem bumpTopology_mz (s : State) : (bumpTopology s).mz = s.mz := rfl
@[simp] theorem bumpTopology_bv (s : State) : (bumpTopology s).bv = s.bv := rfl
@[simp] theorem bumpTopology_ln (s : State) : (bumpTopology s).ln = s.ln := rfl
@[simp] theorem bumpTopology_rs (s : State) : (bumpTopology s).rs = s.rs := rfl
@[simp] theorem bumpTopology_pw (s : State) : (bumpTopology s).pw = s.pw := rfl
@[simp] theorem bumpTopology_lg (s : State) : (bumpTopology s).lg = s.lg := rfl
@[simp] theorem bumpTopology_db (s : State) : (bumpTopology s).db = s.db := rfl
@[simp] theorem bumpTopology_hi (s : State) : (bumpTopology s).hi = s.hi := rfl

/-! ### setModule -/

@[simp] theorem setModule_pending (s : State) (d i : Nat) (m : Module) : (setModule s d i m).pending = s.pending := rfl
@[simp] theorem setModule_free (s : State) (d i : Nat) (m : Module) : (setModule s d i m).free = s.free := rfl
@[simp] theorem setModule_lastRead (s : State) (d i : Nat) (m : Module) : (setModule s d i m).lastRead = s.lastRead := rfl
@[simp] theorem setModule_lastBytes (s : State) (d i : Nat) (m : Module) : (setModule s d i m).lastBytes = s.lastBytes := rfl
@[simp] theorem setModule_lastPoison (s : State) (d i : Nat) (m : Module) : (setModule s d i m).lastPoison = s.lastPoison := rfl
@[simp] theorem setModule_mem (s : State) (d i : Nat) (m : Module) : (setModule s d i m).mem = s.mem := rfl
@[simp] theorem setModule_hostMem (s : State) (d i : Nat) (m : Module) : (setModule s d i m).hostMem = s.hostMem := rfl
@[simp] theorem setModule_partnerMem (s : State) (d i : Nat) (m : Module) : (setModule s d i m).partnerMem = s.partnerMem := rfl
@[simp] theorem setModule_gh (s : State) (d i : Nat) (m : Module) : (setModule s d i m).gh = s.gh := rfl
@[simp] theorem setModule_sync (s : State) (d i : Nat) (m : Module) : (setModule s d i m).sync = s.sync := rfl
@[simp] theorem setModule_tl (s : State) (d i : Nat) (m : Module) : (setModule s d i m).tl = s.tl := rfl
@[simp] theorem setModule_ms (s : State) (d i : Nat) (m : Module) : (setModule s d i m).ms = s.ms := rfl
@[simp] theorem setModule_part (s : State) (d i : Nat) (m : Module) : (setModule s d i m).part = s.part := rfl
@[simp] theorem setModule_sun (s : State) (d i : Nat) (m : Module) : (setModule s d i m).sun = s.sun := rfl
@[simp] theorem setModule_fe (s : State) (d i : Nat) (m : Module) : (setModule s d i m).fe = s.fe := rfl
@[simp] theorem setModule_mz (s : State) (d i : Nat) (m : Module) : (setModule s d i m).mz = s.mz := rfl
@[simp] theorem setModule_bv (s : State) (d i : Nat) (m : Module) : (setModule s d i m).bv = s.bv := rfl
@[simp] theorem setModule_ln (s : State) (d i : Nat) (m : Module) : (setModule s d i m).ln = { s.ln with modules := tabPut s.ln.modules (16 * d + i) m } := rfl
@[simp] theorem setModule_rs (s : State) (d i : Nat) (m : Module) : (setModule s d i m).rs = s.rs := rfl
@[simp] theorem setModule_pw (s : State) (d i : Nat) (m : Module) : (setModule s d i m).pw = s.pw := rfl
@[simp] theorem setModule_lg (s : State) (d i : Nat) (m : Module) : (setModule s d i m).lg = s.lg := rfl
@[simp] theorem setModule_db (s : State) (d i : Nat) (m : Module) : (setModule s d i m).db = s.db := rfl
@[simp] theorem setModule_hi (s : State) (d i : Nat) (m : Module) : (setModule s d i m).hi = s.hi := rfl

/-! ### setKilnPower -/

@[simp] theorem setKilnPower_pending (s : State) (k : KilnId) (x : KilnPower) : (setKilnPower s k x).pending = s.pending := rfl
@[simp] theorem setKilnPower_free (s : State) (k : KilnId) (x : KilnPower) : (setKilnPower s k x).free = s.free := rfl
@[simp] theorem setKilnPower_lastRead (s : State) (k : KilnId) (x : KilnPower) : (setKilnPower s k x).lastRead = s.lastRead := rfl
@[simp] theorem setKilnPower_lastBytes (s : State) (k : KilnId) (x : KilnPower) : (setKilnPower s k x).lastBytes = s.lastBytes := rfl
@[simp] theorem setKilnPower_lastPoison (s : State) (k : KilnId) (x : KilnPower) : (setKilnPower s k x).lastPoison = s.lastPoison := rfl
@[simp] theorem setKilnPower_mem (s : State) (k : KilnId) (x : KilnPower) : (setKilnPower s k x).mem = s.mem := rfl
@[simp] theorem setKilnPower_hostMem (s : State) (k : KilnId) (x : KilnPower) : (setKilnPower s k x).hostMem = s.hostMem := rfl
@[simp] theorem setKilnPower_partnerMem (s : State) (k : KilnId) (x : KilnPower) : (setKilnPower s k x).partnerMem = s.partnerMem := rfl
@[simp] theorem setKilnPower_gh (s : State) (k : KilnId) (x : KilnPower) : (setKilnPower s k x).gh = s.gh := rfl
@[simp] theorem setKilnPower_sync (s : State) (k : KilnId) (x : KilnPower) : (setKilnPower s k x).sync = s.sync := rfl
@[simp] theorem setKilnPower_tl (s : State) (k : KilnId) (x : KilnPower) : (setKilnPower s k x).tl = s.tl := rfl
@[simp] theorem setKilnPower_ms (s : State) (k : KilnId) (x : KilnPower) : (setKilnPower s k x).ms = s.ms := rfl
@[simp] theorem setKilnPower_part (s : State) (k : KilnId) (x : KilnPower) : (setKilnPower s k x).part = s.part := rfl
@[simp] theorem setKilnPower_sun (s : State) (k : KilnId) (x : KilnPower) : (setKilnPower s k x).sun = s.sun := rfl
@[simp] theorem setKilnPower_fe (s : State) (k : KilnId) (x : KilnPower) : (setKilnPower s k x).fe = s.fe := rfl
@[simp] theorem setKilnPower_mz (s : State) (k : KilnId) (x : KilnPower) : (setKilnPower s k x).mz = s.mz := rfl
@[simp] theorem setKilnPower_bv (s : State) (k : KilnId) (x : KilnPower) : (setKilnPower s k x).bv = s.bv := rfl
@[simp] theorem setKilnPower_ln (s : State) (k : KilnId) (x : KilnPower) : (setKilnPower s k x).ln = s.ln := rfl
@[simp] theorem setKilnPower_rs (s : State) (k : KilnId) (x : KilnPower) : (setKilnPower s k x).rs = s.rs := rfl
@[simp] theorem setKilnPower_pw (s : State) (k : KilnId) (x : KilnPower) : (setKilnPower s k x).pw = { s.pw with kilns := tabPut s.pw.kilns k.val x } := rfl
@[simp] theorem setKilnPower_lg (s : State) (k : KilnId) (x : KilnPower) : (setKilnPower s k x).lg = s.lg := rfl
@[simp] theorem setKilnPower_db (s : State) (k : KilnId) (x : KilnPower) : (setKilnPower s k x).db = s.db := rfl
@[simp] theorem setKilnPower_hi (s : State) (k : KilnId) (x : KilnPower) : (setKilnPower s k x).hi = s.hi := rfl

/-! ### setFnPower -/

@[simp] theorem setFnPower_pending (s : State) (f : Nat) (x : FnPower) : (setFnPower s f x).pending = s.pending := rfl
@[simp] theorem setFnPower_free (s : State) (f : Nat) (x : FnPower) : (setFnPower s f x).free = s.free := rfl
@[simp] theorem setFnPower_lastRead (s : State) (f : Nat) (x : FnPower) : (setFnPower s f x).lastRead = s.lastRead := rfl
@[simp] theorem setFnPower_lastBytes (s : State) (f : Nat) (x : FnPower) : (setFnPower s f x).lastBytes = s.lastBytes := rfl
@[simp] theorem setFnPower_lastPoison (s : State) (f : Nat) (x : FnPower) : (setFnPower s f x).lastPoison = s.lastPoison := rfl
@[simp] theorem setFnPower_mem (s : State) (f : Nat) (x : FnPower) : (setFnPower s f x).mem = s.mem := rfl
@[simp] theorem setFnPower_hostMem (s : State) (f : Nat) (x : FnPower) : (setFnPower s f x).hostMem = s.hostMem := rfl
@[simp] theorem setFnPower_partnerMem (s : State) (f : Nat) (x : FnPower) : (setFnPower s f x).partnerMem = s.partnerMem := rfl
@[simp] theorem setFnPower_gh (s : State) (f : Nat) (x : FnPower) : (setFnPower s f x).gh = s.gh := rfl
@[simp] theorem setFnPower_sync (s : State) (f : Nat) (x : FnPower) : (setFnPower s f x).sync = s.sync := rfl
@[simp] theorem setFnPower_tl (s : State) (f : Nat) (x : FnPower) : (setFnPower s f x).tl = s.tl := rfl
@[simp] theorem setFnPower_ms (s : State) (f : Nat) (x : FnPower) : (setFnPower s f x).ms = s.ms := rfl
@[simp] theorem setFnPower_part (s : State) (f : Nat) (x : FnPower) : (setFnPower s f x).part = s.part := rfl
@[simp] theorem setFnPower_sun (s : State) (f : Nat) (x : FnPower) : (setFnPower s f x).sun = s.sun := rfl
@[simp] theorem setFnPower_fe (s : State) (f : Nat) (x : FnPower) : (setFnPower s f x).fe = s.fe := rfl
@[simp] theorem setFnPower_mz (s : State) (f : Nat) (x : FnPower) : (setFnPower s f x).mz = s.mz := rfl
@[simp] theorem setFnPower_bv (s : State) (f : Nat) (x : FnPower) : (setFnPower s f x).bv = s.bv := rfl
@[simp] theorem setFnPower_ln (s : State) (f : Nat) (x : FnPower) : (setFnPower s f x).ln = s.ln := rfl
@[simp] theorem setFnPower_rs (s : State) (f : Nat) (x : FnPower) : (setFnPower s f x).rs = s.rs := rfl
@[simp] theorem setFnPower_pw (s : State) (f : Nat) (x : FnPower) : (setFnPower s f x).pw = s.pw := rfl
@[simp] theorem setFnPower_lg (s : State) (f : Nat) (x : FnPower) : (setFnPower s f x).lg = s.lg := rfl
@[simp] theorem setFnPower_db (s : State) (f : Nat) (x : FnPower) : (setFnPower s f x).db = s.db := rfl
@[simp] theorem setFnPower_hi (s : State) (f : Nat) (x : FnPower) : (setFnPower s f x).hi = { s.hi with fns := tabPut s.hi.fns f x } := rfl

/-! ### setAgg -/

@[simp] theorem setAgg_pending (s : State) (d : Nat) (a : Aggregator) : (setAgg s d a).pending = s.pending := rfl
@[simp] theorem setAgg_free (s : State) (d : Nat) (a : Aggregator) : (setAgg s d a).free = s.free := rfl
@[simp] theorem setAgg_lastRead (s : State) (d : Nat) (a : Aggregator) : (setAgg s d a).lastRead = s.lastRead := rfl
@[simp] theorem setAgg_lastBytes (s : State) (d : Nat) (a : Aggregator) : (setAgg s d a).lastBytes = s.lastBytes := rfl
@[simp] theorem setAgg_lastPoison (s : State) (d : Nat) (a : Aggregator) : (setAgg s d a).lastPoison = s.lastPoison := rfl
@[simp] theorem setAgg_mem (s : State) (d : Nat) (a : Aggregator) : (setAgg s d a).mem = s.mem := rfl
@[simp] theorem setAgg_hostMem (s : State) (d : Nat) (a : Aggregator) : (setAgg s d a).hostMem = s.hostMem := rfl
@[simp] theorem setAgg_partnerMem (s : State) (d : Nat) (a : Aggregator) : (setAgg s d a).partnerMem = s.partnerMem := rfl
@[simp] theorem setAgg_gh (s : State) (d : Nat) (a : Aggregator) : (setAgg s d a).gh = s.gh := rfl
@[simp] theorem setAgg_sync (s : State) (d : Nat) (a : Aggregator) : (setAgg s d a).sync = s.sync := rfl
@[simp] theorem setAgg_tl (s : State) (d : Nat) (a : Aggregator) : (setAgg s d a).tl = s.tl := rfl
@[simp] theorem setAgg_ms (s : State) (d : Nat) (a : Aggregator) : (setAgg s d a).ms = s.ms := rfl
@[simp] theorem setAgg_part (s : State) (d : Nat) (a : Aggregator) : (setAgg s d a).part = s.part := rfl
@[simp] theorem setAgg_sun (s : State) (d : Nat) (a : Aggregator) : (setAgg s d a).sun = s.sun := rfl
@[simp] theorem setAgg_fe (s : State) (d : Nat) (a : Aggregator) : (setAgg s d a).fe = s.fe := rfl
@[simp] theorem setAgg_mz (s : State) (d : Nat) (a : Aggregator) : (setAgg s d a).mz = s.mz := rfl
@[simp] theorem setAgg_bv (s : State) (d : Nat) (a : Aggregator) : (setAgg s d a).bv = { s.bv with aggs := tabPut s.bv.aggs d a } := rfl
@[simp] theorem setAgg_ln (s : State) (d : Nat) (a : Aggregator) : (setAgg s d a).ln = s.ln := rfl
@[simp] theorem setAgg_rs (s : State) (d : Nat) (a : Aggregator) : (setAgg s d a).rs = s.rs := rfl
@[simp] theorem setAgg_pw (s : State) (d : Nat) (a : Aggregator) : (setAgg s d a).pw = s.pw := rfl
@[simp] theorem setAgg_lg (s : State) (d : Nat) (a : Aggregator) : (setAgg s d a).lg = s.lg := rfl
@[simp] theorem setAgg_db (s : State) (d : Nat) (a : Aggregator) : (setAgg s d a).db = s.db := rfl
@[simp] theorem setAgg_hi (s : State) (d : Nat) (a : Aggregator) : (setAgg s d a).hi = s.hi := rfl

/-! ### noteMoved -/

@[simp] theorem noteMoved_pending (s : State) (c : Class) : (noteMoved s c).pending = s.pending := rfl
@[simp] theorem noteMoved_free (s : State) (c : Class) : (noteMoved s c).free = s.free := rfl
@[simp] theorem noteMoved_lastRead (s : State) (c : Class) : (noteMoved s c).lastRead = s.lastRead := rfl
@[simp] theorem noteMoved_lastBytes (s : State) (c : Class) : (noteMoved s c).lastBytes = s.lastBytes := rfl
@[simp] theorem noteMoved_lastPoison (s : State) (c : Class) : (noteMoved s c).lastPoison = s.lastPoison := rfl
@[simp] theorem noteMoved_mem (s : State) (c : Class) : (noteMoved s c).mem = s.mem := rfl
@[simp] theorem noteMoved_hostMem (s : State) (c : Class) : (noteMoved s c).hostMem = s.hostMem := rfl
@[simp] theorem noteMoved_partnerMem (s : State) (c : Class) : (noteMoved s c).partnerMem = s.partnerMem := rfl
@[simp] theorem noteMoved_gh (s : State) (c : Class) : (noteMoved s c).gh = { s.gh with moved := s.gh.moved.set (classCode c) true } := rfl
@[simp] theorem noteMoved_sync (s : State) (c : Class) : (noteMoved s c).sync = s.sync := rfl
@[simp] theorem noteMoved_tl (s : State) (c : Class) : (noteMoved s c).tl = s.tl := rfl
@[simp] theorem noteMoved_ms (s : State) (c : Class) : (noteMoved s c).ms = s.ms := rfl
@[simp] theorem noteMoved_part (s : State) (c : Class) : (noteMoved s c).part = s.part := rfl
@[simp] theorem noteMoved_sun (s : State) (c : Class) : (noteMoved s c).sun = s.sun := rfl
@[simp] theorem noteMoved_fe (s : State) (c : Class) : (noteMoved s c).fe = s.fe := rfl
@[simp] theorem noteMoved_mz (s : State) (c : Class) : (noteMoved s c).mz = s.mz := rfl
@[simp] theorem noteMoved_bv (s : State) (c : Class) : (noteMoved s c).bv = s.bv := rfl
@[simp] theorem noteMoved_ln (s : State) (c : Class) : (noteMoved s c).ln = s.ln := rfl
@[simp] theorem noteMoved_rs (s : State) (c : Class) : (noteMoved s c).rs = s.rs := rfl
@[simp] theorem noteMoved_pw (s : State) (c : Class) : (noteMoved s c).pw = s.pw := rfl
@[simp] theorem noteMoved_lg (s : State) (c : Class) : (noteMoved s c).lg = s.lg := rfl
@[simp] theorem noteMoved_db (s : State) (c : Class) : (noteMoved s c).db = s.db := rfl
@[simp] theorem noteMoved_hi (s : State) (c : Class) : (noteMoved s c).hi = s.hi := rfl

/-! ### State.withPending -/

@[simp] theorem withPending_pending (s : State) (l : List Instr) : (State.withPending s l).pending = l := rfl
@[simp] theorem withPending_free (s : State) (l : List Instr) : (State.withPending s l).free = s.free := rfl
@[simp] theorem withPending_lastRead (s : State) (l : List Instr) : (State.withPending s l).lastRead = s.lastRead := rfl
@[simp] theorem withPending_lastBytes (s : State) (l : List Instr) : (State.withPending s l).lastBytes = s.lastBytes := rfl
@[simp] theorem withPending_lastPoison (s : State) (l : List Instr) : (State.withPending s l).lastPoison = s.lastPoison := rfl
@[simp] theorem withPending_mem (s : State) (l : List Instr) : (State.withPending s l).mem = s.mem := rfl
@[simp] theorem withPending_hostMem (s : State) (l : List Instr) : (State.withPending s l).hostMem = s.hostMem := rfl
@[simp] theorem withPending_partnerMem (s : State) (l : List Instr) : (State.withPending s l).partnerMem = s.partnerMem := rfl
@[simp] theorem withPending_gh (s : State) (l : List Instr) : (State.withPending s l).gh = s.gh := rfl
@[simp] theorem withPending_sync (s : State) (l : List Instr) : (State.withPending s l).sync = s.sync := rfl
@[simp] theorem withPending_tl (s : State) (l : List Instr) : (State.withPending s l).tl = s.tl := rfl
@[simp] theorem withPending_ms (s : State) (l : List Instr) : (State.withPending s l).ms = s.ms := rfl
@[simp] theorem withPending_part (s : State) (l : List Instr) : (State.withPending s l).part = s.part := rfl
@[simp] theorem withPending_sun (s : State) (l : List Instr) : (State.withPending s l).sun = s.sun := rfl
@[simp] theorem withPending_fe (s : State) (l : List Instr) : (State.withPending s l).fe = s.fe := rfl
@[simp] theorem withPending_mz (s : State) (l : List Instr) : (State.withPending s l).mz = s.mz := rfl
@[simp] theorem withPending_bv (s : State) (l : List Instr) : (State.withPending s l).bv = s.bv := rfl
@[simp] theorem withPending_ln (s : State) (l : List Instr) : (State.withPending s l).ln = s.ln := rfl
@[simp] theorem withPending_rs (s : State) (l : List Instr) : (State.withPending s l).rs = s.rs := rfl
@[simp] theorem withPending_pw (s : State) (l : List Instr) : (State.withPending s l).pw = s.pw := rfl
@[simp] theorem withPending_lg (s : State) (l : List Instr) : (State.withPending s l).lg = s.lg := rfl
@[simp] theorem withPending_db (s : State) (l : List Instr) : (State.withPending s l).db = s.db := rfl
@[simp] theorem withPending_hi (s : State) (l : List Instr) : (State.withPending s l).hi = s.hi := rfl

@[simp] theorem setIsland_pending (s : State) (i : Island) (x : IslandState) : (setIsland s i x).pending = s.pending := by cases i <;> rfl
@[simp] theorem setIsland_free (s : State) (i : Island) (x : IslandState) : (setIsland s i x).free = s.free := by cases i <;> rfl
@[simp] theorem setIsland_lastRead (s : State) (i : Island) (x : IslandState) : (setIsland s i x).lastRead = s.lastRead := by cases i <;> rfl
@[simp] theorem setIsland_lastBytes (s : State) (i : Island) (x : IslandState) : (setIsland s i x).lastBytes = s.lastBytes := by cases i <;> rfl
@[simp] theorem setIsland_lastPoison (s : State) (i : Island) (x : IslandState) : (setIsland s i x).lastPoison = s.lastPoison := by cases i <;> rfl
@[simp] theorem setIsland_mem (s : State) (i : Island) (x : IslandState) : (setIsland s i x).mem = s.mem := by cases i <;> rfl
@[simp] theorem setIsland_hostMem (s : State) (i : Island) (x : IslandState) : (setIsland s i x).hostMem = s.hostMem := by cases i <;> rfl
@[simp] theorem setIsland_partnerMem (s : State) (i : Island) (x : IslandState) : (setIsland s i x).partnerMem = s.partnerMem := by cases i <;> rfl
@[simp] theorem setIsland_gh (s : State) (i : Island) (x : IslandState) : (setIsland s i x).gh = s.gh := by cases i <;> rfl
@[simp] theorem setIsland_sync (s : State) (i : Island) (x : IslandState) : (setIsland s i x).sync = s.sync := by cases i <;> rfl
@[simp] theorem setIsland_tl (s : State) (i : Island) (x : IslandState) : (setIsland s i x).tl = s.tl := by cases i <;> rfl
@[simp] theorem setIsland_ms (s : State) (i : Island) (x : IslandState) : (setIsland s i x).ms = s.ms := by cases i <;> rfl
@[simp] theorem setIsland_part (s : State) (i : Island) (x : IslandState) : (setIsland s i x).part = s.part := by cases i <;> rfl
@[simp] theorem setIsland_sun (s : State) (i : Island) (x : IslandState) : (setIsland s i x).sun = s.sun := by cases i <;> rfl
@[simp] theorem setIsland_fe (s : State) (i : Island) (x : IslandState) : (setIsland s i x).fe = s.fe := by cases i <;> rfl
@[simp] theorem setIsland_mz (s : State) (i : Island) (x : IslandState) : (setIsland s i x).mz = s.mz := by cases i <;> rfl
@[simp] theorem setIsland_ln (s : State) (i : Island) (x : IslandState) : (setIsland s i x).ln = s.ln := by cases i <;> rfl
@[simp] theorem setIsland_rs (s : State) (i : Island) (x : IslandState) : (setIsland s i x).rs = s.rs := by cases i <;> rfl
@[simp] theorem setIsland_pw (s : State) (i : Island) (x : IslandState) : (setIsland s i x).pw = s.pw := by cases i <;> rfl
@[simp] theorem setIsland_lg (s : State) (i : Island) (x : IslandState) : (setIsland s i x).lg = s.lg := by cases i <;> rfl
@[simp] theorem setIsland_db (s : State) (i : Island) (x : IslandState) : (setIsland s i x).db = s.db := by cases i <;> rfl
@[simp] theorem setIsland_hi (s : State) (i : Island) (x : IslandState) : (setIsland s i x).hi = s.hi := by cases i <;> rfl

end Sys2Proof.Machine
end

