-- ==== Sys2Proof/Laws/Tab.lean ====
section
/-! SUPPORT. The laws of sparse tables: a read after a write, and reads of other keys. -/

namespace Sys2Proof.Machine

@[simp] theorem tabGet_nil {α : Type} (d : α) (i : Nat) : tabGet d [] i = d := rfl

theorem tabGet_tabDel_same {α : Type} (d : α) (t : Tab α) (i : Nat) : tabGet d (tabDel t i) i = d := by
  induction t with
  | nil => rfl
  | cons e r ih =>
    obtain ⟨k, v⟩ := e
    by_cases h : k = i <;> simp [tabDel, tabGet, h, ih]

theorem tabGet_tabDel_other {α : Type} (d : α) (t : Tab α) {i j : Nat} (h : j ≠ i) :
    tabGet d (tabDel t i) j = tabGet d t j := by
  induction t with
  | nil => rfl
  | cons e r ih =>
    obtain ⟨k, v⟩ := e
    by_cases hk : k = i
    · simp [tabDel, tabGet, hk, ih, Ne.symm h]
    · simp [tabDel, tabGet, hk, ih]

theorem tabGet_tabInsert_other {α : Type} (d : α) (t : Tab α) {i j : Nat} (x : α) (h : j ≠ i) :
    tabGet d (tabInsert t i x) j = tabGet d t j := by
  induction t with
  | nil => simp [tabInsert, tabGet, Ne.symm h]
  | cons e r ih =>
    obtain ⟨k, v⟩ := e
    by_cases hk : i < k <;> simp [tabInsert, tabGet, hk, ih, Ne.symm h]

theorem tabGet_tabInsert_del {α : Type} (d : α) (t : Tab α) (i : Nat) (x : α) :
    tabGet d (tabInsert (tabDel t i) i x) i = x := by
  induction t with
  | nil => simp [tabInsert, tabGet, tabDel]
  | cons e r ih =>
    obtain ⟨k, v⟩ := e
    by_cases hk : k = i
    · simp [tabDel, hk, ih]
    · by_cases hl : i < k <;> simp [tabDel, tabInsert, tabGet, hk, hl, ih]

/-- A read of the key just written gives what was written. -/
@[simp] theorem tabGet_tabPut_same {α : Type} (d : α) (t : Tab α) (i : Nat) (x : α) :
    tabGet d (tabPut t i x) i = x := tabGet_tabInsert_del d t i x

/-- A read of another key gives what it gave before the write. -/
theorem tabGet_tabPut_other {α : Type} (d : α) (t : Tab α) {i j : Nat} (x : α) (h : j ≠ i) :
    tabGet d (tabPut t i x) j = tabGet d t j := by
  rw [tabPut, tabGet_tabInsert_other d _ x h, tabGet_tabDel_other d t h]

@[simp] theorem tabGet_tabSet_same {α : Type} [DecidableEq α] (d : α) (t : Tab α) (i : Nat) (x : α) :
    tabGet d (tabSet d t i x) i = x := by
  by_cases h : x = d <;> simp [tabSet, h, tabGet_tabDel_same]

theorem tabGet_tabSet_other {α : Type} [DecidableEq α] (d : α) (t : Tab α) {i j : Nat} (x : α) (h : j ≠ i) :
    tabGet d (tabSet d t i x) j = tabGet d t j := by
  by_cases hx : x = d <;> simp [tabSet, hx, tabGet_tabDel_other d t h, tabGet_tabPut_other d t x h]

end Sys2Proof.Machine
end

