-- ==== Sys2Proof/Laws/Ops.lean ====
section
/-! SUPPORT. What the shared operations give: reads after the named updates, register writes of a tile,
and what issuing an instruction comes to under its normal conditions. -/

namespace Sys2Proof.Machine

/-! ## Reads after updates -/

@[simp] theorem tileOf_setTile_same (s : State) (k : TileId) (x : Tile) : tileOf (setTile s k x) k = x := by
  simp [tileOf]

theorem tileOf_setTile_other (s : State) {k u : TileId} (x : Tile) (h : u ≠ k) :
    tileOf (setTile s k x) u = tileOf s u := by
  have : u.val ≠ k.val := fun e => h (Fin.ext e)
  simp [tileOf, tabGet_tabPut_other _ _ _ this]

@[simp] theorem tileOf_modTile_same (s : State) (k : TileId) (f : Tile → Tile) :
    tileOf (modTile s k f) k = f (tileOf s k) := by simp [modTile]

theorem tileOf_modTile_other (s : State) {k u : TileId} (f : Tile → Tile) (h : u ≠ k) :
    tileOf (modTile s k f) u = tileOf s u := tileOf_setTile_other s _ h

@[simp] theorem queueOf_setQueue_same (s : State) (q : QueueId) (x : Queue) : queueOf (setQueue s q x) q = x := by
  simp [queueOf]

theorem queueOf_setQueue_other (s : State) {q r : QueueId} (x : Queue) (h : r ≠ q) :
    queueOf (setQueue s q x) r = queueOf s r := by
  have : r.val ≠ q.val := fun e => h (Fin.ext e)
  simp [queueOf, tabGet_tabPut_other _ _ _ this]

@[simp] theorem ctxOf_setCtx_same (s : State) (c : CtxId) (x : Context) : ctxOf (setCtx s c x) c = x := by
  simp [ctxOf]

theorem ctxOf_setCtx_other (s : State) {c d : CtxId} (x : Context) (h : d ≠ c) :
    ctxOf (setCtx s c x) d = ctxOf s d := by
  have : d.val ≠ c.val := fun e => h (Fin.ext e)
  simp [ctxOf, tabGet_tabPut_other _ _ _ this]

@[simp] theorem kilnPower_setKilnPower_same (s : State) (k : KilnId) (x : KilnPower) :
    kilnPower (setKilnPower s k x) k = x := by simp [kilnPower]

@[simp] theorem fnPower_setFnPower_same (s : State) (f : Nat) (x : FnPower) : fnPower (setFnPower s f x) f = x := by
  simp [fnPower]

@[simp] theorem dieState_setDie_same (s : State) (d : Nat) (x : DieState) : dieState (setDie s d x) d = x := by
  simp [dieState]

@[simp] theorem channelOf_setChannel_same (s : State) (k c : Nat) (x : Channel) :
    channelOf (setChannel s k c x) k c = x := by simp [channelOf]

@[simp] theorem moduleOf_setModule_same (s : State) (d i : Nat) (m : Module) : moduleOf (setModule s d i m) d i = m := by
  simp [moduleOf]

@[simp] theorem islandOf_setIsland_same (s : State) (i : Island) (x : IslandState) :
    islandOf (setIsland s i x) i = x := by cases i <;> rfl

/-- The island update keeps the pins as R362 and R363 say. -/
theorem setIsland_pinsOk (s : State) (i : Island) (x : IslandState) : (setIsland s i x).pinsOk := by
  cases i <;> rfl

@[simp] theorem tileOf_modInst (s : State) (w : InstanceId) (f : Inst → Inst) (k : TileId) :
    tileOf (modInst s w f) k = tileOf s k := rfl

@[simp] theorem tileOf_modItem (s : State) (i : ItemId) (f : Item → Item) (k : TileId) :
    tileOf (modItem s i f) k = tileOf s k := rfl

@[simp] theorem tileOf_foldBus (s : State) (z : Site) (bus : Nat) (l : List Byte) (tag : Nat) (k : TileId) :
    tileOf (foldBus s z bus l tag) k = tileOf s k := rfl

@[simp] theorem tileOf_holdClocks (s : State) (tl : TileId) (w : InstanceId) (clk : Nat) (k : TileId) :
    tileOf (holdClocks s tl w clk) k = tileOf s k := rfl

/-! ## The issue of an instruction -/

/-- A tile as the own effect of an issued instruction finds it. -/
@[simp] theorem tileOf_issued (s : State) (tl : TileId) (w : InstanceId) (word clk : Nat) :
    tileOf (issued s tl w word clk) tl = issuedOn s tl word clk := by
  simp [issued]

theorem onlyTile_issued (s : State) (tl : TileId) (w : InstanceId) (word clk : Nat) :
    OnlyTile s (issued s tl w word clk) tl where
  mem := ⟨rfl, rfl, rfl⟩
  tiles _ h := tileOf_setTile_other s (issuedOn s tl word clk) h
  engines := ⟨rfl, rfl, rfl, rfl⟩
  house := rfl
  rest := ⟨rfl, rfl, rfl, rfl, rfl, rfl, rfl, rfl, rfl, rfl, rfl, rfl, rfl⟩
  model := ⟨rfl, rfl, rfl, rfl, rfl⟩

/-- Nothing is halted after an instruction that is not a step (R485). -/
theorem afterStep_none {s : State} {tl : TileId} {w : InstanceId} (h : (tileOf s tl).dbg.stepping = false) :
    afterStep s tl w = s := by simp [afterStep, h]

/-- A read of ranges with no correctable error counts nothing. -/
theorem noteSoft_clear {s : State} {r : List (Nat × Nat)} (h : clearOf s.tl.softWords r) : noteSoft s r = s := by
  have e : s.tl.softWords.filter (fun w => r.any (fun p => decide (w < p.1 + p.2) && decide (p.1 < w + 8))) = [] := by
    simp only [List.filter_eq_nil_iff, List.any_eq_true, Bool.and_eq_true, decide_eq_true_eq, not_exists, not_and]
    intro w hw p hp
    have := h w hw p hp
    omega
  simp [noteSoft, e, countSoft]

/-- Under its normal conditions an instruction comes to its own effect at its site. -/
theorem issue_normal {s : State} {tl : TileId} {clk word op : Nat} {w : InstanceId}
    (h : Issues s tl clk w word) (hop : fOp word = op) (body : State → Site → State) :
    issue s tl clk op body =
      afterStep (if runsWord (tileOf s tl) word then body (issued s tl w word clk) (siteAt s tl w word)
        else issued s tl w word clk) tl w := by
  obtain ⟨b, hb, hw⟩ := h.fetch
  have ht : takeWanted s tl = s := by simp [takeWanted, h.noHalt]
  have hf : fetchWord s tl w = .ok (word, s) := by
    have hc := h.clean
    simp only [fetchWord, hb]
    split
    · rw [hw, shelfRead, noteSoft_clear h.hard]
    · next heq => rw [hc] at heq; cases heq
  have hn : ¬ (30000 ≤ (tileOf s tl).count + issueClocks (tileOf s tl) clk) := by have := h.inTime; omega
  simp [issue, ht, h.holds, h.up, h.running, h.noWatch, h.noBreak, hn, hf, h.legal, hop, siteAt]

@[simp] theorem siteAt_tl (s : State) (tl : TileId) (w : InstanceId) (word : Nat) : (siteAt s tl w word).tl = tl := rfl
@[simp] theorem siteAt_w (s : State) (tl : TileId) (w : InstanceId) (word : Nat) : (siteAt s tl w word).w = word := rfl
@[simp] theorem siteAt_inst (s : State) (tl : TileId) (w : InstanceId) (word : Nat) : (siteAt s tl w word).inst = w := rfl
@[simp] theorem siteAt_ctx (s : State) (tl : TileId) (w : InstanceId) (word : Nat) :
    (siteAt s tl w word).ctx = (tileOf s tl).ctx := rfl
@[simp] theorem siteAt_pc (s : State) (tl : TileId) (w : InstanceId) (word : Nat) :
    (siteAt s tl w word).pc = (tileOf s tl).pc.toNat := rfl

/-- An instruction that executes and is not a step comes to its own effect, on the issued state, at its site. -/
theorem issue_effect {s : State} {tl : TileId} {clk word op : Nat} {w : InstanceId}
    (h : Issues s tl clk w word) (hop : fOp word = op) (hr : runsWord (tileOf s tl) word = true)
    (body : State → Site → State)
    (hb : (tileOf (body (issued s tl w word clk) (siteAt s tl w word)) tl).dbg.stepping = false) :
    issue s tl clk op body = body (issued s tl w word clk) (siteAt s tl w word) := by
  rw [issue_normal h hop body, hr]
  exact afterStep_none hb

/-- What an issue writes of a tile: its count, program counter and debug window, and no register. -/
theorem issuedTile_eq (x : Tile) (dma traced : Bool) (word clk : Nat) :
    issuedTile x dma traced word clk = { x with
      count := (issuedTile x dma traced word clk).count, fresh := false, pc := x.pc + 8,
      dbg := (issuedTile x dma traced word clk).dbg } := by
  simp only [issuedTile]
  split <;> rfl

/-- The step flag of a tile is unchanged by issuing. -/
@[simp] theorem issuedOn_stepping (s : State) (tl : TileId) (word clk : Nat) :
    (issuedOn s tl word clk).dbg.stepping = (tileOf s tl).dbg.stepping := by
  simp only [issuedOn, issuedTile]
  split <;> rfl

@[simp] theorem issuedOn_s (s : State) (tl : TileId) (word clk : Nat) :
    (issuedOn s tl word clk).s = (tileOf s tl).s := by rw [issuedOn, issuedTile_eq]
@[simp] theorem issuedOn_a (s : State) (tl : TileId) (word clk : Nat) :
    (issuedOn s tl word clk).a = (tileOf s tl).a := by rw [issuedOn, issuedTile_eq]
@[simp] theorem issuedOn_v (s : State) (tl : TileId) (word clk : Nat) :
    (issuedOn s tl word clk).v = (tileOf s tl).v := by rw [issuedOn, issuedTile_eq]
@[simp] theorem issuedOn_p (s : State) (tl : TileId) (word clk : Nat) :
    (issuedOn s tl word clk).p = (tileOf s tl).p := by rw [issuedOn, issuedTile_eq]
@[simp] theorem issuedOn_vbad (s : State) (tl : TileId) (word clk : Nat) :
    (issuedOn s tl word clk).vbad = (tileOf s tl).vbad := by rw [issuedOn, issuedTile_eq]
@[simp] theorem issuedOn_tensor (s : State) (tl : TileId) (word clk : Nat) :
    (issuedOn s tl word clk).tensor = (tileOf s tl).tensor := by rw [issuedOn, issuedTile_eq]
@[simp] theorem issuedOn_checks (s : State) (tl : TileId) (word clk : Nat) :
    (issuedOn s tl word clk).checks = (tileOf s tl).checks := by rw [issuedOn, issuedTile_eq]
@[simp] theorem issuedOn_ctx (s : State) (tl : TileId) (word clk : Nat) :
    (issuedOn s tl word clk).ctx = (tileOf s tl).ctx := by rw [issuedOn, issuedTile_eq]
@[simp] theorem issuedOn_inst (s : State) (tl : TileId) (word clk : Nat) :
    (issuedOn s tl word clk).inst = (tileOf s tl).inst := by rw [issuedOn, issuedTile_eq]
@[simp] theorem issuedOn_state (s : State) (tl : TileId) (word clk : Nat) :
    (issuedOn s tl word clk).state = (tileOf s tl).state := by rw [issuedOn, issuedTile_eq]
@[simp] theorem issuedOn_slot (s : State) (tl : TileId) (word clk : Nat) :
    (issuedOn s tl word clk).slot = (tileOf s tl).slot := by rw [issuedOn, issuedTile_eq]
@[simp] theorem issuedOn_next (s : State) (tl : TileId) (word clk : Nat) :
    (issuedOn s tl word clk).next = (tileOf s tl).next := by rw [issuedOn, issuedTile_eq]
@[simp] theorem issuedOn_leaving (s : State) (tl : TileId) (word clk : Nat) :
    (issuedOn s tl word clk).leaving = (tileOf s tl).leaving := by rw [issuedOn, issuedTile_eq]
@[simp] theorem issuedOn_dirty (s : State) (tl : TileId) (word clk : Nat) :
    (issuedOn s tl word clk).dirty = (tileOf s tl).dirty := by rw [issuedOn, issuedTile_eq]
@[simp] theorem issuedOn_pc (s : State) (tl : TileId) (word clk : Nat) :
    (issuedOn s tl word clk).pc = (tileOf s tl).pc + 8 := by rw [issuedOn, issuedTile_eq]

/-! ## Register writes -/

@[simp] theorem setS_dbg (x : Tile) (i : Nat) (v : Word64) : (x.setS i v).dbg = x.dbg := rfl
@[simp] theorem setS_state (x : Tile) (i : Nat) (v : Word64) : (x.setS i v).state = x.state := rfl
@[simp] theorem setS_inst (x : Tile) (i : Nat) (v : Word64) : (x.setS i v).inst = x.inst := rfl
@[simp] theorem setA_dbg (x : Tile) (i : Nat) (v : Addr48) : (x.setA i v).dbg = x.dbg := rfl
@[simp] theorem setA_state (x : Tile) (i : Nat) (v : Addr48) : (x.setA i v).state = x.state := rfl
@[simp] theorem setA_inst (x : Tile) (i : Nat) (v : Addr48) : (x.setA i v).inst = x.inst := rfl
@[simp] theorem setP_dbg (x : Tile) (i : Nat) (v : Word32) : (x.setP i v).dbg = x.dbg := rfl
@[simp] theorem setP_state (x : Tile) (i : Nat) (v : Word32) : (x.setP i v).state = x.state := rfl
@[simp] theorem setP_inst (x : Tile) (i : Nat) (v : Word32) : (x.setP i v).inst = x.inst := rfl
@[simp] theorem setV_dbg (x : Tile) (i : Nat) (m : Word32) (v : Vector Word32 32) : (x.setV i m v).dbg = x.dbg := rfl
@[simp] theorem setV_state (x : Tile) (i : Nat) (m : Word32) (v : Vector Word32 32) : (x.setV i m v).state = x.state := rfl
@[simp] theorem setV_inst (x : Tile) (i : Nat) (m : Word32) (v : Vector Word32 32) : (x.setV i m v).inst = x.inst := rfl

/-- A register just written reads as it was written. -/
@[simp] theorem sReg_setS_same (x : Tile) {i : Nat} (v : Word64) (h : i < 32) : sReg (x.setS i v) i = v := by
  simp [sReg, Tile.setS, Vector.getD, h]

/-- A write of an s register leaves the others. -/
theorem sReg_setS_other (x : Tile) {i j : Nat} (v : Word64) (h : j ≠ i) : sReg (x.setS i v) j = sReg x j := by
  by_cases hj : j < 32 <;> simp [sReg, Tile.setS, Vector.getD, hj, Ne.symm h]

@[simp] theorem tileOf_putS (s : State) (z : Site) (bus i : Nat) (v : Word64) :
    tileOf (putS s z bus i v) z.tl = (tileOf s z.tl).setS i v := by
  simp [putS]

@[simp] theorem tileOf_putA (s : State) (z : Site) (i : Nat) (v : Addr48) :
    tileOf (putA s z i v) z.tl = (tileOf s z.tl).setA i v := by
  simp [putA]

@[simp] theorem tileOf_putP (s : State) (z : Site) (bus i : Nat) (v : Word32) :
    tileOf (putP s z bus i v) z.tl = (tileOf s z.tl).setP i v := by
  simp [putP]

@[simp] theorem tileOf_putV (s : State) (z : Site) (bus i : Nat) (v : Vector Word32 32) :
    tileOf (putV s z bus i v) z.tl = (tileOf s z.tl).setV i 0xFFFFFFFF v := by
  simp [putV, putLanes]

/-- A change of one tile and of items' and instances' accounts, after another such change. -/
theorem onlyTile_trans {s t r : State} {tl : TileId} (h : OnlyTile s t tl) (g : OnlyTile t r tl) : OnlyTile s r tl where
  mem := ⟨g.mem.1.trans h.mem.1, g.mem.2.1.trans h.mem.2.1, g.mem.2.2.trans h.mem.2.2⟩
  tiles k hk := (g.tiles k hk).trans (h.tiles k hk)
  engines := ⟨g.engines.1.trans h.engines.1, g.engines.2.1.trans h.engines.2.1, g.engines.2.2.1.trans h.engines.2.2.1,
    g.engines.2.2.2.trans h.engines.2.2.2⟩
  house := by
    have h1 := h.house
    have g1 := g.house
    rw [h1] at g1
    exact g1
  rest := by
    obtain ⟨h1, h2, h3, h4, h5, h6, h7, h8, h9, h10, h11, h12, h13⟩ := h.rest
    obtain ⟨g1, g2, g3, g4, g5, g6, g7, g8, g9, g10, g11, g12, g13⟩ := g.rest
    exact ⟨g1.trans h1, g2.trans h2, g3.trans h3, g4.trans h4, g5.trans h5, g6.trans h6, g7.trans h7, g8.trans h8,
      g9.trans h9, g10.trans h10, g11.trans h11, g12.trans h12, g13.trans h13⟩
  model := ⟨g.model.1.trans h.model.1, g.model.2.1.trans h.model.2.1, g.model.2.2.1.trans h.model.2.2.1,
    g.model.2.2.2.1.trans h.model.2.2.2.1, g.model.2.2.2.2.trans h.model.2.2.2.2⟩

theorem onlyTile_modTile (s : State) (tl : TileId) (f : Tile → Tile) : OnlyTile s (modTile s tl f) tl where
  mem := ⟨rfl, rfl, rfl⟩
  tiles _ h := tileOf_modTile_other s _ h
  engines := ⟨rfl, rfl, rfl, rfl⟩
  house := rfl
  rest := ⟨rfl, rfl, rfl, rfl, rfl, rfl, rfl, rfl, rfl, rfl, rfl, rfl, rfl⟩
  model := ⟨rfl, rfl, rfl, rfl, rfl⟩

theorem onlyTile_modInst (s : State) (tl : TileId) (w : InstanceId) (f : Inst → Inst) : OnlyTile s (modInst s w f) tl where
  mem := ⟨rfl, rfl, rfl⟩
  tiles _ _ := rfl
  engines := ⟨rfl, rfl, rfl, rfl⟩
  house := rfl
  rest := ⟨rfl, rfl, rfl, rfl, rfl, rfl, rfl, rfl, rfl, rfl, rfl, rfl, rfl⟩
  model := ⟨rfl, rfl, rfl, rfl, rfl⟩

theorem onlyTile_putS (s : State) (z : Site) (bus i : Nat) (v : Word64) : OnlyTile s (putS s z bus i v) z.tl :=
  onlyTile_trans (onlyTile_modTile s _ _) (onlyTile_modInst _ _ _ _)

theorem onlyTile_putA (s : State) (z : Site) (i : Nat) (v : Addr48) : OnlyTile s (putA s z i v) z.tl :=
  onlyTile_trans (onlyTile_modTile s _ _) (onlyTile_modInst _ _ _ _)

theorem onlyTile_putP (s : State) (z : Site) (bus i : Nat) (v : Word32) : OnlyTile s (putP s z bus i v) z.tl :=
  onlyTile_trans (onlyTile_modTile s _ _) (onlyTile_modInst _ _ _ _)

theorem onlyTile_putV (s : State) (z : Site) (bus i : Nat) (v : Vector Word32 32) : OnlyTile s (putV s z bus i v) z.tl :=
  onlyTile_trans (onlyTile_modTile s _ _) (onlyTile_modInst _ _ _ _)

end Sys2Proof.Machine
end

