-- ==== Sys2Proof/Laws/Tile.lean ====
section
/-! SUPPORT. What an instruction that only writes a register comes to under the normal conditions of an
issue: the register, the program counter, and the frame. -/

namespace Sys2Proof.Machine

/-- An instruction whose effect is one write of an s register. -/
theorem issue_putS {s : State} {tl : TileId} {clk word op : Nat} {w : InstanceId}
    (h : Issues s tl clk w word) (hop : fOp word = op) (hr : runsWord (tileOf s tl) word = true)
    (g : State → Site → Word64) :
    OnlyTile s (issue s tl clk op (fun s z => putS s z 0 (fRD z.w) (g s z))) tl ∧
      (issue s tl clk op (fun s z => putS s z 0 (fRD z.w) (g s z))).gh.contexts = s.gh.contexts ∧
      tileOf (issue s tl clk op (fun s z => putS s z 0 (fRD z.w) (g s z))) tl =
        (issuedOn s tl word clk).setS (fRD word) (g (issued s tl w word clk) (siteAt s tl w word)) := by
  have e := tileOf_putS (issued s tl w word clk) (siteAt s tl w word) 0 (fRD word)
    (g (issued s tl w word clk) (siteAt s tl w word))
  rw [siteAt_tl, tileOf_issued] at e
  rw [issue_effect h hop hr]
  · refine ⟨onlyTile_trans (onlyTile_issued s tl w word clk) (onlyTile_putS _ (siteAt s tl w word) _ _ _), rfl, ?_⟩
    simpa only [siteAt_w] using e
  · simp only [siteAt_w]
    rw [e]; simp [h.noStep]

/-- An instruction whose effect is one write of an a register. -/
theorem issue_putA {s : State} {tl : TileId} {clk word op : Nat} {w : InstanceId}
    (h : Issues s tl clk w word) (hop : fOp word = op) (hr : runsWord (tileOf s tl) word = true)
    (g : State → Site → Addr48) :
    OnlyTile s (issue s tl clk op (fun s z => putA s z (fRD z.w) (g s z))) tl ∧
      (issue s tl clk op (fun s z => putA s z (fRD z.w) (g s z))).gh.contexts = s.gh.contexts ∧
      tileOf (issue s tl clk op (fun s z => putA s z (fRD z.w) (g s z))) tl =
        (issuedOn s tl word clk).setA (fRD word) (g (issued s tl w word clk) (siteAt s tl w word)) := by
  have e := tileOf_putA (issued s tl w word clk) (siteAt s tl w word) (fRD word)
    (g (issued s tl w word clk) (siteAt s tl w word))
  rw [siteAt_tl, tileOf_issued] at e
  rw [issue_effect h hop hr]
  · refine ⟨onlyTile_trans (onlyTile_issued s tl w word clk) (onlyTile_putA _ (siteAt s tl w word) _ _), rfl, ?_⟩
    simpa only [siteAt_w] using e
  · simp only [siteAt_w]
    rw [e]; simp [h.noStep]

/-- An instruction whose effect is one write of a p register. -/
theorem issue_putP {s : State} {tl : TileId} {clk word op : Nat} {w : InstanceId}
    (h : Issues s tl clk w word) (hop : fOp word = op) (hr : runsWord (tileOf s tl) word = true)
    (g : State → Site → Word32) :
    OnlyTile s (issue s tl clk op (fun s z => putP s z 0 (fRD z.w) (g s z))) tl ∧
      (issue s tl clk op (fun s z => putP s z 0 (fRD z.w) (g s z))).gh.contexts = s.gh.contexts ∧
      tileOf (issue s tl clk op (fun s z => putP s z 0 (fRD z.w) (g s z))) tl =
        (issuedOn s tl word clk).setP (fRD word) (g (issued s tl w word clk) (siteAt s tl w word)) := by
  have e := tileOf_putP (issued s tl w word clk) (siteAt s tl w word) 0 (fRD word)
    (g (issued s tl w word clk) (siteAt s tl w word))
  rw [siteAt_tl, tileOf_issued] at e
  rw [issue_effect h hop hr]
  · refine ⟨onlyTile_trans (onlyTile_issued s tl w word clk) (onlyTile_putP _ (siteAt s tl w word) _ _ _), rfl, ?_⟩
    simpa only [siteAt_w] using e
  · simp only [siteAt_w]
    rw [e]; simp [h.noStep]

/-- A format A integer instruction. -/
theorem aluRR_normal {s : State} {tl : TileId} {clk word op : Nat} {w : InstanceId}
    (h : Issues s tl clk w word) (hop : fOp word = op) (hr : runsWord (tileOf s tl) word = true)
    (f : Word64 → Word64 → Word64) :
    OnlyTile s (aluRR tl clk op f s) tl ∧ (aluRR tl clk op f s).gh.contexts = s.gh.contexts ∧
      tileOf (aluRR tl clk op f s) tl = (issuedOn s tl word clk).setS (fRD word)
        (f (sReg (tileOf s tl) (fRS1 word)) (sReg (tileOf s tl) (fRS2 word))) := by
  have k := issue_putS h hop hr (fun s z => f (sReg (tileOf s tl) (fRS1 z.w)) (sReg (tileOf s tl) (fRS2 z.w)))
  refine ⟨k.1, k.2.1, k.2.2.trans ?_⟩
  simp only [tileOf_issued, siteAt_w, sReg, issuedOn_s]

/-- A format B integer instruction. -/
theorem aluRI_normal {s : State} {tl : TileId} {clk word op : Nat} {w : InstanceId}
    (h : Issues s tl clk w word) (hop : fOp word = op) (hr : runsWord (tileOf s tl) word = true)
    (f : Word64 → Word64 → Word64) :
    OnlyTile s (aluRI tl clk op f s) tl ∧ (aluRI tl clk op f s).gh.contexts = s.gh.contexts ∧
      tileOf (aluRI tl clk op f s) tl = (issuedOn s tl word clk).setS (fRD word)
        (f (sReg (tileOf s tl) (fRS1 word)) (immS word)) := by
  have k := issue_putS h hop hr (fun s z => f (sReg (tileOf s tl) (fRS1 z.w)) (immS z.w))
  refine ⟨k.1, k.2.1, k.2.2.trans ?_⟩
  simp only [tileOf_issued, siteAt_w, sReg, issuedOn_s]

end Sys2Proof.Machine
end

