-- ==== Sys2Proof/Machine/ConfigSpace.lean ====
section
/-! DEFINITION. What the functions report in PCI configuration space (R498 to R503): identity, capabilities, SR-IOV. No row
of the table reads it: these are functions of the state. The device raises no interrupt (R500), so the state has none. -/

namespace Sys2Proof.Machine

/-- Identity registers of a function (R498). -/
structure Identity where
  vendor       : BitVec 16
  device       : BitVec 16
  revision     : Byte
  classCode    : BitVec 24
  subVendor    : BitVec 16
  subsystem    : BitVec 16
  interruptPin : Byte
  headerType   : Byte
  deriving DecidableEq, Repr

/-- Identity of the physical function, 0, and of the virtual functions. -/
def identityOf (s : State) (f : FnId) : Identity :=
  { vendor := 0x1F3A, device := if f.val = 0 then 0x0800 else 0x0801, revision := 0x01, classCode := 0x120000,
    subVendor := BitVec.ofNat 16 s.lg.subsystem.toNat, subsystem := BitVec.ofNat 16 (s.lg.subsystem.toNat / 65536),
    interruptPin := 0, headerType := 0 }

/-- The capabilities that some function carries (R499). -/
inductive Capability where
  | powerManagement | pcieEndpoint | advancedErrors | serialNumber | ari | sriov | accessControl | secondaryPcie
  | dataLinkFeature | phy16 | phy32 | laneMargining | resizableBar
  deriving DecidableEq, Repr

/-- The function carries the capability; every other capability is carried by none. -/
def carries (f : FnId) : Capability → Bool
  | .powerManagement | .pcieEndpoint | .advancedErrors | .ari | .accessControl => true
  | .serialNumber | .sriov | .secondaryPcie | .dataLinkFeature | .phy16 | .phy32 | .laneMargining | .resizableBar => f.val == 0

/-- Device Serial Number: bytes 0 to 7 of the fuse SERIAL (R499). -/
def deviceSerial (s : State) : List Byte := slice s.lg.serial 0 8

/-- What a function's capabilities offer (R499): power states, the endpoint's limits and its kinds of tags, completion
timeout ranges A to D as bits 0 to 3, link states, the next function of ARI. -/
structure Offers where
  d1              : Bool
  d2              : Bool
  d3hot           : Bool
  noSoftReset     : Bool
  pme             : Bool
  maxPayload      : Nat
  maxReadRequest  : Nat
  functionReset   : Bool
  tag10Requester  : Bool
  tag10Completer  : Bool
  extendedTags    : Bool
  timeoutRanges   : BitVec 4
  timeoutDisable  : Bool
  aspmL1          : Bool
  aspmL0s         : Bool
  nextFunction    : Nat
  /-- A function sends requests to another function of the device: Access Control Services. -/
  peerRequests    : Bool
  deriving DecidableEq, Repr

/-- They are the same for every function. -/
def offers : Offers :=
  { d1 := false, d2 := false, d3hot := true, noSoftReset := true, pme := false, maxPayload := 512, maxReadRequest := 4096,
    functionReset := true, tag10Requester := true, tag10Completer := true, extendedTags := true, timeoutRanges := 0xF,
    timeoutDisable := false, aspmL1 := true, aspmL0s := false, nextFunction := 0, peerRequests := false }

/-- Sizes that Resizable BAR offers for BAR4, as powers of two (R499, R506). -/
def bar4Sizes (f : FnId) : List Nat := if f.val = 0 then [30, 31, 32, 33, 34, 35, 36, 37] else []

/-- Uncorrectable errors that a function's Advanced Error Reporting shows. -/
def aerStatus (s : State) (f : FnId) : Word32 := tabGet 0 s.hi.aer f.val

/-- Attributes of every request that the device issues (R501): Relaxed Ordering, ID-Based Ordering, No Snoop. -/
def requestAttributes : Bool × Bool × Bool := (false, false, false)

/-- The most non-posted requests at once (R501). What is in flight is no state (log 170). -/
def maxNonPosted : Nat := 512

/-- The SR-IOV capability (R502). -/
structure SriovCap where
  totalVfs   : Nat
  initialVfs : Nat
  vfOffset   : Nat
  vfStride   : Nat
  pageBytes  : Nat
  vfEnable   : Bool
  numVfs     : Nat
  deriving DecidableEq, Repr

def sriovOf (s : State) : SriovCap :=
  { totalVfs := 8, initialVfs := 8, vfOffset := 1, vfStride := 1, pageBytes := 4096, vfEnable := s.hi.vfEnable,
    numVfs := s.hi.numVfs.toNat }

/-- Routing ID of a function, by that of the physical function (R502). -/
def routingId (pf : BitVec 16) (f : FnId) : BitVec 16 := pf + BitVec.ofNat 16 f.val

/-- Offset of a virtual function's BAR0 and BAR2 in the VF BARs (R506). -/
def vfBar0 (f : FnId) : Nat := (f.val - 1) * 0x400_0000
def vfBar2 (f : FnId) : Nat := (f.val - 1) * 0x4_0000

end Sys2Proof.Machine
end

