-- ==== Sys2Proof/Machine/Pages.lean ====
section
/-! DEFINITION. What sequence models keep in memory by their programs: pages of token positions (R245 to R248), summary
keys (R249), packed rows (R263) and the attended set (R264). The device reads none of it but through instructions; these
are the meanings that the manual gives those bytes. -/

namespace Sys2Proof.Machine

/-! ## Pages (R245 to R248) -/

/-- Element formats of a page. -/
inductive PageFormat where
  | int8 | e4m3 | e5m2 | bf16 | fp16
  deriving DecidableEq, Repr

/-- Element size in bytes. -/
def PageFormat.size : PageFormat → Nat
  | .int8 | .e4m3 | .e5m2 => 1
  | .bf16 | .fp16 => 2

/-- INT8 and FP8 pages carry a scale for each position. -/
def PageFormat.scaled : PageFormat → Bool
  | .int8 | .e4m3 | .e5m2 => true
  | .bf16 | .fp16 => false

/-- Offset of the key of position `t` of a block, of head dimension `dim`. -/
def keyOffset (f : PageFormat) (dim t : Nat) : Nat := t * dim * f.size

/-- Offset of the value of position `t`. -/
def valueOffset (f : PageFormat) (dim t : Nat) : Nat := 16 * dim * f.size + keyOffset f dim t

/-- Offsets of the FP32 scales of position `t`, for its key and for its value. -/
def scaleOffsets (f : PageFormat) (dim t : Nat) : Option (Nat × Nat) :=
  if f.scaled then some (32 * dim * f.size + 4 * t, 32 * dim * f.size + 64 + 4 * t) else none

/-- Size of a page in bytes. -/
def pageSize (f : PageFormat) (dim : Nat) : Nat := 32 * dim * f.size + (if f.scaled then 128 else 0)

/-- Positions of token block `b` that belong to a sequence of `length` tokens (R245, R247). -/
def blockPositions (length b : Nat) : List Nat := ((List.range 16).map (fun t => 16 * b + t)).filter (fun p => decide (p < length))

/-! ## Summaries (R249) -/

/-- Context shelf address of the summary of a block in a head group's array. -/
def summaryOffset (base b : Nat) : Nat := base + 64 * b

/-- The 64 INT8 values are of the symmetric range of R112. -/
def summaryOk (l : List Byte) : Bool := l.length == 64 && l.all (fun b => b != 0x80)

/-! ## Packed rows (R263) -/

/-- Entry and token position of each packed row: the live entries in increasing order, each with its NEW last positions. -/
def packedRows (l : List (SeqEntry × Nat)) : List (Nat × Nat) :=
  (l.zipIdx.filter (fun e => e.1.2 == 0)).flatMap (fun e =>
    (List.range e.1.1.new).map (fun j => (e.2, e.1.1.length - e.1.1.new + j)))

/-! ## The attended set (R264) -/

/-- Blocks that are scored: those before the recent window that are no sink. -/
def scoredBlocks (recent : Nat) (x : SeqEntry) : List Nat :=
  (List.range (recentFirst recent x)).filter (fun b => !(liveSinks recent x).contains b)

/-- The `k` best of the scored blocks, in the order of `stopk.i32`; all of them when they are fewer. -/
def bestBlocks (k : Nat) (score : Nat → Word32) (l : List Nat) : List Nat :=
  (((l.map (fun b => (score b, b))).foldr topInsert []).take k).map (fun e => e.2)

/-- The attended set of a live entry for one head group: sinks, recent window, best scored blocks. -/
def attendedSet (recent k : Nat) (score : Nat → Word32) (x : SeqEntry) : List Nat :=
  liveSinks recent x ++ (List.range (seqBlocks x - recentFirst recent x)).map (fun i => recentFirst recent x + i) ++
    bestBlocks k score (scoredBlocks recent x)

/-- Token positions that full attention over a set of blocks reads (R247, R264). -/
def attendedTokens (x : SeqEntry) (blocks : List Nat) : List Nat := blocks.flatMap (blockPositions x.length)

end Sys2Proof.Machine
end

