-- ==== Sys2Proof/Tests/Slice0.lean ====
section
/-! SUPPORT. Small tests: ill-formed operands are refused, each statement's hypotheses are met by a
concrete state, and single steps give what the manual's words say. -/

namespace Sys2Proof.Tests

open Sys2Proof Sys2Proof.Machine

/-! ## Helpers -/

/-- The instance that the helper states run on tile 0. -/
def w0 : InstanceId := ⟨⟨3, 0⟩, 0, false⟩

/-- A RUN item of context 5 with one instance. -/
def item0 : Item :=
  { id := ⟨3, 0⟩, desc := leBytes 2 1 ++ leBytes 2 5 ++ zeros 60, block := [], plan := false, accepted := 0,
    stage := .running, taken := true, began := true, waits := 0, replays := 0, error := none, verdict := none,
    dropped := false, todo := [], ended := 0, batch := false, tabled := false, counted := false, spilled := false,
    paired := false, golden := .none, frame := 0, busy := 0, other := 0, busyNs := 0, engine := none }

/-- Its instance. -/
def inst0 : Inst :=
  { id := w0, slot := 0, tile := some 0, wait := .ready, paired := false, golden := false, points := 0, issued := 0,
    sigs := Vector.replicate 5 0, results := [], took := 0, finished := false, unsent := [], endSent := false,
    ranOn := some 0 }

/-- Context 5: READY, of class QM, four shelves of which three are bound, the seed shelf at index 2. -/
def ctx5 : Context :=
  { contextReset with state := .ready, cls := .qm, shelves := 4, seedShelf := 2, map := [(0, 0), (1, 257), (2, 514)] }

/-- Tile 0 running the instance, with the s registers given. -/
def tile0 (l : List Word64) : Tile :=
  { tileReset with state := .running, ctx := 5, inst := some w0, s := Vector.ofFn (fun i => l.getD i.val 0) }

/-- A state in which tile 0 is about to issue a word. -/
def lab (word : Nat) (l : List Word64) : State :=
  let s := State.reset
  { s with
    mem := memWrites [] (shelfBase 0) (leBytes 8 word),
    gh := { s.gh with items := [item0], insts := [inst0], contexts := [(5, ctx5)] },
    tl := { s.tl with tiles := [(0, tile0 l)] } }

/-- The same state with its tile changed. -/
def labOn (word : Nat) (f : Tile → Tile) : State := modTile (lab word []) 0 f

/-- The conditions of `Issues` as a check. -/
def issuesCheck (s : State) (tl : TileId) (clk : Nat) (w : InstanceId) (word : Nat) : Bool :=
  let x := tileOf s tl
  packageUp s && x.inst == some w && x.state == .running && !x.dbg.wanted && !x.dbg.stepping &&
    x.dbg.watchHit.isNone && (breakpointAt s tl).isNone && decide (x.count + issueClocks x clk < 30000) &&
    (match shelfReads s x.ctx w.second x.pc.toNat 8 with
     | .ok b => leNat b == word
     | .error _ => false) &&
    s.tl.softWords.isEmpty && (x.dirty.find? (fun e => e.1 == x.pc.toNat / 64 * 64)).isNone && legalWord word

/-- With no word that reads with a correctable error no range meets one. -/
theorem clearOf_of_empty {l : List Nat} (h : l.isEmpty = true) (r : List (Nat × Nat)) : clearOf l r := by
  rw [List.isEmpty_iff] at h
  subst h
  exact fun w hw => absurd hw (by simp)

theorem issues_of_check {s : State} {tl : TileId} {clk word : Nat} {w : InstanceId}
    (h : issuesCheck s tl clk w word = true) : Issues s tl clk w word := by
  simp only [issuesCheck, Bool.and_eq_true, beq_iff_eq, Bool.not_eq_true', Option.isNone_iff_eq_none,
    decide_eq_true_eq] at h
  obtain ⟨⟨⟨⟨⟨⟨⟨⟨⟨⟨⟨h1, h2⟩, h3⟩, h4⟩, h5⟩, h6⟩, h7⟩, h8⟩, h9⟩, hs⟩, h10⟩, h11⟩ := h
  refine ⟨h1, h2, h3, h4, h5, h6, h7, h8, ?_, clearOf_of_empty hs _, h10, h11⟩
  split at h9
  · next b hb => exact ⟨b, hb, by simpa using h9⟩
  · cases h9

/-- A format A word: opcode, RD, RS1, RS2, RS3, FMT and FUNC (R152). -/
def wordA (op rd rs1 rs2 rs3 fmt func : Nat) : Nat :=
  op + rd * 2 ^ 13 + rs1 * 2 ^ 18 + rs2 * 2 ^ 23 + rs3 * 2 ^ 28 + fmt * 2 ^ 33 + func * 2 ^ 39

/-- A format B word: opcode, RD, RS1 and IMM32 (R152). -/
def wordB (op rd rs1 imm : Nat) : Nat := op + rd * 2 ^ 13 + rs1 * 2 ^ 18 + imm * 2 ^ 32

/-- A format M word without an index: opcode, RT, AB, SIZE and IMM32 (R152). -/
def wordM (op rt ab size imm : Nat) : Nat := op + rt * 2 ^ 13 + ab * 2 ^ 18 + size * 2 ^ 30 + imm * 2 ^ 32

/-- The state that a command leads to. -/
def after (i : Instr) (s : State) : State :=
  match exec i s with
  | .next t => t
  | _ => s


/-! ## Premises of the statements about tile instructions

Each theorem names a state and operands that meet the premises of its statement's clauses. -/

/-- The premises that every statement about an instruction on tile 0 shares, as a check. -/
def meets (s : State) (word op : Nat) : Bool :=
  issuesCheck s 0 1 w0 word && fOp word == op && runsWord (tileOf s 0) word

theorem of_meets {s : State} {word op : Nat} (h : meets s word op = true) :
    Issues s 0 1 w0 word ∧ fOp word = op ∧ runsWord (tileOf s 0) word = true := by
  simp only [meets, Bool.and_eq_true, beq_iff_eq] at h
  exact ⟨issues_of_check h.1.1, h.1.2, h.2⟩

/-- The conditions of `Ordinary` as a check. -/
def ordinaryCheck (s : State) (tl : TileId) (w : InstanceId) (i : Inst) (x : Item) : Bool :=
  findInst s w == some i && findItem s w.item == some x && i.tile == some tl &&
    !i.golden && !x.paired && !x.plan && dType x.desc == 1 && dCtx x.desc == (tileOf s tl).ctx &&
    (ctxOf s (tileOf s tl).ctx).state == .ready && x.stage == .running && x.verdict == none && x.error == none &&
    (tileOf s tl).tensor.drain == none && (tileOf s tl).tensor.fetches == [] && (tileOf s tl).leaving == none

theorem ordinary_of_check {s : State} {tl : TileId} {w : InstanceId} {i : Inst} {x : Item}
    (h : ordinaryCheck s tl w i x = true) : Ordinary s tl w i x := by
  simp only [ordinaryCheck, Bool.and_eq_true, beq_iff_eq, Bool.not_eq_true'] at h
  obtain ⟨⟨⟨⟨⟨⟨⟨⟨⟨⟨⟨⟨⟨⟨h1, h2⟩, h3⟩, h4⟩, h5⟩, h6⟩, h7⟩, h8⟩, h9⟩, h10⟩, h11⟩, h12⟩, h13⟩, h15⟩, h14⟩ := h
  exact ⟨h1, h2, h3, ⟨h4, h5, h6, h7⟩, h8, h9, ⟨h10, h11, h12⟩, ⟨h13, h15⟩, h14⟩

/-- A word with PE set and bit 0 of p1 clear. -/
def predicated (word : Nat) : Nat := word + 2 ^ 8 + 2 ^ 11

/-- A legal word of each opcode: its fields are those that the opcode's rules ask for. -/
def anyWord (op : Nat) : Nat :=
  if op = 0x01 ∨ op = 0x02 ∨ op = 0x03 ∨ op = 0x04 ∨ op = 0x48 then op
  else if op = 0x05 then op + 6 * 2 ^ 28 + 8 * 2 ^ 32
  else if op = 0x06 then op + 31 * 2 ^ 13 + 8 * 2 ^ 32
  else if 0x31 ≤ op ∧ op ≤ 0x37 then wordB op 31 1 63
  else if op = 0x38 then op + 31 * 2 ^ 13 + (2 ^ 43 + 5) * 2 ^ 20
  else if op = 0x39 then op + 31 * 2 ^ 13 + (2 ^ 20 - 1) * 2 ^ 20
  else if op = 0x3C then wordB op 15 1 0xFFFFFFFF
  else if op = 0x3D ∨ op = 0x3E then wordA op 7 1 2 0 0 0
  else if 0x40 ≤ op ∧ op ≤ 0x42 then wordM op 31 1 2 0x10000
  else if op = 0x43 ∨ op = 0x44 then wordM op 15 1 3 0x10000
  else if op = 0x45 ∨ op = 0x46 then wordM op 15 1 0 0x10000
  else op

theorem test_steps_of_any_queue : State.reset.pending = [] ∧
    ({ State.reset with pw := { State.reset.pw with sleepState := 3 } } : State).pending = [] := by decide +kernel

theorem test_scalar_premises : ∀ r ∈ scalarRows, meets (lab (wordA r.2.1 31 1 2 0 0 0) []) (wordA r.2.1 31 1 2 0 0 0) r.2.1 = true := by
  decide +kernel

theorem test_immediate_premises : ∀ r ∈ immediateRows, meets (lab (anyWord r.2.1) []) (anyWord r.2.1) r.2.1 = true := by
  decide +kernel

theorem test_division_premises :
    (∀ op ∈ [0x25, 0x26, 0x27, 0x28], meets (lab (wordA op 31 1 2 0 0 0) []) (wordA op 31 1 2 0 0 0) op = true) ∧
    sReg (tileOf (lab (wordA 0x25 31 1 2 0 0 0) []) 0) 2 = 0 ∧
    (∀ op ∈ [0x25, 0x27], meets (lab (wordA op 31 1 2 0 0 0) [0, 2 ^ 63, 0xFFFFFFFFFFFFFFFF]) (wordA op 31 1 2 0 0 0) op = true) ∧
    sReg (tileOf (lab (wordA 0x25 31 1 2 0 0 0) [0, 2 ^ 63, 0xFFFFFFFFFFFFFFFF]) 0) 1 = BitVec.intMin 64 ∧
    sReg (tileOf (lab (wordA 0x25 31 1 2 0 0 0) [0, 2 ^ 63, 0xFFFFFFFFFFFFFFFF]) 0) 2 = BitVec.allOnes 64 := by
  decide +kernel

theorem test_address_premises :
    meets (lab (wordA 0x3A 15 31 0 0 0 0) []) (wordA 0x3A 15 31 0 0 0 0) 0x3A = true ∧
    meets (lab (wordA 0x3B 31 15 0 0 0 0) []) (wordA 0x3B 31 15 0 0 0 0) 0x3B = true ∧
    meets (lab (anyWord 0x3C) []) (anyWord 0x3C) 0x3C = true ∧
    (∀ c ∈ [0, 1, 2, 3, 4, 5], meets (lab (wordA 0x3D 7 1 2 0 0 c) [0, 1, 2]) (wordA 0x3D 7 1 2 0 0 c) 0x3D = true) ∧
    (∀ f ∈ [0, 1, 2], meets (lab (wordA 0x3E 7 1 2 0 0 f) []) (wordA 0x3E 7 1 2 0 0 f) 0x3E = true) ∧
    (∀ f ∈ [3, 4, 5], meets (lab (wordA 0x3E 7 1 0 0 0 f) []) (wordA 0x3E 7 1 0 0 0 f) 0x3E = true) := by
  decide +kernel

/-- A word of the tile whose address register 1 holds `a`. -/
def labA (word a : Nat) : State := labOn word (fun x => { x with a := x.a.setIfInBounds 1 (BitVec.ofNat 48 a) })

/-- A post of another instance, staged. -/
def post1 : Post :=
  { inst := some ⟨⟨3, 0⟩, 1, false⟩, ctx := 5, slot := 1, staged := some { pc := 0, seed := [], weights := [], failure := none } }

/-- A chain of the instance in flight. -/
def chain0 : Chain :=
  { tile := 0, ch := 15, ctx := 5, inst := w0, golden := false, pc := 0, nextAddr := none, count := 1, number := 0, sig := 0 }

/-- The same state with the instance's chain in flight. -/
def withChain (s : State) : State := { s with tl := { s.tl with chains := [chain0] } }

/-- The same state with context 5 changed. -/
def withCtx (s : State) (f : Context → Context) : State :=
  { s with gh := { s.gh with contexts := [(5, f ctx5)] } }

theorem test_fop_premises :
    (∀ k ∈ List.range 15, let word := wordA 0x3F 31 1 (if k ≤ 7 ∧ k ≠ 4 ∨ 12 ≤ k then 2 else 0) (if k = 5 then 3 else 0) 0 k
      meets (lab word []) word 0x3F = true) ∧
    (fdecode fmtFP64 (0x7FF8000000000000 : Word64).toNat).isNan = true ∧ (fdecode fmtFP64 (0 : Word64).toNat).isNan = false := by
  decide +kernel

/-- A branch with COND `c`, comparing s1 and s2. -/
def branch (c : Nat) : Nat := 0x05 + (if c = 6 then 0 else 2 ^ 18 + 2 * 2 ^ 23) + c * 2 ^ 28 + 0xFFFFFFF8 * 2 ^ 32

theorem test_control_premises :
    meets (lab 0x01 []) 0x01 0x01 = true ∧
    (∀ c ∈ [0, 1, 2, 3, 4, 5, 6], meets (lab (branch c) [0, 1, 2]) (branch c) 0x05 = true) ∧
    condMeans 2 1 2 ∧ ¬ condMeans 3 1 2 ∧
    meets (lab (anyWord 0x06) []) (anyWord 0x06) 0x06 = true ∧
    meets (lab (wordA 0x07 0 1 0 0 0 0) [0, 8]) (wordA 0x07 0 1 0 0 0 0) 0x07 = true ∧
    (sReg (tileOf (lab (wordA 0x07 0 1 0 0 0 0) [0, 8]) 0) 1).toNat % 8 = 0 ∧
    meets (lab (wordA 0x07 0 1 0 0 0 0) [0, 7]) (wordA 0x07 0 1 0 0 0 0) 0x07 = true ∧
    (sReg (tileOf (lab (wordA 0x07 0 1 0 0 0 0) [0, 7]) 0) 1).toNat % 8 ≠ 0 := by
  simp only [condMeans]
  decide +kernel

/-- A state with window 7 open to the context, the die's replica synchronised. -/
def windowLab (word : Nat) : State :=
  let s := withCtx (lab word []) (fun c => { c with windowMask := 0x80 })
  { s with
    sun := { s.sun with replicas := [(0, .sync)] },
    part := { s.part with
      openMask := 0x80,
      schedule := Vector.replicate 8 { openUs := 0, closeUs := 1000, kind := 1, cls := .qm, reserve := 0 } } }

/-- The item as a PAIRED one. -/
def pairedLab (word : Nat) : State :=
  let s := lab word []
  { s with gh := { s.gh with items := [{ item0 with paired := true }] } }

set_option Elab.async false in
theorem test_rdsr_premises :
    (∀ k ∈ List.range 7, meets (atTime 7 (lab (wordB 0x08 31 0 k) [])) (wordB 0x08 31 0 k) 0x08 = true) ∧
    (siteAt (lab (wordB 0x08 31 0 0) []) 0 w0 (wordB 0x08 31 0 0)).paired = false ∧
    replicaOf (lab (wordB 0x08 31 0 4) []) 0 ≠ .sync ∧
    (∀ i : Fin 8, ¬ ((ctxOf (lab (wordB 0x08 31 0 5) []) 5).windowMask.getLsbD i.val = true)) := by
  decide +kernel

theorem test_rdsr_window_premises :
    meets (atTime 7 (windowLab (wordB 0x08 31 0 5))) (wordB 0x08 31 0 5) 0x08 = true ∧
    (windowLab (wordB 0x08 31 0 5)).part.openMask.getLsbD 7 = true ∧
    (ctxOf (windowLab (wordB 0x08 31 0 5)) 5).windowMask.getLsbD 7 = true ∧
    (windowLab (wordB 0x08 31 0 5)).part.schedule[(7 : Fin 8)].cls = (ctxOf (windowLab (wordB 0x08 31 0 5)) 5).cls ∧
    (∀ j : Fin 8, j < 7 → ¬ ((windowLab (wordB 0x08 31 0 5)).part.openMask.getLsbD j.val = true)) ∧
    meets (atTime 7 (windowLab (wordB 0x08 31 0 4))) (wordB 0x08 31 0 4) 0x08 = true ∧
    replicaOf (windowLab (wordB 0x08 31 0 4)) 0 = .sync := by
  decide +kernel

theorem test_rdsr_paired_premises :
    meets (atTime 7 (pairedLab (wordB 0x08 31 0 6))) (wordB 0x08 31 0 6) 0x08 = true ∧
    (siteAt (pairedLab (wordB 0x08 31 0 6)) 0 w0 (wordB 0x08 31 0 6)).paired = true := by
  decide +kernel

theorem test_false_predicate_premises :
    ∀ r ∈ predicatedRows 1 (some ⟨0, 0, 1, none, []⟩) ⟨some (0, 1), none⟩,
      let word := predicated (anyWord r.2)
      issuesCheck (lab word []) 0 1 w0 word = true ∧ fOp word = r.2 ∧ fPE word = true ∧
        (pReg (tileOf (lab word []) 0) (fPR word)).getLsbD 0 = fPN word := by
  decide +kernel

/-- No memory error is present, as a check. -/
def cleanCheck (s : State) : Bool :=
  s.tl.badWords == [] && s.tl.softWords == [] && s.ms.badGranules == [] && s.ms.softGranules == []

theorem clean_of_check {s : State} (h : cleanCheck s = true) : Clean s := by
  simp only [cleanCheck, Bool.and_eq_true, beq_iff_eq] at h
  exact ⟨⟨h.1.1.1, h.1.1.2⟩, h.1.2, h.2⟩

/-- The conditions of `Reenters` with weights at shelf address 0, as a check. -/
def reentersCheck (s : State) (z : Site) (slot : Byte) (pc p : Nat) : Bool :=
  let a := leNat (memReads s.mem (shelfBase p + slot.toNat * 256 + 8) 4)
  boundShelf s z.ctx z.inst.second (ctxOf s z.ctx).seedShelf == some p && a % 64 == 0 &&
    firstUnbound s z.ctx z.inst.second a 2048 == none && firstUnbound s z.ctx z.inst.second pc 256 == none

theorem reenters_of_check {s : State} {z : Site} {slot : Byte} {pc p : Nat} (h : reentersCheck s z slot pc p = true) :
    Reenters s z slot pc p := by
  simp only [reentersCheck, Bool.and_eq_true, beq_iff_eq] at h
  exact ⟨h.1.1.1, .inr ⟨h.1.1.2, h.1.2⟩, h.2⟩

/-- An instruction with which an instance comes back onto its tile. -/
def reenterCheck (word : Nat) (l : List Word64) : Bool :=
  let s := lab word l
  ordinaryCheck s 0 w0 inst0 item0 && meets s word (fOp word) && cleanCheck s && (tileOf s 0).next.isNone &&
    reentersCheck s (siteAt s 0 w0 word) 0 8 514

theorem test_reenter_premises :
    reenterCheck 0x02 [] = true ∧ reenterCheck 0x52 [] = true ∧ chainsOf (lab 0x52 []) w0 = [] ∧
    reenterCheck (wordA 0x63 0 1 2 0 0 0) [0, 0x2000, 0] = true ∧
    inSyncRange (lab (wordA 0x63 0 1 2 0 0 0) [0, 0x2000, 0]).part .qm 0x2000 = true ∧
    waitHolds (lab (wordA 0x63 0 1 2 0 0 0) [0, 0x2000, 0]) 0x2000 0 = true := by
  decide +kernel

theorem test_yield_premises :
    ordinaryCheck (labOn 0x02 (fun x => { x with next := some post1 })) 0 w0 inst0 item0 = true ∧
    meets (labOn 0x02 (fun x => { x with next := some post1 })) 0x02 0x02 = true ∧
    ordinaryCheck (withChain (lab 0x52 [])) 0 w0 inst0 item0 = true ∧ meets (withChain (lab 0x52 [])) 0x52 0x52 = true ∧
    chainsOf (withChain (lab 0x52 [])) w0 ≠ [] := by
  decide +kernel

theorem test_swait_premises :
    let word := wordA 0x63 0 1 2 0 0 0
    let s := lab word [0, 0x2000, 1]
    ordinaryCheck s 0 w0 inst0 item0 = true ∧ meets s word 0x63 = true ∧ (tileOf s 0).next = none ∧
      inSyncRange s.part (ctxOf s 5).cls 0x2000 = true ∧ waitHolds s 0x2000 1 = false := by
  decide +kernel

theorem test_end_premises :
    ordinaryCheck (lab 0x03 []) 0 w0 inst0 item0 = true ∧ meets (lab 0x03 []) 0x03 0x03 = true ∧
      (tileOf (lab 0x03 []) 0).next = none ∧
    ordinaryCheck (lab (0x04 + 0xFFFF * 2 ^ 32) []) 0 w0 inst0 item0 = true ∧
      meets (lab (0x04 + 0xFFFF * 2 ^ 32) []) (0x04 + 0xFFFF * 2 ^ 32) 0x04 = true ∧
      cleanCheck (lab (0x04 + 0xFFFF * 2 ^ 32) []) = true ∧
    ordinaryCheck (labOn 0x03 (fun x => { x with next := some post1 })) 0 w0 inst0 item0 = true ∧
      meets (labOn 0x03 (fun x => { x with next := some post1 })) 0x03 0x03 = true := by
  decide +kernel

/-- The conditions of `Loads` for some bytes as a check. -/
def loadsCheck (s : State) (z : Site) (a n align : Nat) : Bool :=
  decide (a < 2 ^ 32) && a % align == 0 && s.tl.softWords.isEmpty && (match siteReads s z a n with
    | .ok _ => true
    | .error _ => false) && watchAt s z a n 1 == none

theorem loads_of_check {s : State} {z : Site} {a n align : Nat} (h : loadsCheck s z a n align = true) :
    ∃ b, Loads s z a n align b := by
  simp only [loadsCheck, Bool.and_eq_true, decide_eq_true_eq, beq_iff_eq] at h
  obtain ⟨⟨⟨⟨h1, h2⟩, hs⟩, h3⟩, h4⟩ := h
  split at h3
  · next b hb => exact ⟨b, h1, h2, ⟨hb, clearOf_of_empty hs _⟩, h4⟩
  · cases h3

/-- The conditions of `Stores` as a check. -/
def storesCheck (s : State) (z : Site) (a n align : Nat) : Bool :=
  decide (a < 2 ^ 32) && a % align == 0 && !z.golden && firstUnbound s z.ctx z.inst.second a n == none &&
    !touchesSlot s z.ctx a n && partialBad s (physPieces s z.ctx z.inst.second a n) == none && watchAt s z a n 2 == none

theorem stores_of_check {s : State} {z : Site} {a n align : Nat} (h : storesCheck s z a n align = true) :
    Stores s z a n align := by
  simp only [storesCheck, Bool.and_eq_true, decide_eq_true_eq, beq_iff_eq, Bool.not_eq_true'] at h
  obtain ⟨⟨⟨⟨⟨⟨h1, h2⟩, h3⟩, h4⟩, h5⟩, h6⟩, h7⟩ := h
  exact ⟨h1, h2, h3, h4, h5, h6, h7⟩

/-- Opcodes of loads or stores with SIZE, the bytes moved and the last place in the seed shelf's neighbour. -/
def accessCase (op size n : Nat) : Nat × Nat × Nat × Nat := (wordM op 15 1 size 0, op, n, 0x20000 - n)

/-- A load or store word whose a1 holds the address. -/
def accessLab (c : Nat × Nat × Nat × Nat) : State := labA c.1 c.2.2.2

set_option Elab.async false in
theorem test_load_premises : ∀ c ∈ [accessCase 0x40 0 1, accessCase 0x40 1 2, accessCase 0x40 2 4, accessCase 0x40 3 8,
      accessCase 0x41 0 1, accessCase 0x41 1 2, accessCase 0x41 2 4, accessCase 0x43 3 8, accessCase 0x45 0 128],
    meets (accessLab c) c.1 c.2.1 = true ∧ effAddr (tileOf (accessLab c) 0) c.1 = c.2.2.2 ∧
      loadsCheck (accessLab c) (siteAt (accessLab c) 0 w0 c.1) c.2.2.2 c.2.2.1 (min c.2.2.1 64) = true ∧
      boundShelf (accessLab c) 5 false (c.2.2.2 / 65536) = some 257 := by
  decide +kernel

theorem test_store_premises : ∀ c ∈ [accessCase 0x42 0 1, accessCase 0x42 1 2, accessCase 0x42 2 4, accessCase 0x42 3 8,
      accessCase 0x44 3 8, accessCase 0x46 0 128],
    meets (accessLab c) c.1 c.2.1 = true ∧ effAddr (tileOf (accessLab c) 0) c.1 = c.2.2.2 ∧
      storesCheck (accessLab c) (siteAt (accessLab c) 0 w0 c.1) c.2.2.2 c.2.2.1 (min c.2.2.1 64) = true ∧
      badLane (tileOf (accessLab c) 0) [fRD c.1] = none ∧ (accessLab c).tl.badWords.contains 0 = false := by
  decide +kernel

theorem test_access_fault_premises : ∀ op ∈ [0x40, 0x41, 0x42, 0x43, 0x44, 0x45, 0x46],
    let word := wordM op 15 1 (if op = 0x45 ∨ op = 0x46 then 0 else if op = 0x41 then 1 else 3) 0
    meets (labA word (2 ^ 32)) word op = true ∧ 2 ^ 32 ≤ effAddr (tileOf (labA word (2 ^ 32)) 0) word ∧
    meets (labA word 0xFFFFFFFF) word op = true ∧ effAddr (tileOf (labA word 0xFFFFFFFF) 0) word = 0xFFFFFFFF ∧
    0xFFFFFFFF % 2 ^ fSIZE (wordM op 15 1 (if op = 0x41 then 1 else 3) 0) ≠ 0 := by
  decide +kernel

theorem test_fence_premises :
    ordinaryCheck (lab (0x48 + 0x1F * 2 ^ 32) []) 0 w0 inst0 item0 = true ∧
      meets (lab (0x48 + 0x1F * 2 ^ 32) []) (0x48 + 0x1F * 2 ^ 32) 0x48 = true ∧
      (ctxOf (lab (0x48 + 0x1F * 2 ^ 32) []) 5).shadow = [] ∧
    ordinaryCheck (lab (wordA 0x4B 31 0 0 0 0 0) []) 0 w0 inst0 item0 = true ∧
      meets (lab (wordA 0x4B 31 0 0 0 0 0) []) (wordA 0x4B 31 0 0 0 0 0) 0x4B = true := by
  decide +kernel

theorem test_salloc_premises :
    let word := wordA 0x49 31 0 0 0 0 0
    ordinaryCheck (lab word []) 0 w0 inst0 item0 = true ∧ meets (lab word []) word 0x49 = true ∧
      (ctxOf (lab word []) 5).map.length < (ctxOf (lab word []) 5).shelves ∧
      (firstFree (lab word []) .qm (nearest (lab word []) 0)).isSome = true ∧
    ordinaryCheck (withCtx (lab word []) (fun c => { c with shelves := 3 })) 0 w0 inst0 item0 = true ∧
      meets (withCtx (lab word []) (fun c => { c with shelves := 3 })) word 0x49 = true ∧
      (ctxOf (withCtx (lab word []) (fun c => { c with shelves := 3 })) 5).shelves ≤
        (ctxOf (withCtx (lab word []) (fun c => { c with shelves := 3 })) 5).map.length := by
  decide +kernel

/-- A state in which no Kiln die is in service. -/
def noKilns (s : State) : State :=
  { s with ms := { s.ms with dies := [(0, .lost), (1, .lost), (2, .lost), (3, .lost)] } }

theorem test_salloc_no_shelf_premises :
    let word := wordA 0x49 31 0 0 0 0 0
    let s := noKilns (lab word [])
    ordinaryCheck s 0 w0 inst0 item0 = true ∧ meets s word 0x49 = true ∧ (ctxOf s 5).map.length < (ctxOf s 5).shelves ∧
      firstFree s .qm (nearest s 0) = none := by
  decide +kernel

theorem test_sfree_premises :
    let word := wordA 0x4A 0 1 0 0 0 0
    let s := lab word [0, 1]
    ordinaryCheck s 0 w0 inst0 item0 = true ∧ meets s word 0x4A = true ∧ boundShelf s 5 false 1 = some 257 ∧
      (ctxOf s 5).seedShelf ≠ 1 ∧ shelfUse s 257 ≠ .fenced := by
  decide +kernel

theorem test_dma_premises :
    let word := wordM 0x50 0 1 0 0
    let s := labA word 0x1FFC0
    ordinaryCheck s 0 w0 inst0 item0 = true ∧ meets s word 0x50 = true ∧ effAddr (tileOf s 0) word = 0x1FFC0 ∧
      freeChannel s 0 = some 0 ∧
    ordinaryCheck (withChain (lab (wordA 0x51 7 0 0 0 0 0) [])) 0 w0 inst0 item0 = true ∧
      meets (withChain (lab (wordA 0x51 7 0 0 0 0 0) [])) (wordA 0x51 7 0 0 0 0 0) 0x51 = true ∧
      chainsOf (withChain (lab (wordA 0x51 7 0 0 0 0 0) [])) w0 ≠ [] := by
  decide +kernel

set_option Elab.async false in
theorem test_sync_premises : ∀ op ∈ [0x60, 0x61, 0x62],
    let word := wordA op (if op = 0x62 then 7 else 0) 1 2 0 0 0
    let s := lab word [0, 0xFFFF, 0xFFFFFFFF]
    ordinaryCheck s 0 w0 inst0 item0 = true ∧ meets s word op = true ∧ inSyncRange s.part (ctxOf s 5).cls 0xFFFF = true := by
  decide +kernel

/-! ## Premises of the statements about the engines -/

/-- A legal word of a vector instruction on INT32 lanes, or on FP32 lanes where INT32 is no format of it. -/
def vectorWord (op : Nat) : Nat :=
  if op = 0xC3 then wordA op 15 1 2 3 14 0
  else if op = 0xC6 then wordA op 15 1 0 0 14 1
  else if op = 0xC7 then wordA op 15 1 0 0 13 14
  else if op = 0xC8 then wordA op 7 1 2 0 14 5
  else if op = 0xC9 then wordA op 15 1 2 7 0 0
  else if op = 0xCA ∨ op = 0xCF then wordA op 15 1 2 0 0 0
  else if op = 0xCC then wordA op 15 31 0 0 14 0
  else if op = 0xCD then wordA op 31 1 0 0 14 0
  else if op = 0xCE then wordA op 15 1 0 0 13 2
  else if op = 0xD0 then wordA op 15 1 2 0 0 0
  else if op = 0xD1 then wordA op 0 1 2 15 0 0
  else if op = 0xD2 then wordA op 15 1 0 0 0 0
  else if op = 0xD3 then wordA op 0 1 2 0 0 0
  else if op = 0xD4 then wordA op 31 1 2 0 0 0
  else if op = 0xD5 then wordA op 15 1 2 0 0 0
  else if op = 0xD6 then wordA op 15 0 0 0 0 0
  else wordA op 15 1 2 0 14 0

/-- No v register that a word reads holds a lane with wrong parity. -/
def lanesGood (s : State) (word : Nat) : Bool := (badLane (tileOf s 0) (readRegs word)).isNone

theorem test_lane_premises : ∀ r ∈ int32Rows ++ moveLaneRows,
    meets (lab (vectorWord r.2.1) []) (vectorWord r.2.1) r.2.1 = true ∧
      (fFMT (vectorWord r.2.1) = 14 ∨ fOp (vectorWord r.2.1) ∈ [0xC9, 0xCA, 0xCF, 0xD6]) ∧
      lanesGood (lab (vectorWord r.2.1) []) (vectorWord r.2.1) = true := by
  decide +kernel

theorem test_float_lane_premises : ∀ r ∈ floatRows, ∀ f ∈ [11, 12, 13],
    let word := wordA r.2.1 15 1 2 (if r.2.1 = 0xC3 then 3 else 0) f 0
    meets (lab word []) word r.2.1 = true ∧ fFMT word ≠ 14 ∧ lanesGood (lab word []) word = true := by
  decide +kernel

theorem test_lane_scalar_premises : ∀ op ∈ [0xC7, 0xC8, 0xCD, 0xCE, 0xD4, 0xD5],
    meets (lab (vectorWord op) [0, 0, 31]) (vectorWord op) op = true ∧ lanesGood (lab (vectorWord op) []) (vectorWord op) = true ∧
      (op = 0xC8 ∨ op = 0xCD → fFMT (vectorWord op) = 14) := by
  decide +kernel

/-- Whether every lane's address of a gather or scatter at 0x1FF80 goes through. -/
def lanesCheck (s : State) (word : Nat) : Bool :=
  (List.range 32).all (fun i =>
    loadsCheck s (siteAt s 0 w0 word) (laneAddr (tileOf s 0) word i) 4 4 &&
      storesCheck s (siteAt s 0 w0 word) (laneAddr (tileOf s 0) word i) 4 4)

/-- A tile whose a1 holds 0x1FF80 and whose v2 holds 4 times the lane number. -/
def lanesLab (word : Nat) : State :=
  labOn word (fun x => { x with
    a := x.a.setIfInBounds 1 0x1FF80,
    v := x.v.setIfInBounds 2 (Vector.ofFn (fun i => BitVec.ofNat 32 (4 * i.val))) })

theorem test_gather_premises : ∀ op ∈ [0xD0, 0xD1],
    meets (lanesLab (vectorWord op)) (vectorWord op) op = true ∧ lanesGood (lanesLab (vectorWord op)) (vectorWord op) = true ∧
    lanesCheck (lanesLab (vectorWord op)) (vectorWord op) = true := by
  decide +kernel

theorem test_vldc_premises : ∀ op ∈ [0xD2, 0xD3],
    let s := labA (vectorWord op) 0x1FFE0
    meets s (vectorWord op) op = true ∧ lanesGood s (vectorWord op) = true ∧ fFMT (vectorWord op) = 0 ∧ fSATN (vectorWord op) = false ∧
      laneMask (tileOf s 0) (vectorWord op) = 0xFFFFFFFF ∧ (aReg (tileOf s 0) (fRS1 (vectorWord op))).toNat = 0x1FFE0 ∧
      loadsCheck s (siteAt s 0 w0 (vectorWord op)) 0x1FFE0 32 8 = true ∧
      storesCheck s (siteAt s 0 w0 (vectorWord op)) 0x1FFE0 32 8 = true ∧ s.tl.badWords = [] := by
  decide +kernel

/-- A tensor state with a set fetched. -/
def withShadow (x : Tile) : Tile := { x with tensor := { x.tensor with shadow := some ⟨[], 3, []⟩ } }

/-- A tile with every bank in the float mode of 32 columns and a1 holding `a`. -/
def bankLab (word a : Nat) : State :=
  labOn word (fun x => { x with
    a := x.a.setIfInBounds 1 (BitVec.ofNat 48 a)
    s := x.s.setIfInBounds 2 1
    tensor := setBank { x.tensor with active := ⟨[], 11, []⟩ } 3 { bankReset with mode := some (true, false) } })

theorem test_weight_premises :
    meets (labA (wordA 0x80 0 1 0 0 3 0) 0x1F800) (wordA 0x80 0 1 0 0 3 0) 0x80 = true ∧
      isMx (fFMT (wordA 0x80 0 1 0 0 3 0)) = false ∧
      loadsCheck (labA (wordA 0x80 0 1 0 0 3 0) 0x1F800) (siteAt (labA (wordA 0x80 0 1 0 0 3 0) 0x1F800) 0 w0 (wordA 0x80 0 1 0 0 3 0))
        0x1F800 2048 64 = true ∧
    meets (lab (wordA 0x81 0 0 0 0 3 0) []) (wordA 0x81 0 0 0 0 3 0) 0x81 = true ∧
    meets (lab (wordA 0x83 0 3 0 0 0 0) []) (wordA 0x83 0 3 0 0 0 0) 0x83 = true ∧
    (tileOf (labA (wordA 0x80 0 1 0 0 3 0) 0x1F800) 0).tensor.shadow = none ∧
    (tileOf (labA (wordA 0x80 0 1 0 0 3 0) 0x1F800) 0).tensor.fetches = [] ∧
    (tileOf (labOn 0x01 withShadow) 0).tensor.shadow = some ⟨[], 3, []⟩ ∧
    (tileOf (labOn 0x01 withShadow) 0).leaving = none := by
  decide +kernel

/-- A tile on which a second tldw waits behind a fetched set. -/
def fetchLab : State :=
  labOn 0x01 (fun x => { x with
    tensor := { (withShadow x).tensor with fetches := [⟨wordA 0x80 0 1 0 0 3 0, 0, 0x1F800, 0⟩] } })

theorem test_weight_fetch_premises :
    meets (labOn (wordA 0x80 0 1 0 0 3 0) withShadow) (wordA 0x80 0 1 0 0 3 0) 0x80 = true ∧
    (tileOf fetchLab 0).tensor.fetches = [⟨wordA 0x80 0 1 0 0 3 0, 0, 0x1F800, 0⟩] ∧
    loadsCheck fetchLab (siteOf fetchLab 0 w0 0 (wordA 0x80 0 1 0 0 3 0)) 0x1F800 2048 64 = true := by
  decide +kernel

set_option Elab.async false in
theorem test_tmac_premises :
    let word := wordA 0x82 3 1 2 0 11 0
    let s := bankLab word 0x1FFC0
    meets s word 0x82 = true ∧ isMx (fFMT word) = false ∧ (tileOf s 0).tensor.drain = none ∧ (tileOf s 0).tensor.shadow = none ∧
      (tileOf s 0).tensor.fetches = [] ∧
      pairOk (tileOf s 0).tensor.active.format.toNat 11 = true ∧
      (bankOf (tileOf s 0).tensor 3).mode = some (floatKind 11, (weightShape 11).2 == 64) ∧
      (sReg (tileOf s 0) (fRS2 word)).toNat = 1 ∧
      loadsCheck s (siteAt s 0 w0 word) 0x1FFC0 ((weightShape 11).1 * fmtBits 11 / 8) 16 = true := by
  decide +kernel

theorem test_drain_premises :
    let word := wordA 0x84 1 3 2 0 13 0
    let s := bankLab word 0x10000
    meets s word 0x84 = true ∧ isMx (fFMT word) = false ∧ (bankOf (tileOf s 0).tensor 3).mode = some (true, false) ∧
      drainFmtOk true (fFMT word) = true ∧ (aReg (tileOf s 0) (fRD word)).toNat = 0x10000 ∧
      firstUnbound s 5 false 0x10000 (32 * (32 * fmtBits 13 / 8)) = none ∧
    meets (bankLab (wordA 0x85 0 3 0 0 0 0) 0) (wordA 0x85 0 3 0 0 0 0) 0x85 = true ∧
    meets (bankLab (wordA 0x86 15 3 2 0 0 1) 0) (wordA 0x86 15 3 2 0 0 1) 0x86 = true := by
  decide +kernel

/-- A check of bank 3. -/
def check3 : Drain :=
  { bank := 3, only := true, word := wordA 0x85 0 3 0 0 0 0, pc := 0, dest := 0, scale := 0, control := 0 }

/-- A tile with a check of bank 3 pending, whose checksums are as given. -/
def checkLab (chk : Tab Word32) : State :=
  labOn 0x01 (fun x =>
    let b := { bankReset with mode := some (false, false), rowChk := chk, colChk := chk }
    { x with tensor := setBank { x.tensor with drain := some check3 } 3 b })

/-- The verdicts of the lines of bank 3. -/
def lineVerdicts (s : State) : List Verdict :=
  let x := tileOf s 0
  let b := bankOf x.tensor 3
  let v := checkBank (bankMode x.tensor b).1 (foldBank x.tensor.active b) (ctxOf s x.ctx).checkK.toNat
  v.1 ++ v.2

theorem test_verdict_premises :
    (tileOf (checkLab []) 0).inst = some w0 ∧ ((tileOf (checkLab []) 0).tensor.drain.map (fun d => d.only)) = some true ∧
    (∀ e ∈ lineVerdicts (checkLab []), e ≠ .fail) ∧ ((lineVerdicts (checkLab [(0, 1)])).any (fun e => e == .fail) = true) ∧
    (checkLab [(0, 1)]).bv.tests.any (fun e => e.unit == tileUnit 0) = false := by
  decide +kernel

/-- A tile whose a1, a2 and a3 hold the summaries, the result and the query, and s2 the control word. -/
def seqLab (word ctl : Nat) : State :=
  labOn word (fun x => { x with
    a := ((x.a.setIfInBounds 1 0x10000).setIfInBounds 2 0x1F000).setIfInBounds 3 0x1FFC0
    s := x.s.setIfInBounds 2 (BitVec.ofNat 64 ctl) })

theorem test_sscore_premises :
    let word := wordA 0xF0 2 1 2 3 0 0
    let s := seqLab word 1
    let z := siteAt s 0 w0 word
    meets s word 0xF0 = true ∧ fFUNC word % 2 = 0 ∧ loadsCheck s z 0x1FFC0 64 64 = true ∧
      loadsCheck s z 0x10000 64 64 = true ∧ storesCheck s z 0x1F000 4 4 = true ∧ s.tl.badWords = [] ∧
      meets (seqLab word 0) word 0xF0 = true ∧ (sReg (tileOf (seqLab word 0) 0) (fRS2 word)).toNat % 65536 = 0 ∧
      (tileOf s 0).tensor.drain = none ∧ (tileOf s 0).tensor.fetches = [] := by
  decide +kernel

theorem test_stopk_premises :
    let word := wordA 0xF1 2 1 2 0 0 0
    let ctl := 2 + 64 * 2 ^ 16 + (0xFFFFFFFF - 2) * 2 ^ 32
    let s := seqLab word ctl
    let z := siteAt s 0 w0 word
    meets s word 0xF1 = true ∧ bit ctl 23 = false ∧ bits ctl 22 16 = 64 ∧ bits ctl 63 32 + 2 ≤ 0xFFFFFFFF ∧
      loadsCheck s z 0x10000 8 8 = true ∧ storesCheck s z 0x1F000 512 64 = true := by
  decide +kernel

theorem test_load_upset_premises : ∀ u ∈ [2, 72],
    let s := accessLab (accessCase 0x42 2 4)
    boundShelf s 5 false (0x1FFFC / 65536) = some 257 ∧ 2 ≤ u ∧ s.tl.badWords.contains ((shelfBase 257 + 0x1FFFC % 65536) / 8 * 8) = false := by
  decide +kernel

theorem test_vldc_lane_premises :
    let s := labA (vectorWord 0xD2) 0x1FFE0
    (List.range 32).all (fun i => loadsCheck s (siteAt s 0 w0 (vectorWord 0xD2)) (0x1FFE0 + i) 1 1) = true := by
  decide +kernel

/-- The same tile with a2 and a3 at the line 0x10000. -/
def scaleLab (s : State) : State :=
  modTile s 0 (fun x => { x with a := (x.a.setIfInBounds 2 0x10000).setIfInBounds 3 0x10000 })

theorem test_weight_scales_premises :
    (∀ f ∈ [4, 10], let word := wordA 0x80 0 1 2 0 f 0
     let s := scaleLab (labA word 0x1F800)
     meets s word 0x80 = true ∧ isMx (fFMT word) = true ∧ (aReg (tileOf s 0) (fRS2 word)).toNat = 0x10000 ∧
       loadsCheck s (siteAt s 0 w0 word) 0x1F800 2048 64 = true ∧
       loadsCheck s (siteAt s 0 w0 word) 0x10000 (if (weightShape f).1 = 64 then 128 else 64) 64 = true) ∧
    (let word := wordA 0x81 0 0 2 0 4 0
     let s := scaleLab (lab word [])
     meets s word 0x81 = true ∧ isMx (fFMT word) = true ∧ (tileOf s 0).tensor.shadow = none ∧ (tileOf s 0).tensor.fetches = [] ∧
       loadsCheck s (siteAt s 0 w0 word) 0x10000 64 64 = true) := by
  decide +kernel

set_option Elab.async false in
theorem test_tmac_scales_premises :
    let word := wordA 0x82 3 1 2 3 4 0
    let s := scaleLab (labOn word (fun x => { x with
      a := x.a.setIfInBounds 1 0x1FFC0
      s := x.s.setIfInBounds 2 1
      tensor := { x.tensor with active := ⟨[], 4, []⟩ } }))
    meets s word 0x82 = true ∧ isMx (fFMT word) = true ∧ pairOk 4 4 = true ∧ (bankOf (tileOf s 0).tensor 3).mode = none ∧
      (tileOf s 0).tensor.drain = none ∧ (aReg (tileOf s 0) (fRS3 word)).toNat = 0x10000 ∧
      loadsCheck s (siteAt s 0 w0 word) 0x1FFC0 ((weightShape 4).1 * fmtBits 4 / 8) 64 = true ∧
      loadsCheck s (siteAt s 0 w0 word) 0x10000 ((weightShape 4).1 / 32) 64 = true ∧
    bits ((sReg (tileOf (bankLab (wordA 0x82 3 1 0 0 11 0) 0) 0) 0).toNat) 5 0 = 0 := by
  decide +kernel

theorem test_drain_forms_premises :
    (let word := wordA 0x84 1 3 2 3 4 0
     let s := scaleLab (bankLab word 0x10000)
     meets s word 0x84 = true ∧ isMx (fFMT word) = true ∧ drainFmtOk true (fFMT word) = true ∧
       (aReg (tileOf s 0) (fRS3 word)).toNat = 0x10000 ∧ firstUnbound s 5 false 0x10000 (32 / 32 * 32) = none) ∧
    (let word := wordA 0x84 1 0 0 0 13 0
     let s := bankLab word 0x10000
     meets s word 0x84 = true ∧ bankOf (tileOf s 0).tensor 0 = bankReset ∧ isMx (fFMT word) = false ∧
       drainFmtOk (floatKind (tileOf s 0).tensor.active.format.toNat) (fFMT word) = true ∧
       storesCheck s (siteAt s 0 w0 word) 0x10000 (32 * (32 * fmtBits 13 / 8)) 64 = true ∧ s.tl.badWords = []) := by
  decide +kernel

/-- A tile with a drain of bank 3 to 0x10000 pending, whose checksums are as given. -/
def drainLab (chk : Tab Word32) : State :=
  modTile (checkLab chk) 0 (fun x => { x with
    tensor := { x.tensor with drain := some { check3 with only := false, word := wordA 0x84 1 3 2 0 14 0, dest := 0x10000 } } })

theorem test_drain_verdict_premises :
    let s := drainLab []
    let d : Drain := { check3 with only := false, word := wordA 0x84 1 3 2 0 14 0, dest := 0x10000 }
    (tileOf s 0).inst = some w0 ∧ (tileOf s 0).tensor.drain = some d ∧ isMx (fFMT d.word) = false ∧
      (∀ e ∈ lineVerdicts s, e ≠ .fail) ∧ bit (fFUNC d.word) 0 = false ∧
      (let x := tileOf s 0
       let m := bankMode x.tensor (bankOf x.tensor 3)
       storesCheck s (siteOf s 0 w0 d.pc d.word) d.dest (drainBytes m.1 m.2 d (foldBank x.tensor.active (bankOf x.tensor 3))).1.length 64 = true) ∧
      s.tl.badWords = [] ∧
    findInst (drainLab [(0, 1)]) w0 = some inst0 ∧ inst0.tile = some 0 ∧ findItem (drainLab [(0, 1)]) w0.item = some item0 ∧
      (tileOf (drainLab [(0, 1)]) 0).leaving = none ∧ (lineVerdicts (drainLab [(0, 1)])).any (fun e => e == .fail) = true := by
  decide +kernel

theorem test_stopk_merge_premises :
    let word := wordA 0xF1 2 1 2 0 0 0
    let ctl := 2 + 64 * 2 ^ 16 + 2 ^ 23
    let s := seqLab word ctl
    meets s word 0xF1 = true ∧ bit ctl 23 = true ∧ bits ctl 22 16 = 64 ∧
      loadsCheck s (siteAt s 0 w0 word) 0x1F000 512 64 = true ∧
    fFUNC (wordA 0xF0 2 1 2 3 0 0) % 2 = 0 := by
  decide +kernel

/-! ## Premises of the statements about the Gatehouse -/

/-- A block of `n` bytes with these fields: offset, length and value. -/
def fields (n : Nat) (l : List (Nat × Nat × Nat)) : List Byte :=
  memReads (l.foldl (fun m e => memWrites m e.1 (leBytes e.2.1 e.2.2)) []) 0 n

/-- Function 0 may issue requests and queue 63 is enabled, of 16 entries, with one announced at the last slot. -/
def house : State :=
  let s := State.reset
  { s with
    hi := { s.hi with fns := [(0, { fnReset with busMaster := true })] }
    gh := { s.gh with queues := [(63, { queueReset with enable := true, base := 0x1000, cqBase := 0x2000, head := 15, subIndex := 0 })] } }

/-- A SYNC descriptor: class B, OP, object 0x2000 and VALUE. -/
def syncDesc (op v : Nat) : List Byte := fields 64 [(0, 1, 8), (16, 1, op), (18, 2, 0x2000), (20, 4, v)]

/-- An accepted item of queue 63 with a descriptor. -/
def itemWith (d : List Byte) : Item :=
  { item0 with id := ⟨63, 0⟩, desc := d, stage := .accepted, taken := false, began := false }

/-- The Gatehouse with one item. -/
def houseWith (x : Item) : State := { house with gh := { house.gh with items := [x] } }

theorem test_queue_premises :
    let s := house
    (reachesQueue s 0 62 = true ∧ (queueOf s 62).enable = false ∧ functionRule s (configQueue s 0 62 0x14) = true ∧
      (0x14 : Word32).getLsbD 4 = true) ∧
    ((queueOf s 63).enable = true ∧ (0 : Word32).getLsbD 4 = false ∧ reachesQueue s 0 63 = true) ∧
    (let u := setQueue s 63 { queueOf s 63 with clearPending := true }
     (queueOf u 63).clearPending = true ∧ queueItems u 63 = [] ∧ (queueOf u 63).fetched = none) ∧
    doorbellPage s 0 63 = true ∧ doorbellPage s 0 62 = false ∧ 15 < 2 ^ (queueOf s 63).sizeLog2.toNat ∧
      (queueOf s 63).planQueue = false ∧ 2 ^ (queueOf s 63).sizeLog2.toNat ≤ 16 ∧
    doorbellPage (setQueue s 63 { queueOf s 63 with planQueue := true }) 0 63 = true := by
  decide +kernel

/-- The host memory that holds a descriptor at the last entry of the ring. -/
def ringCells (d : List Byte) : List Host.Cell := memWrites [] (0x1000 + 64 * 15) d

theorem test_fetch_premises :
    let s0 := hostWrites (ringCells (syncDesc 0 1)) (atTime 5 house)
    let d := memReads s0.hostMem (0x1000 + 64 * 15) 64
    let r := namedBlock s0 d
    canFetch s0 63 = true ∧ headerHeld s0 d = false ∧ (queueOf s0 63).fetchFailed = false ∧
    worst (descriptorViols r.1 63 d r.2) = none ∧
    (let z := memReads house.hostMem (0x1000 + 64 * 15) 64
     canFetch house 63 = true ∧ headerHeld house z = false ∧ (worst (descriptorViols (namedBlock house z).1 63 z (namedBlock house z).2)).isSome = true) ∧
    canFetch (setQueue house 63 { queueOf house 63 with fetchFailed := true }) 63 = true ∧
    headerHeld (setQueue house 63 { queueOf house 63 with fetchFailed := true }) (memReads house.hostMem (0x1000 + 64 * 15) 64) = false := by
  decide +kernel

theorem test_accept_premises :
    let d := syncDesc 0 1
    let s := setQueue house 63 { queueOf house 63 with fetched := some d, block := [] }
    (queueOf s 63).fetched = some d ∧ d.length = 64 ∧ s.gh.rebuilding = false ∧ kilnsIn s ≠ [] ∧
      queueLive s 63 < 2 ^ (queueOf s 63).sizeLog2.toNat ∧ ghRuns s = true ∧
      cleanCheck s = true ∧ headerHeld s d = false ∧ (∀ k : KilnId, 0 < presentBytes s k.val) ∧
      worst (descriptorViols (heldBlock s d []).1 63 d (heldBlock s d []).2) = none ∧ (s.gh.mirrorB.isSome = true) := by
  decide +kernel

theorem test_taken_premises :
    (let x := itemWith (fields 64 [(0, 1, 1), (26, 2, 65534)])
     let s := houseWith x
     findItem s ⟨63, 0⟩ = some x ∧ x.taken = false ∧ x.stage = .accepted ∧ dType x.desc = 1 ∧ x.batch = false ∧
       dPaired x.desc = false ∧ dGolden x.desc = false) ∧
    (∀ k ∈ [2, 3, 4], let x := itemWith (fields 64 [(0, 1, k)])
     findItem (houseWith x) ⟨63, 0⟩ = some x ∧ dType x.desc = k) ∧
    (let x := { itemWith (fields 64 [(0, 1, 6), (2, 2, 5)]) with block := fields 64 [(24, 1, 2), (25, 1, 3), (26, 2, 4)] }
     findItem (houseWith x) ⟨63, 0⟩ = some x ∧ dType x.desc = 6 ∧ field x.block 24 1 ≤ 2 ∧ field x.block 25 1 ≤ 3 ∧
       x.id = ⟨63, 0⟩) := by
  decide +kernel

set_option Elab.async false in
theorem test_fence_item_premises :
    (let x := itemWith (fields 64 [(0, 1, 5)])
     let s := houseWith x
     findItem s ⟨63, 0⟩ = some x ∧ ghRuns s = true ∧ mayStart (atTime 0 s) x = true ∧ cleanCheck s = true ∧ dType x.desc = 5 ∧
       s.gh.items.any (fun y => itemLive y && y.id != x.id && itemBefore y x && inScope s x y) = false) ∧
    (∀ op ∈ [0, 1], let x := itemWith (syncDesc op 0xFFFFFFFF)
     let s := houseWith x
     findItem s ⟨63, 0⟩ = some x ∧ mayStart (atTime 0 s) x = true ∧ syncReady (atTime 0 s) x op = true ∧ cleanCheck s = true) := by
  decide +kernel

/-- An item that has been taken up, with context 5 listed and window 7 open to it. -/
def beginLab (d : List Byte) : State :=
  let s := windowLab 1
  { s with gh := { (houseWith { itemWith d with taken := true }).gh with contexts := s.gh.contexts } }

theorem test_begin_premises :
    ∀ d ∈ [fields 64 [(0, 1, 1), (2, 2, 5)], fields 64 [(0, 1, 2), (2, 2, 5)], fields 64 [(0, 1, 2), (2, 2, 5), (28, 4, 1)],
        fields 64 [(0, 1, 6), (2, 2, 6)], fields 64 [(0, 1, 4), (28, 1, 0x3E)], fields 64 [(0, 1, 3), (28, 1, 1)]],
      let x := { itemWith d with taken := true }
      let s := beginLab d
      findItem s ⟨63, 0⟩ = some x ∧ x.id = ⟨63, 0⟩ ∧ x.stage = .accepted ∧ x.verdict = none ∧ x.error = none ∧ x.plan = false ∧
        ghRuns s = true ∧ x.taken = true ∧ mayStart (atTime 0 s) x = true ∧ cleanCheck s = true := by
  decide +kernel

theorem test_copy_begin_premises :
    let d := fields 64 [(0, 1, 2), (2, 2, 5), (28, 4, 1)]
    let x := { itemWith d with taken := true }
    let s := beginLab d
    (ctxOf s (dCtx x.desc)).state = .ready ∧ copyLen x.desc ≠ 0 ∧ (copyEngine (atTime 0 s) x).isSome = true ∧
    (let y := { x with stage := .running, began := true }
     let u := { s with gh := { s.gh with items := [y] } }
     findItem u ⟨63, 0⟩ = some y ∧ y.engine = none ∧ y.verdict = none ∧ y.error = none ∧ (ctxOf u (dCtx y.desc)).state = .ready ∧
       windowOpenFor u (ctxOf u (dCtx y.desc)) = true ∧ (copyEngine (atTime 0 u) y).isSome = true ∧ cleanCheck u = true) ∧
    windowOpenFor s (ctxOf s (dCtx x.desc)) = true ∧
    (∀ r : Fin 15, field (fields 64 [(0, 1, 4), (28, 1, 0x20 + r.val)]) 28 1 = 0x20 + r.val) := by
  decide +kernel

theorem test_deadline_premises :
    ∀ k ∈ [1, 6], let x := itemWith (fields 64 [(0, 1, k), (8, 4, 1)])
    let s := houseWith x
    findItem s ⟨63, 0⟩ = some x ∧ x.stage = .accepted ∧ x.began = false ∧ x.verdict = none ∧ x.error = none ∧ cleanCheck s = true ∧
      dType x.desc = k ∧ dDeadline x.desc ≠ 0 ∧ x.accepted + dDeadline x.desc * 1000 ≤ max s.sun.ns 1000 := by
  decide +kernel

/-- A RUN with four signals that is done with a verdict. -/
def doneItem (v : Option (BitVec 16 × Word32)) : Item :=
  { itemWith (fields 64 [(0, 1, 1), (5, 1, 0x40), (56, 2, 9), (58, 2, 9), (60, 2, 1), (62, 2, 2)]) with stage := .done, verdict := v }

/-- The premises of its publication, as a check. -/
def publishCheck (s : State) (x : Item) : Bool :=
  findItem s ⟨63, 0⟩ == some x && publishNext (atTime 0 s) x && ghRuns s && queueIssues s 63 && cleanCheck s

/-- Its signals are to be added. -/
def addsSignals (x : Item) : Bool := x.stage == .done && !x.plan && !x.dropped && decide ((x.verdict.getD (0, 0)).1.toNat < 0x100)

theorem test_publish_premises :
    publishCheck (houseWith (doneItem none)) (doneItem none) = true ∧ addsSignals (doneItem none) = true ∧
    addsSignals (doneItem (some (0x0205, 0))) = false ∧
    (let x := { itemWith (fields 64 []) with stage := .rejected, verdict := some (0x0101, 0) }
     publishCheck (houseWith x) x = true) ∧
    publishCheck (houseWith (doneItem (some (0x0205, 0)))) (doneItem (some (0x0205, 0))) = true ∧
    (queueOf (houseWith (doneItem none)) 63).cqUsed < 2 ^ (queueOf (houseWith (doneItem none)) 63).sizeLog2.toNat := by
  decide +kernel

theorem test_publish_full_premises :
    let u := setQueue (houseWith (doneItem none)) 63 { queueOf house 63 with cqUsed := 16 }
    publishCheck u (doneItem none) = true ∧ 2 ^ (queueOf u 63).sizeLog2.toNat ≤ (queueOf u 63).cqUsed := by
  decide +kernel

theorem test_replay_premises :
    (let x := { itemWith (fields 64 [(0, 1, 1), (2, 2, 5)]) with stage := .running, error := some (0x0301, 0) }
     let s := houseWith x
     findItem s ⟨63, 0⟩ = some x ∧ x.error ≠ none ∧ x.stage ≠ .done ∧ x.engine = none ∧ itemInsts s ⟨63, 0⟩ = [] ∧
       itemChains s ⟨63, 0⟩ = [] ∧ s.tl.tiles = [] ∧ cleanCheck s = true) ∧
    (let s := { house with gh := { house.gh with rebuilding := true, mirrorB := none } }
     s.gh.rebuilding = true ∧ kilnsIn s = [0, 1, 2, 3] ∧ (∀ k : KilnId, 0 < presentBytes s k.val) ∧
       s.gh.mirrorA ≠ s.gh.mirrorB ∧ s.gh.mirrorA ≠ none ∧ cleanCheck s = true) ∧
    (let s := { house with gh := { house.gh with progress := [(0, { progressReset with base := 0xFF01 })] } }
     (progressOf s 0).base.getLsbD 0 = true ∧ fnExists s 0 = true ∧ fnCanIssue s 0 = true ∧ ghRuns s = true) := by
  decide +kernel

theorem test_sync_cycle_premises :
    let s := { State.reset with sync := { State.reset.sync with waiting := [⟨true, 5, 7⟩, ⟨false, 5, 1⟩] } }
    ((s.sync.waiting.take 2).filter (fun o => o.reset && o.id.toNat == 5)).length ≤ 1 := by
  decide +kernel

set_option Elab.async false in
theorem test_swait_ready_premises :
    (let s := lab 1 []
     let u := { s with gh := { s.gh with insts := [{ inst0 with wait := .sync 0x2000 0 }] } }
     findInst u w0 = some { inst0 with wait := .sync 0x2000 0 } ∧ (0 : Word32).toNat ≤ (syncGet u 0x2000).toNat) ∧
    (let x := itemWith (fields 64 [(0, 1, 1), (5, 1, 4), (50, 2, 0x2000)])
     findItem (houseWith x) ⟨63, 0⟩ = some x ∧ 3 < dNWait x.desc ∧ dWaitValue x.desc 3 ≤ (syncGet (houseWith x) (dWaitId x.desc 3)).toNat) := by
  decide +kernel

/-- A CONTEXT-DESTROY of context 5, with FORCE or not. -/
def destroyItem (force : Nat) : Item := itemWith (fields 64 [(0, 1, 7), (2, 2, 5), (16, 1, force)])

/-- That CONTEXT-DESTROY with FORCE, and a COPY of the context that runs. -/
def destroyLab (c : Context) : State :=
  { house with
    ms := { house.ms with blocks := [(0x200000000, .owned 5 0)] }
    tl := { house.tl with chains := [chain0] }
    gh := { house.gh with
      contexts := [(5, c)]
      items := [destroyItem 1, { itemWith (fields 64 [(0, 1, 2), (2, 2, 5)]) with id := ⟨63, 1⟩, stage := .running }] } }

/-- The conditions on the CONTEXT-DESTROY of context 5 that all its clauses share, as a check. -/
def destroyCheck (s : State) (x : Item) : Bool :=
  findItem s ⟨63, 0⟩ == some x && itemNames x 5 && dType x.desc == 7 && x.stage == .accepted && !pastDeadline (atTime 0 s) x &&
    ghRuns s && cleanCheck s

theorem test_destroy_premises :
    (let s := destroyLab ctx5
     destroyCheck s (destroyItem 1) = true ∧ mayStart (atTime 0 s) (destroyItem 1) = true ∧ (ctxOf s 5).state ≠ .free ∧
       (ctxOf s 5).state ≠ .closing ∧ destroyForce (destroyItem 1).desc = true ∧
       (∃ y, findItem s ⟨63, 1⟩ = some y ∧ itemNames y 5 = true ∧ dType y.desc ≠ 7 ∧ y.stage = .running ∧ y.verdict = none ∧
         s.gh.insts = [] ∧ itemChains s ⟨63, 1⟩ = [] ∧ y.engine = none)) ∧
    (let s := { destroyLab ctx5 with gh := { (destroyLab ctx5).gh with items := [destroyItem 0] } }
     destroyCheck s (destroyItem 0) = true ∧ destroyForce (destroyItem 0).desc = false ∧ earlierDone (atTime 0 s) (destroyItem 0) 5 = true) ∧
    (let s := destroyLab { ctx5 with state := .closing, closer := some ⟨63, 0⟩ }
     destroyCheck s (destroyItem 1) = true ∧ (ctxOf s 5).closer = some ⟨63, 0⟩ ∧ (ctxOf s 5).closing3 = none ∧
       (ctxOf s 5).stalled = none ∧ tileHolds s 5 = false) ∧
    (let s := destroyLab { ctx5 with state := .closing, stalled := some 4 }
     destroyCheck s (destroyItem 1) = true ∧ (ctxOf s 5).stalled = some 4) ∧
    (let s := destroyLab contextReset
     destroyCheck s (destroyItem 1) = true ∧ (ctxOf s 5).state = .free) := by
  refine ⟨⟨?_, ?_, ?_, ?_, ?_, ⟨{ itemWith (fields 64 [(0, 1, 2), (2, 2, 5)]) with id := ⟨63, 1⟩, stage := .running }, ?_⟩⟩, ?_⟩ <;>
    decide +kernel

theorem test_teardown_premises :
    let s := destroyLab { ctx5 with state := .closing, closing3 := some 0 }
    (ctxOf s 5).state = .closing ∧ tileHolds s 5 = false ∧ (0x200000000, BlockUse.owned 5 0) ∈ s.ms.blocks ∧
      (ctxOf s 5).closing3 = some 0 ∧ (ctxOf s 5).stalled = none ∧ 0 + 10000000 ≤ max s.sun.ns 10000000 ∧ outstanding s 5 = [0] ∧
    (let u := { s with tl := { s.tl with chains := [] } }
     outstanding u 5 = [] ∧ (ctxOf u 5).closing3 = some 0) ∧
    4 ∈ ([4, 5] : List Nat) ∧ (∀ e ∈ ([4, 5] : List Nat), 4 ≤ e) := by
  decide +kernel

/-- A tile program of 192 bytes: one section of 8 bytes and one entry. -/
def image0 (footprint : Nat) : List Byte :=
  fields 192 [(0, 4, 0x48534C55), (4, 2, 2), (6, 2, 1), (8, 4, 192), (16, 2, footprint), (18, 2, 1), (20, 2, 1), (24, 4, 128), (28, 4, 144),
    (128, 4, 128), (132, 4, 8), (140, 4, 8)]

/-- Context 5 LOADING from an image in LPDDR6. -/
def loadLab (img : List Byte) (shelves : Nat) : State :=
  let c := { ctx5 with
    state := .loading, map := [], imageAddr := 0, imageLen := 192, seedShelf := 1, shelves := shelves, creator := ⟨63, 0⟩ }
  { house with
    mem := memWrites [] 0 img
    ms := { house.ms with dies := [(1, .lost), (2, .lost), (3, .lost)] }
    tl := { house.tl with tiles := (List.range 63).map (fun k => (k, { tileReset with state := .fenced })) }
    gh := { house.gh with
      contexts := [(5, c)]
      items := [{ itemWith (fields 64 [(0, 1, 6), (2, 2, 5)]) with stage := .running, began := true }] } }

/-- The image that the state names. -/
def loadImage (s : State) : List Byte := paReads s (ctxOf s 5).imageAddr.toNat (ctxOf s 5).imageLen

theorem test_load_context_premises :
    (let s := loadLab (image0 2) 2
     let x := ctxOf s 5
     (match findItem s x.creator with
       | some y => y.began && y.stage == .running && y.error == none && y.verdict == none
       | none => false) = true ∧
       x.state = .loading ∧ ghRuns s = true ∧ imageHeld s x = false ∧ cleanCheck s = true ∧ imageFailure x (loadImage s) = none ∧
       imgFootprint (loadImage s) ≤ freeCount s x.cls) ∧
    (let s := loadLab (image0 3) 2
     imageFailure (ctxOf s 5) (loadImage s) = some (stImageFootprint, 3)) ∧
    (let s := loadLab (image0 40960) 40960
     imageFailure (ctxOf s 5) (loadImage s) = none ∧ freeCount s (ctxOf s 5).cls < imgFootprint (loadImage s)) := by
  decide +kernel

/-- A RUN of context 6, which has an open window, with instance 0 to start, beside the tile of context 5. -/
def placeLab (tiles : Tab Tile) : State :=
  let s := windowLab 1
  let x := { itemWith (fields 64 [(0, 1, 1), (2, 2, 6), (26, 2, 1)]) with taken := true, todo := [0] }
  { s with
    tl := { s.tl with tiles := tiles }
    gh := { s.gh with
      items := [item0, x]
      contexts := [(5, ctx5), (6, { ctx5 with windowMask := 0x80 })] } }

theorem test_place_premises :
    let s := placeLab [(0, tile0 [])]
    ghRuns s = true ∧ cleanCheck s = true ∧ (∀ y ∈ s.gh.items, findItem s y.id = some y ∧ (y.began = true → y.stage ≠ .accepted)) ∧
      (firstPlace s (rankOrder s (readyAll s))).isSome = true ∧ firstPost s (rankOrder s (readyAll s)) = none := by
  decide +kernel

theorem test_post_premises :
    let u := placeLab ((List.range 64).map (fun k => (k, if k = 0 then tile0 [] else { tileReset with testing := true })))
    let s := { u with ms := { u.ms with dies := [(1, .lost), (2, .lost), (3, .lost)] } }
    ghRuns s = true ∧ cleanCheck s = true ∧ (∀ y ∈ s.gh.items, findItem s y.id = some y ∧ (y.began = true → y.stage ≠ .accepted)) ∧
      firstPlace s (rankOrder s (readyAll s)) = none ∧ (firstPost s (rankOrder s (readyAll s))).isSome = true := by
  decide +kernel

/-- The instance that the post names, listed. -/
def postLab (p : Post) : State :=
  let s := labOn 0x01 (fun x => { x with next := some p, state := .switching, inst := none })
  { s with gh := { s.gh with insts := [{ inst0 with id := ⟨⟨3, 0⟩, 1, false⟩, tile := none }] } }

theorem test_staging_premises :
    let s := postLab { post1 with staged := none }
    let b := memReads s.mem (shelfBase 514 + 256) 256
    cleanCheck s = true ∧ (tileOf s 0).next = some { post1 with staged := none } ∧ (findInst s ⟨⟨3, 0⟩, 1, false⟩).isSome = true ∧
      boundShelf s 5 false (ctxOf s 5).seedShelf = some 514 ∧ firstUnbound s 5 false (field b 0 4) 256 = none ∧
      field b 8 4 % 64 = 0 ∧ firstUnbound s 5 false (field b 8 4) 2048 = none := by
  decide +kernel

theorem test_switch_premises :
    (let s := postLab post1
     cleanCheck s = true ∧ (tileOf s 0).state = .switching ∧ (tileOf s 0).testing = false ∧ (tileOf s 0).next = some post1 ∧
       post1.staged.map (fun g => g.failure) = some none ∧ (findInst s ⟨⟨3, 0⟩, 1, false⟩).isSome = true ∧
       slotAddr s 5 false 1 0 = some (shelfBase 514 + 256)) ∧
    (let s := modTile { postLab post1 with gh := { (postLab post1).gh with
        insts := [inst0, { inst0 with id := ⟨⟨3, 0⟩, 1, false⟩, tile := none }] } } 0
        (fun x => { x with inst := some w0, leaving := some (.suspend 8) })
     (tileOf s 0).inst = some w0 ∧ (tileOf s 0).leaving = some (.suspend 8) ∧ mustStop s 5 w0 = false ∧
       slotAddr s 5 false 0 0 = some (shelfBase 514) ∧ slotAddr s 5 false 1 0 ≠ some (shelfBase 514)) := by
  decide +kernel

set_option Elab.async false in
theorem test_watchdog_premises :
    let s := lab 0x01 []
    (tileOf s 0).state = .running ∧ (tileOf s 0).inst = some w0 ∧ (tileOf s 0).leaving = none ∧ findInst s w0 = some inst0 ∧
      cleanCheck s = true ∧ (tileOf s 0).fresh = false ∧ inst0.tile = some 0 ∧ (tileOf s 0).next = none ∧
      inst0.golden = false ∧ (ctxOf s 5).state = .ready ∧ findItem s w0.item = some item0 ∧ itemWorks item0 5 = true ∧
      item0.stage = .running ∧ item0.verdict = none ∧ s.gh.faultCtx.valid = false ∧
    (let g := { inst0 with golden := true }
     findInst { s with gh := { s.gh with insts := [g] } } w0 = some g) := by
  decide +kernel

/-! ## Premises of the statements about memory and transfers -/

/-- A DMA descriptor of one row of 64 bytes between two lines of shelf index 1, as given but for its length. -/
def dmaDesc (len : Nat) : List Byte := fields 64 [(0, 6, 0x10100), (8, 6, 0x1FFC0), (16, 4, len), (20, 4, 1), (32, 4, 0xFFFFFFFF)]

/-- A chain whose next descriptor stands at 0x10000. -/
def dmaLab (d : List Byte) : State :=
  let s := withCtx (lab 1 []) (fun c => { c with limit := 0xFFFFFFFF, guarantee := 1000 })
  { s with
    mem := memWrites s.mem (shelfBase 257) d
    tl := { s.tl with chains := [{ chain0 with nextAddr := some 0x10000 }] } }

theorem test_dma_descriptor_premises :
    (let s := dmaLab (dmaDesc 64)
     let d := dmaDesc 64
     s.tl.chains.find? (fun y => y.tile == 0 && y.ch == 15) = some { chain0 with nextAddr := some 0x10000 } ∧ chain0.desc = none ∧
     chain0.moved = 0 ∧ cleanCheck s = true ∧ contextPaused s 0 5 (shelfBase 0) = false ∧
     (match shelfReads s 5 false 0x10000 64 with
      | .ok b => b == d
      | .error _ => false) = true ∧ descriptorOk s 5 d 2 = true ∧ ddSpace d 0 = 0 ∧ ddSpace d 8 = 0 ∧ ddRows d = 1 ∧
       0 < ddLength d ∧ ddAddr d 8 % 64 + ddLength d ≤ 64 ∧ ddSignal d = false ∧
       loadsCheck s (siteAt s 0 w0 1) (ddAddr d 0) 64 1 = true ∧ storesCheck s (siteAt s 0 w0 1) (ddAddr d 8) 64 1 = true) ∧
    (let s := dmaLab (dmaDesc 0x4000001)
     descriptorOk s 5 (dmaDesc 0x4000001) 2 = false ∧ (ctxOf s 5).state = .ready) ∧
    (let s := withChain (lab 1 [])
     s.tl.chains.find? (fun y => y.tile == 0 && y.ch == 15) = some chain0 ∧ engineGone s 0 = false ∧ chain0.nextAddr = none ∧
       ({ chain0 with golden := true } : Chain).golden = true ∧
       (findInst { s with gh := { s.gh with insts := [{ inst0 with wait := .dma }] } } w0) = some { inst0 with wait := .dma } ∧
       (∀ y ∈ s.tl.chains, y.inst = chain0.inst → y.tile = 0 ∧ y.ch = 15)) := by
  decide +kernel

/-- Tables of context 5 in an owned block of its memory: the first 2 MiB go to host memory. -/
def tableBytes (write : Nat) : Memory :=
  memWrites (memWrites (memWrites [] 0x200000000 (leBytes 8 0x200001003)) 0x200001000 (leBytes 8 0x200002003))
    0x200002000 (leBytes 8 (0xC00000000001 + write))

/-- The same state with the host link up and the first modules of Kiln die 0 and of the Maze die to the hub ACTIVE. -/
def linked (s : State) : State :=
  let up : Module := { moduleReset with state := 5, width := 3 }
  let u := [(0, 0), (4, 0), (4, 8), (5, 0)].foldl (fun x e => setModule x e.1 e.2 up) s
  { u with hi := { u.hi with linkUp := true } }

/-- Context 5 with those tables, a COPY of it on tile 0 and a chain of it on tile 0. -/
def tableLab (write n : Nat) : State :=
  linked { house with
    mem := tableBytes write
    ms := { house.ms with blocks := [(0x200000000, .owned 5 0)] }
    tl := { house.tl with chains := [chain0] }
    gh := { house.gh with
      contexts := [(5, { ctx5 with ttRoot := 0x200000000, limit := 0xFFFFFFFF, guarantee := 1000 })]
      items := [{ itemWith (fields 64 [(0, 1, 2), (2, 2, 5), (16, 6, 0x1000), (22, 6, 0x2000), (28, 4, n)]) with
        stage := .running, engine := some 0 }] } }

/-- That COPY. -/
def tableCopy (n : Nat) : Item :=
  { itemWith (fields 64 [(0, 1, 2), (2, 2, 5), (16, 6, 0x1000), (22, 6, 0x2000), (28, 4, n)]) with stage := .running, engine := some 0 }

theorem test_copy_transfer_premises :
    let s := tableLab 8 65
    findItem s ⟨63, 0⟩ = some (tableCopy 65) ∧ (tableCopy 65).verdict = none ∧ engineGone s 0 = false ∧ cleanCheck s = true ∧
      (match (copyLines 0 5 ⟨63, 0⟩ (tableCopy 65).desc (65 / 64 + 2) s).2 with
       | .whole => true
       | _ => false) = true := by
  decide +kernel

/-- The same for a COPY within Kiln die 0's memory, through a page that the engine tile's TLB holds. -/
theorem test_copy_lpddr_premises :
    let s := modTile (tableLab 8 1) 0 (fun x => { x with tlb := [(5, 0, 21, 0x200200000, true)] })
    let x := tableCopy 1
    findItem s ⟨63, 0⟩ = some x ∧ x.copied = 0 ∧ copySrc x.desc % 64 + copyLen x.desc ≤ 64 ∧ copyDst x.desc % 4096 + copyLen x.desc ≤ 4096 ∧
      tlbFind (tileOf s 0) 5 (copySrc x.desc) false = some 0x200201000 ∧ tlbFind (tileOf s 0) 5 (copyDst x.desc) true = some 0x200202000 ∧
      absentFor s (tileDie 0).val 0x200201000 = false ∧ absentFor s (tileDie 0).val 0x200202000 = false ∧
      placeOf 0x200201000 = .lpddr 0 0x200201000 ∧ placeOf 0x200202000 = .lpddr 0 0x200202000 ∧
      enginePaused s 0 5 (copySrc x.desc) false = false ∧ enginePaused s 0 5 (copyDst x.desc) true = false ∧
      (∀ e ∈ List.range 4, 0x200202000 + 1 ≤ journalAddr s (kilnId e) ⟨63, 0⟩) := by
  decide +kernel

theorem test_translation_premises :
    (transferOn (tableLab 8 65) 0 5).isSome = true ∧
    ((translate (tableLab 8 65) 0 5 0x1FFFFF true).2.toOption = some 0xC000001FFFFF) ∧
    ((match (translate (tableLab 0 65) 0 5 0x1FFFFF true).2 with
      | .error (.fault v r) => (v, r) == (0x1FFFFF, 4)
      | _ => false) = true) ∧
    transferOn (tableLab 0 65) 0 5 = some (.inl chain0) ∧ (ctxOf (tableLab 0 65) 5).state = .ready ∧
    (tableLab 8 65).ms.invalGo = false ∧
    ({ tableLab 8 65 with ms := { (tableLab 8 65).ms with invalGo := true } } : State).ms.invalGo = true := by
  decide +kernel

/-- TU_ALLOC_CTRL: GO, COUNT, class QM and a context. -/
def allocWord (count ctx : Nat) : Word32 := BitVec.ofNat 32 (2 ^ 31 + count * 2 ^ 20 + ctx)

/-- The request as `execBlockAlloc` puts it into service. -/
def allocAsked (s : State) (v : Word32) : Alloc :=
  { allocOf s 0 with ctrl := writeCtrl (allocOf s 0).ctrl v ||| 0x80000000, placed := [], waiting := true, grants := [] }

/-- The placement of the request. -/
def allocPlaces (s : State) (v : Word32) : List (Nat × Nat) :=
  placement (setAlloc s 0 (allocAsked s v)) (allocAsked s v) (allocAsked s v).ctrl []

theorem test_alloc_premises :
    let s := tableLab 8 1
    hostReaches s 0 = true ∧ (allocWord 513 5).getLsbD 31 = true ∧ (allocWord 0 5).getLsbD 31 = true ∧ (allocWord 512 5).getLsbD 31 = true ∧
      (∀ e ∈ s.ms.alloc, e.2.ctrl.getLsbD 31 = false) ∧ (allocOf s 0).ctrl.getLsbD 31 = false ∧
      512 < acCount (allocAsked s (allocWord 513 5)).ctrl ∧
      (ctxOf s (acCtx (allocAsked s (allocWord 1 5)).ctrl)).cls = acClass (allocAsked s (allocWord 1 5)).ctrl ∧
      acCount (allocAsked s (allocWord 0 5)).ctrl = 0 ∧ acCount (allocAsked s (allocWord 512 5)).ctrl = 512 ∧
      (ctxOf s 5).state ≠ .closing := by
  decide +kernel

/-- The tables' state with every Kiln die lost and a host pool of so many blocks: those blocks alone are free. -/
def poolLab (n : Nat) : State :=
  let s := tableLab 8 1
  let u := { s with ms := { s.ms with dies := [(0, .lost), (1, .lost), (2, .lost), (3, .lost)] } }
  setAlloc u 0 { allocOf u 0 with pool := BitVec.ofNat 64 n }

theorem test_alloc_placed_premises :
    0 < acCount (allocAsked (poolLab 2) (allocWord 2 5)).ctrl ∧
    acCount (allocAsked (poolLab 2) (allocWord 2 5)).ctrl ≤ (allocPlaces (poolLab 2) (allocWord 2 5)).length ∧
    (∀ e ∈ (poolLab 2).ms.alloc, e.2.ctrl.getLsbD 31 = false) := by
  decide +kernel

theorem test_alloc_short_premises :
    0 < acCount (allocAsked (poolLab 1) (allocWord 2 5)).ctrl ∧
      (allocPlaces (poolLab 1) (allocWord 2 5)).length < acCount (allocAsked (poolLab 1) (allocWord 2 5)).ctrl := by
  decide +kernel

theorem test_alloc_closing_premises :
    let s := { tableLab 8 1 with gh := { (tableLab 8 1).gh with contexts := [(5, { ctx5 with state := .closing })] } }
    (ctxOf s (acCtx (allocAsked s (allocWord 1 5)).ctrl)).state = .closing := by
  decide +kernel

set_option Elab.async false in
theorem test_alloc_end_premises :
    let s := setAlloc (tableLab 8 1) 0 { allocOf (tableLab 8 1) 0 with ctrl := 0x80100005, placed := [(0x200000000, 3)], waiting := false }
    (allocOf s 0).ctrl.getLsbD 31 = true ∧ (allocOf s 0).waiting = false ∧ (∀ e ∈ s.ms.alloc, e.2.waiting = false) ∧
      fnCanIssue s 0 = true ∧ (allocOf s 0).placed = [(0x200000000, 3)] ∧ (allocOf s 0).zeroed = 0 ∧
      s.part.masters[(0 : Fin 6)].limit = 0xFFFFFFFF ∧
      levelPauses s.part.masters[(0 : Fin 6)].cls (queueLevel s 0x200000000) = false ∧
      masterPaused { s with part := { s.part with masters := s.part.masters.set 0 ⟨0, 0, .qm⟩ } } 0 0x200000000 = true := by
  decide +kernel

theorem test_free_premises :
    ownedBy (tableLab 8 1) (bits (0x0005000200000000 : Word64).toNat 47 21 * blockBytesN) (ctxId (bits (0x0005000200000000 : Word64).toNat 57 48)) = true ∧
    ownedBy (tableLab 8 1) (bits (0x0006000200000000 : Word64).toNat 47 21 * blockBytesN) (ctxId (bits (0x0006000200000000 : Word64).toNat 57 48)) = false ∧
    (0x200000000, BlockUse.scrubbing) ∈ ({ house.ms with blocks := [(0x200000000, .scrubbing)] } : MemSys).blocks := by
  decide +kernel

theorem test_patrol_premises :
    lpddrPresent house 0x1FFFFFFFFFFF = false ∧ lpddrPresent house 0 = true ∧ (channelOf house 0 (channelAt house 0)).state = 0 ∧
      house.ms.badGranules.contains 0 = false ∧ house.ms.softGranules.filter (inGranule 0 32) = [] ∧
    ({ house with ms := { house.ms with softGranules := [0] } } : State).ms.softGranules.filter (inGranule 0 32) = [0] ∧
    ({ house with ms := { house.ms with badGranules := [0] } } : State).ms.badGranules.contains 0 = true := by
  decide +kernel

/-- A batch RUN of context 5 of one instance whose table stands at host address 0. -/
def batchItem (mode count : Nat) : Item :=
  { itemWith (fields 64 [(0, 1, 1), (2, 2, 5), (26, 2, 1)]) with
    batch := true, taken := true, block := fields 64 [(0, 2, count), (2, 1, mode), (3, 1, 1), (8, 6, 0), (16, 4, 0x10000)] }

/-- The Gatehouse with that item. -/
def batchLab (mode count : Nat) : State :=
  let s := tableLab 8 1
  { s with gh := { s.gh with items := [batchItem mode count] } }

theorem test_batch_premises :
    pfReaches (batchLab 0 0) 0 = true ∧ (ctxOf (batchLab 0 0) (ctxId (batchLab 0 0).gh.batchSelect.toNat)).state ≠ .ready ∧
    (let s := { batchLab 0 0 with gh := { (batchLab 0 0).gh with batchSelect := 5 } }
     (ctxOf s (ctxId s.gh.batchSelect.toNat)).state = .ready) ∧
    (∀ n ∈ [0, 1], let s := batchLab 0 n
     findItem s ⟨63, 0⟩ = some (batchItem 0 n) ∧ (batchItem 0 n).tabled = false ∧ (batchItem 0 n).error = none ∧
       (batchItem 0 n).verdict = none ∧ cleanCheck s = true ∧
       gwHeld s 5 (bhTable (batchItem 0 n).block) (32 * bhCount (batchItem 0 n).block) true = false ∧ ghRuns s = true ∧ (ctxOf s 5).state = .ready ∧ field (batchItem 0 n).desc 26 2 ≠ 0 ∧
       mayStart s (batchItem 0 n) = true ∧ bhCount (batchItem 0 n).block = n) := by
  decide +kernel

/-- How the reads and writes of the table step end: whether each succeeds, and how many entries are live. -/
def batchSteps (s : State) (b : List Byte) : Option Nat :=
  match gwReads 5 8 s (bhTable b) (32 * bhCount b) with
  | (s1, .ok tb) =>
    let l := (List.range (bhCount b)).map (fun e => (seqEntry tb e, seqState (bhGroups b) (seqEntry tb e)))
    match writeStates 5 (bhTable b) (l.map (fun p => p.2)) s1 0 with
    | (s2, .ok ()) =>
      match (writeLive s2 5 (bhLive b) (liveRecord (bhCount b) (bhRecent b) l)).2 with
      | .ok _ => some ((l.filter (fun p => p.2 == 0)).length)
      | .error _ => none
    | _ => none
  | _ => none

theorem test_table_premises : (batchSteps (batchLab 0 1) (batchItem 0 1).block).isSome = true := by
  decide +kernel

/-! ## Premises of the statements about partitions, Sundial, fusion and the Maze -/

/-- GH_PART_SPLIT as at reset. -/
def splitNow : Word32 := 0x10102020

theorem test_split_premises :
    pfReaches State.reset 0 = true ∧
    (classes.any (fun c => splitMoves State.reset splitNow c && !partitionEmpty State.reset c) = false) ∧ splitBad splitNow = false ∧
    (classes.any (fun c => splitMoves State.reset 0x10108021 c && !partitionEmpty State.reset c) = false) ∧ splitBad 0x10108021 = true ∧
    pfReaches (lab 1 []) 0 = true ∧
    (classes.any (fun c => splitMoves (lab 1 []) 0x10102021 c && !partitionEmpty (lab 1 []) c) = true) := by
  decide +kernel

/-- A PART_MAP value: first object, last object, function. -/
def mapOf (a b f : Nat) : PartMap := ⟨BitVec.ofNat 16 a, BitVec.ofNat 16 b, BitVec.ofNat 4 f⟩

theorem test_map_premises :
    (mapOf 0x2000 0xFFFE 8 ≠ partMap State.reset.part .qm ∧ partitionEmpty (lab 1 []) .qm = false) ∧
    (partitionEmpty State.reset .qm = true ∧
      (classes.any (fun c => c != .qm && rangesOverlap (mapOf 0x1FFF 0xFFFF 0) (partMap State.reset.part c))) = true) ∧
    (classes.any (fun c => c != .qm && rangesOverlap (mapOf 0x2000 0xFFFF 0) (partMap State.reset.part c))) = false := by
  decide +kernel

/-- Function 0 has selected master 5. -/
def masterLab : State :=
  let s := State.reset
  { s with part := { s.part with bwSelect := 5 } }

theorem test_master_premises :
    pfReaches masterLab 0 = true ∧ masterLab.part.bwSelect.toNat = 5 ∧ (0xFFFFFFFF : Word32).toNat ≤ masterLab.part.masters[(5 : Fin 6)].limit.toNat ∧
      contextSum masterLab .qm + masterSum masterLab .qm 5 + 0 ≤ classPool masterLab .qm ∧
      classPool masterLab .qm < contextSum masterLab .qm + masterSum masterLab .qm 5 + 0xFFFFFFFF ∧
      classOf 2 = some (if classCode .d = 2 then .d else .qm) ∧
    (State.reset.part.bwWindow.toNat * 1000 ≠ 0 ∧ max State.reset.sun.ns 0 % (State.reset.part.bwWindow.toNat * 1000) = 0) := by
  decide +kernel

set_option Elab.async false in
theorem test_level_premises :
    let h := State.reset.part.bwHigh.toNat
    let st := State.reset.part.bwStep.toNat
    h ≤ h ∧ (h < h + 1 ∧ h + 1 ≤ h + st) ∧ (h + st < h + 2 * st) ∧ h + 2 * st < 64 := by
  decide +kernel

theorem test_regulator_premises :
    let s := { State.reset with part := { State.reset.part with masters := State.reset.part.masters.set 5 ⟨1, 0xFFFFFFFF, .qm⟩ } }
    (countOf s (.other 5)).2.2.1 = .qm ∧ tabGet 0 s.part.counts (countOf s (.other 5)).1 < (countOf s (.other 5)).2.1 := by
  decide +kernel

theorem test_window_premises :
    let s := lab 1 []
    openAtPhase s.part.schedule[(4 : Fin 8)] (max s.sun.ns 999999 % 1000000) = true ∧
    openAtPhase s.part.schedule[(0 : Fin 8)] (max s.sun.ns 300000 % 1000000) = false ∧ s.part.openMask.getLsbD 0 = true ∧
    s.part.schedule[(0 : Fin 8)].kind ≠ 5 ∧ (tileOf s 0).inst = some w0 ∧ (tileOf s 0).next = none ∧ isGolden s w0 = false := by
  decide +kernel

/-- A tile whose context has window 4 open, where window 0 closes. -/
def stillOpen : State := withCtx (lab 1 []) (fun c => { c with cls := .d, windowMask := 0x11 })

theorem test_window_still_open_premises :
    windowOpenFor (after (.windowClose 0 300000) (lab 1 [])) (ctxOf (lab 1 []) 5) = false ∧
    windowOpenFor (after (.windowClose 0 300000) stillOpen) (ctxOf stillOpen 5) = true := by
  decide +kernel

theorem test_boundary_premises :
    let s := { State.reset with fe := { State.reset.fe with config := fusionNeeds.map (fun k => (k, [])) } }
    1000000 % 1000000 = 0 ∧ s.sun.ns ≤ 1000000 ∧ s.pw.sleepState.toNat < 3 ∧ s.rs.held = false ∧ s.bv.lastBoundary ≠ some 1000000 ∧
      fusionNeeds.all (fun k => tabHas s.fe.config k) = true := by
  decide +kernel

/-- The same state with the Maze die lost. -/
def noMaze (s : State) : State := { s with ms := { s.ms with dies := [(5, .lost)] } }

/-- Sundial with a configuration and state. -/
def sunLab (cfg : Nat) (st : SunState) : State :=
  let s := State.reset
  { s with sun := { s.sun with cfg := BitVec.ofNat 9 cfg, state := st, pendingSet := some 7 } }

/-- The same state with a plan queue. -/
def planned (s : State) : State := setQueue s 63 { queueReset with planQueue := true }

/-- The same state as a non-leader of a pair that is up. -/
def follower (s : State) : State := { s with ln := { s.ln with pairUp := true } }

theorem test_sundial_premises :
    hostReaches State.reset 0 = true ∧ bits (3 : Word32).toNat 1 0 ≠ sunSource State.reset ∧ pairDisciplined State.reset = false ∧
    State.reset.sun.state ≠ .holdover ∧ State.reset.rs.reduced = false ∧ pairDisciplined (follower State.reset) = true ∧
    planQueueExists State.reset = false ∧ sunSource State.reset = 0 ∧ 2 ≤ sunSource (sunLab 2 .acquiring) ∧
    pairDisciplined (sunLab 2 .acquiring) = false ∧ planQueueExists (sunLab 2 .acquiring) = false ∧
    (true ≠ (sunLab 2 .acquiring).sun.cfg.getLsbD 8) ∧ (sunLab 2 .acquiring).sun.pendingSet = some 7 ∧
    (planQueueExists (planned (sunLab 2 .acquiring)) = true ∧ pairDisciplined (planned (sunLab 2 .acquiring)) = false) ∧
    (sunSource (sunLab 0x0D .acquiring) = 1 ∧ sunPort (sunLab 0x0D .acquiring) = 3 ∧ sunPort (sunLab 0x0D .acquiring) ≠ 0) ∧
    planQueueExists (planned (sunLab 0x0D .unset)) = true ∧
    sunSource (sunLab 1 .locked) = 1 ∧ sunSource (sunLab 2 .locked) = 2 ∧ (sunLab 1 .locked).sun.state ≠ .unset ∧
    (sunLab 1 .locked).sun.state ≠ .holdover := by
  decide +kernel

theorem test_replica_premises :
    replicaOf State.reset 5 = .stopped ∧ timebaseRuns State.reset 5 = true ∧
    replicaOf ({ State.reset with sun := { State.reset.sun with replicas := [(5, .sync)] } } : State) 5 ≠ .stopped := by
  decide +kernel

/-- A sensor table whose sensor 31 has a type and port 0, its other fields as given. -/
def sensorLab (ty : Nat) (l : List (Nat × Nat × Nat)) : State :=
  let s := State.reset
  { s with
    sun := { s.sun with ppsStamp := some 5 }
    fe := { s.fe with
      config := [(1, fields 1024 ((992, 1, ty) :: l.map (fun e => (992 + e.1, e.2))))]
      sensors := [(31, { sensorReset with pendTrig := [100] })] } }

theorem test_camera_premises :
    let s := sensorLab 1 [(4, 4, 1), (12, 4, 100)]
    sensorsWhere s (fun j => isCamera (stType s j) && stField s j 1 1 == 0 && 200000 % (stField s j 12 4 * 1000) == 0) = [31] ∧
    (sensorsWhere s (fun j => isCamera (stType s j) && stField s j 1 1 == 0 && stField s j 2 1 == 0)).head? = some 31 ∧
    (sensorOf s 31).pendTrig.find? (fun q => decide (q ≤ 1100) && decide (1100 - q ≤ stField s 31 4 4 * 1000)) = some 100 := by
  decide +kernel

set_option Elab.async false in
theorem test_frozen_premises :
    let u := sensorLab 1 [(4, 4, 1), (12, 4, 100)]
    let s := setSensor u 31 { sensorOf u 31 with lastStamp := some 9 }
    (sensorsWhere s (fun j => isCamera (stType s j) && stField s j 1 1 == 0 && stField s j 2 1 == 0)).head? = some 31 ∧
    (∀ q ∈ (sensorOf s 31).pendTrig, 1101 < q ∨ stField s 31 4 4 * 1000 < 1101 - q) ∧ (sensorOf s 31).lastStamp = some 9 := by
  decide +kernel

theorem test_sample_premises :
    State.reset.rs.reduced = false ∧
    (let s := sensorLab 3 [(22, 2, 65535), (24, 2, 6)]
     (sensorsWhere s (fun j => stType s j == 3 && stField s j 1 1 == 0 && stField s j 22 2 == 65535)).head? = some 31 ∧
       stField s 31 24 2 + 10 ≤ 16) ∧
    (∀ ty ∈ [4, 6], (sensorsWhere (sensorLab ty []) (fun j =>
      (stType (sensorLab ty []) j == 4 || stType (sensorLab ty []) j == 6) && stField (sensorLab ty []) j 1 1 == 0)).head? = some 31) ∧
    (sensorsWhere (sensorLab 5 []) (fun j => stType (sensorLab 5 []) j == 5)).head? = some 31 ∧
    (sensorLab 5 []).fe.held = [] ∧ allZero (ringEntry (sensorLab 5 []) 31) = true ∧
    (sensorLab 5 []).part.masters[(2 : Fin 6)].limit = 0xFFFFFFFF ∧ (sensorLab 5 []).part.levels = [] ∧
    (sensorLab 5 []).sun.ppsStamp = some 5 := by
  decide +kernel

/-- The Fusion Engine running, with a snapshot taken, world bank 0 BOUND, and the links up. -/
def fusionLab : State :=
  let s := linked State.reset
  { s with
    fe := { s.fe with state := 2, snapAt := some 0 }
    mz := { s.mz with bank0 := { s.mz.bank0 with state := 3 } } }

theorem test_fusion_premises :
    let s := fusionLab
    s.fe.state = 2 ∧ s.fe.snapAt = some 0 ∧ s.fe.outgoing = none ∧ s.part.masters[(2 : Fin 6)].limit = 0xFFFFFFFF ∧ s.part.levels = [] ∧
      cleanCheck s = true ∧ outField s 16 6 = 0 ∧ masterReaches s 2 0 256 = true ∧ masterReaches s 2 256 256 = true ∧
      (worldBankOf s 0).state = 3 ∧ (worldBankOf s 1).state ≠ 3 ∧ dieState s 5 = .service ∧ dieState (noMaze s) 5 ≠ .service := by
  decide +kernel

theorem test_fusion_waits_premises :
    let o : Outgoing := ⟨0, [(0, zeros 256)], zeros 512⟩
    let u := fusionLab
    let s := { u with
      fe := { u.fe with outgoing := some o }
      part := { u.part with masters := u.part.masters.set 2 { u.part.masters[(2 : Fin 6)] with limit := 0 } } }
    s.fe.outgoing = some o ∧ masterPaused s 2 0 = true := by
  decide +kernel

/-- A search program of one step. -/
def program1 (step : List (Nat × Nat × Nat)) : List Byte :=
  fields 256 ([(24, 4, 128), (128, 4, 160), (132, 4, 16)] ++ step.map (fun e => (160 + e.1, e.2)))

/-- The state record in use. -/
def used0 : MachineState := { seq := 1, region := 0, stamp := 0, curvature := 0, articulation := 0, masks := 0 }

/-- The Maze with its sections in force, at the first step of a program, a complete world and one node's road map. -/
def mazeLab (step : List (Nat × Nat × Nat)) : State :=
  let s := linked State.reset
  { s with
    mem := memWrites [] storeBase (leBytes 2 1 ++ leBytes 2 1)
    mz := { s.mz with
      config := [(1, zeros 256), (2, zeros 256), (4, program1 step)]
      newest := 1
      bank0 := { s.mz.bank0 with state := 2, epoch := 1 }
      bound := some 0
      used := some used0
      opened := some 300000
      running := true } }

theorem test_maze_open_premises :
    let u := mazeLab []
    let s := { u with mz := { u.mz with bound := none, opened := none, running := false } }
    (∃ w, windowOfKind s 3 = some w ∧ opensAt s w ≤ max s.sun.ns 300000 ∧ max s.sun.ns 300000 < closesAt s w) ∧
      mazeIdle s = false ∧ s.mz.opened = none ∧ s.mz.bound = none ∧ newestBank s = some 0 ∧ cleanCheck s = true ∧
      masterReaches s 3 (mzParam s 8 6) 64 = true ∧ masterPaused s 3 (mzParam s 8 6) = false ∧
      field (paReads s (mzParam s 8 6) 64) 0 4 = field (paReads s (mzParam s 8 6) 64) 60 4 := by
  refine ⟨⟨⟨300, 700, 3, .d, 0⟩, ?_⟩, ?_⟩ <;> decide +kernel

theorem test_maze_pass_premises :
    let s := mazeLab [(0, 1, 1), (4, 4, 4096)]
    let st := fields 16 [(0, 1, 1), (4, 4, 4096)]
    s.mz.running = true ∧ programStep s = some st ∧ field st 0 1 = 1 ∧ s.mz.bound = some 0 ∧ s.mz.used = some used0 ∧
      programBad s = false ∧ edgesBad s 0 0 (min 4096 (regionEdges s 0)) 0 96 = false ∧ regionEdges s 0 = 1 ∧
      edgesBad (upsetWords s ⟨[], [storeBase + 0x10_0000]⟩) 0 0 1 0 96 = true := by
  decide +kernel

theorem test_maze_search_premises :
    (∀ f ∈ [0, 1], let s := mazeLab [(0, 1, 2), (2, 2, 4096), (8, 4, f)]
      let st := fields 16 [(0, 1, 2), (2, 2, 4096), (8, 4, f)]
      s.mz.running = true ∧ programStep s = some st ∧ field st 0 1 = 2 ∧ s.mz.used = some used0 ∧ programBad s = false ∧
        (let x := searchLoop s 0 0 4096 ⟨[(0, ⟨0, 0, 0⟩)], [0], [], 0, none⟩
         searchBad s 0 0 (x.found.isNone && bit (field st 8 4) 0) x = false)) ∧
    (let s := mazeLab [(0, 1, 3), (1, 1, 255)]
     s.mz.running = true ∧ programStep s = some (fields 16 [(0, 1, 3), (1, 1, 255)]) ∧ programBad s = false) ∧
    (let s := mazeLab [(0, 1, 4)]
     s.mz.opened = some 300000 ∧ programStep s = some (fields 16 [(0, 1, 4)])) := by
  decide +kernel

/-- The Maze on plan queue 63, a watchdog on its window and on the publication window. -/
def planLab : State :=
  let s := { mazeLab [] with gh := house.gh }
  { s with
    mz := { s.mz with planQueue := some 63 }
    bv := { s.bv with wd := Vector.replicate 8 { openUs := 100, closeUs := 900, on := true, sync := 0 } } }

theorem test_maze_close_premises :
    let s := planLab
    (∃ w, windowOfKind s 3 = some w ∧ closesAt s w ≤ max s.sun.ns 700000) ∧
    (∃ w, windowOfKind s 4 = some w ∧ opensAt s w ≤ max s.sun.ns 700000) ∧
    (s.mz.opened = some 300000 ∧ (∃ v : WindowId, (s.part.schedule[v]).kind = 3 ∧ (s.bv.wd[v]).on = true) ∧
      (∃ v : WindowId, (s.part.schedule[v]).kind = 4 ∧ (s.bv.wd[v]).on = true) ∧
      resultsDue s = true ∧ s.mz.publishing = false ∧ s.mz.committed ≠ some (cycleNo s) ∧ s.mz.newer = false ∧
      resultsDue (mazeLab []) = false) := by
  refine ⟨⟨⟨300, 700, 3, .d, 0⟩, ?_⟩, ⟨⟨700, 900, 4, .d, 0⟩, ?_⟩, ?_⟩ <;> decide +kernel

set_option Elab.async false in
theorem test_maze_recheck_premises :
    let u := planLab
    let s := { u with mz := { u.mz with newer := true, newest := 2, bank1 := { u.mz.bank1 with state := 2, epoch := 2 } } }
    s.mz.bound = some 0 ∧ s.mz.newer = true ∧ noStops s = false ∧ newestBank s = some 1 ∧
    (∃ w, windowOfKind s 4 = some w ∧ ¬ closesAt s w - max s.sun.ns 700000 < (mzParam s 20 2 + 8) * 1000 ∧
      closesAt s w - max s.sun.ns 899999 < (mzParam s 20 2 + 8) * 1000) := by
  refine ⟨?_, ?_, ?_, ?_, ⟨⟨700, 900, 4, .d, 0⟩, ?_⟩⟩ <;> decide +kernel

/-- The Maze in its publication window. -/
def publishLab : State := { planLab with mz := { planLab.mz with publishing := true } }

theorem test_maze_commit_premises :
    resultsDue publishLab = true ∧ publishLab.mz.publishing = true ∧ publishLab.mz.rechecking = false ∧
      publishLab.mz.committed ≠ some (cycleNo publishLab) ∧ cleanCheck publishLab = true ∧
      publishLab.mz.slotSent = 0 ∧ publishLab.mz.slotHeld = none ∧ publishLab.part.masters[(3 : Fin 6)].limit = 0xFFFFFFFF ∧
      (∀ k, k < 4 → levelPauses publishLab.part.masters[(3 : Fin 6)].cls
        (queueLevel publishLab (publishLab.mz.resultBase.toNat + cycleNo publishLab % 16 * 1024 + 256 * k)) = false) ∧
      (queueOf publishLab 63).enable = true ∧ kilnsIn publishLab ≠ [] ∧ ghRuns publishLab = true ∧
      queueLive publishLab 63 < ringSize (queueOf publishLab 63) ∧
      findItem publishLab ⟨63, (queueOf publishLab 63).nextSeq⟩ = none ∧
    (let s := { publishLab with gh := { publishLab.gh with items := (List.range 16).map (fun k =>
        { itemWith (zeros 64) with id := ⟨63, BitVec.ofNat 32 k⟩ }) } }
     ringSize (queueOf s 63) ≤ queueLive s 63) ∧
    (queueOf (setQueue publishLab 63 queueReset) 63).enable = false ∧
    (let s := { publishLab with part := { publishLab.part with masters := publishLab.part.masters.set 3 ⟨0, 0, .d⟩ } }
     let at_ := s.mz.resultBase.toNat + cycleNo s % 16 * 1024
     masterReaches s 3 at_ 1024 = true ∧ masterPaused s 3 (at_ + 256) = true) ∧
    masterReaches { publishLab with ms := { publishLab.ms with dies := [(0, .lost)] } } 3 (publishLab.mz.resultBase.toNat + cycleNo publishLab % 16 * 1024) 1024 = false ∧
    ({ publishLab with mz := { publishLab.mz with rechecking := true } } : State).mz.bound = some 0 := by
  decide +kernel

/-- Section 0x32's CAN addressing with both islands enabled. -/
def can0 : CanConfig :=
  { nominal := 0, data := 0, extended := false, enable := 3, statusA := 1, statusB := 2, result := 3, stop := 0x7FF }

/-- A device whose islands send and receive, whose clock has met a boundary, with every window watched. -/
def islandLab : State :=
  let s := State.reset
  { s with
    db := { s.db with ghState := 0 }
    bv := { s.bv with
      can := some can0
      lastBoundary := some 0
      a := { s.bv.a with causes := s.bv.a.causes ||| 1, inReset := false }
      b := { s.bv.b with inReset := false }
      wd := Vector.replicate 8 { openUs := 100, closeUs := 900, on := true, sync := 0 } } }

theorem test_island_premises :
    (islandOf islandLab .a).inReset = false ∧ (islandOf islandLab .b).inReset = false ∧
    judgesHeartbeat islandLab = true ∧ islandLab.bv.resuming = 0 ∧
    judgesHeartbeat { islandLab with pw := { islandLab.pw with sleepState := 3 } } = false ∧
    islandLab.pw.sleepState = 0 ∧ islandLab.bv.lastBoundary.isSome = true ∧ (islandOf islandLab .a).trimmed = (islandOf islandLab .b).trimmed ∧
      spacingOdd (islandOf islandLab .a).trimmed 1000000 = false ∧ spacingOdd (islandOf islandLab .a).trimmed 2000000 = true ∧
      canOn islandLab .a = some can0 ∧ canSends islandLab .a = true ∧
      canOn islandLab .b = some can0 ∧ canSends islandLab .b = true ∧ field ([0xA5, 0x5A] : List Byte) 0 2 = 0x5AA5 ∧
      (0x7FF : BitVec 29).toNat = can0.stop.toNat ∧ heldFrames (after .gatehouseHeartbeatLoss islandLab) = true ∧
    (∀ i ∈ [Island.a, .b], (islandOf (after (.islandReset ⟨i, true⟩) islandLab) i).inReset = true) := by
  decide +kernel

theorem test_release_premises :
    hostReaches islandLab 0 = true ∧ bits (0x3A5C3 : Word32).toNat 15 0 = 0xA5C3 ∧ (0x3A5C3 : Word32).getLsbD 18 = false ∧
      (0x7A5C3 : Word32).getLsbD 18 = true ∧ bits (0x3A5C2 : Word32).toNat 15 0 ≠ 0xA5C3 := by
  decide +kernel

/-- The same device with a completion event of window 4, stamped. -/
def stageLab (stamp : Nat) : State := { islandLab with bv := { islandLab.bv with stages := [(4, stamp, 4)] } }

theorem test_watchdog_window_premises :
    (∀ n ∈ [99999, 100000, 900000], let s := stageLab n
     s.bv.lastBoundary = some 0 ∧ watched s 4 = true ∧ s.bv.judged.getLsbD 4 = false ∧ (islandOf s (watchIsland s 4)).inReset = false ∧
       s.bv.stages.find? (fun x => x.1 == 4) = some (4, n, 4) ∧ judgedStamp (atTime n s) (4, n, 4) = n ∧
       n ≤ s.bv.wd[(4 : Fin 8)].closeUs * 1000) ∧
    99999 < islandLab.bv.wd[(4 : Fin 8)].openUs * 1000 ∧ islandLab.bv.wd[(4 : Fin 8)].openUs * 1000 ≤ 100000 ∧
    (islandLab.bv.owed.getLsbD 4 = false ∧ islandLab.bv.stages.find? (fun x => x.1 == 4) = none ∧
      islandLab.bv.wd[(4 : Fin 8)].closeUs * 1000 + 200 ≤ max islandLab.sun.ns 900200) ∧
    ({ islandLab with bv := { islandLab.bv with judged := 0x10 } } : State).bv.judged.getLsbD 4 = true := by
  decide +kernel

/-! ## Premises of the statements about checks, links, resets and power -/

/-- A PAIRED item's primary with a signature to send, and its second copy's point. -/
def pairLab (sig : Word64) : State :=
  let s := pairedLab 1
  { s with
    gh := { s.gh with insts := [{ inst0 with unsent := [(1, 7)] }] }
    bv := { s.bv with points := [⟨{ w0 with second := true }, 1, sig, 0⟩] } }

theorem test_pair_premises :
    let i := { inst0 with unsent := [(1, 7)] }
    (∀ g ∈ [7, 8], let s := pairLab (BitVec.ofNat 64 g)
      findInst s w0 = some i ∧ i.golden = false ∧ ((findItem s w0.item).map (fun x => x.paired)).getD false = true ∧
        nextSignature s i = some (1, 7) ∧
        s.bv.points.find? (fun e => e.inst == { w0 with second := !w0.second } && e.point == 1) =
          some ⟨{ w0 with second := true }, 1, BitVec.ofNat 64 g, 0⟩ ∧
        max s.sun.ns 50000 ≤ 0 + 50000 ∧ 0 + 50000 < max s.sun.ns 50001) ∧
    (pairedLab 1).bv.points.find? (fun e => e.inst == { w0 with second := !w0.second } && e.point == 1) = none ∧
    ((pairLab 7).bv.points.find? (fun e => e.inst.item == ⟨3, 0⟩ && e.inst.index == 0 && decide (e.time + 50000 ≤ max (pairLab 7).sun.ns 50000))).isSome
      = true := by
  decide +kernel

theorem test_reserve_premises :
    (State.reset.part.schedule[(3 : Fin 8)]).kind = 5 ∧ ghRuns State.reset = true ∧
      leadRuns (atTime 900000 State.reset) State.reset.part.schedule[(3 : Fin 8)] 0 = true ∧
      (reserveTiles State.reset 0 (State.reset.part.schedule[(3 : Fin 8)]).reserve).length = 2 := by
  decide +kernel

/-- A due golden item of a class D context in the open golden window, with tile 63 reserved. -/
def goldenLab : State :=
  let s := withCtx (lab 1 []) (fun c => { c with cls := .d })
  { s with
    gh := { s.gh with items := [{ item0 with golden := .due, taken := true }], insts := [] }
    part := { s.part with openMask := 8 }
    sun := { s.sun with ns := 900001 }
    bv := { s.bv with golden := [⟨5, 0, 1, 1, 0, 0⟩], reserved := [(3, 63)] } }

theorem test_golden_premises :
    let s := goldenLab
    let x := { item0 with golden := .due, taken := true }
    findItem s ⟨3, 0⟩ = some x ∧ s.part.openMask.getLsbD 3 = true ∧ (s.part.schedule[(3 : Fin 8)]).cls = (ctxOf s 5).cls ∧
      (ctxOf s 5).state = .ready ∧ ghRuns s = true ∧ x.golden = .due ∧ (goldenEntry s 5).isSome = true ∧
      goldenTile s 3 (ctxOf s 5).home = some 63 ∧ x.accepted < openedAt s 3 ∧ freeSlot s 5 = some 0 ∧ cleanCheck s = true ∧
      ((goldenEntry s 5).map (fun e => (e.elem, boundShelf s 5 false e.shelf))) = some (1, some 257) ∧
      boundShelf s 5 false (ctxOf s 5).seedShelf ≠ some 257 ∧ boundShelf s 5 true (ctxOf s 5).seedShelf ≠ some 257 := by
  decide +kernel

/-- A start-up outcome: the tiles that failed, and whether the watchdog did. -/
def startup (l : List TileId) (wd : Bool) : StartupOutcome :=
  { tiles := l, pairLane := false, mazeBank := false, aggregators := [], watchdog := wd, lockstep := false, training := [] }

/-- A device whose islands have booted. -/
def bootedLab : State := { State.reset with lg := { State.reset.lg with booted := 6 } }

set_option Elab.async false in
theorem test_startup_premises :
    islandsRun bootedLab = true ∧ islandsRun { bootedLab with lg := { bootedLab.lg with lifecycle := 4 } } = false ∧
    mazeIdle bootedLab = true ∧ bootedLab.bv.inject.getLsbD 0 = false ∧ failedBits (startup [] false) 0 = 0 ∧
      failedBits (startup [255] false) ((startup [255] false).tiles.filter (tileIn State.reset)).length ≠ 0 := by
  decide +kernel

theorem test_segment_premises :
    (let s := State.reset
     tileIn s 255 = true ∧ tileFree s 255 = true ∧ (tileOf s 255).testing = false ∧
       segmentNs (kilnPower s (tileDie 255)).level.toNat + 20000 ≤ nextOpening s ∧ (readyAll s).isEmpty = true ∧
       (tileOf s 255).tested + 100000000 < max s.sun.ns 100000001) ∧
    (let s := setTile State.reset 255 { tileReset with state := .selfTest }
     (tileOf s 255).state = .selfTest ∧ openedSince (atTime 300000 s) (tileOf s 255).segAt = true ∧
       (let len := segmentNs (kilnPower s (tileDie 255)).level.toNat
        (tileOf s 255).segAt + len ≤ max s.sun.ns len ∧ openedSince (atTime len s) (tileOf s 255).segAt = false)) := by
  decide +kernel

theorem test_bank_segment_premises :
    (let s := State.reset
     dieState s 5 = .service ∧ (banksIn s).contains 1 = true ∧ tabHas s.mz.segments 1 = false ∧ bankServes (atTime 240000 s) = false ∧
       s.bv.tests = [] ∧ 60000 ≤ nextOfKind (atTime 240000 s) 3 ∧ 40000 ≤ nextOfKind (atTime 240000 s) 4) ∧
    (let s := { State.reset with mz := { State.reset.mz with segments := [(1, 5)] } }
     tabHas s.mz.segments 1 = true ∧ tabGet 0 s.mz.segments 1 + 40000 ≤ max s.sun.ns 40005) := by
  decide +kernel

theorem test_targeted_premises :
    let s := { State.reset with bv := { State.reset.bv with tests := [⟨unitId 3 2 7, 0, []⟩] } }
    s.bv.tests.any (fun r => r.unit == unitId 3 2 7 && r.shelf == 0) = true ∧
      recentPasses { atTime 9 s with bv := { s.bv with passes := s.bv.passes ++ [(unitId 3 2 7, 0, (atTime 9 s).sun.elapsed)] } } (unitId 3 2 7) 0 < 4 := by
  decide +kernel

/-- A first report. -/
def report0 : FaultReport :=
  { reporter := unitId 5 1 0, names := none, cause := 1, ctx := none, status := 0, detail := 0, injected := false }

theorem test_report_premises :
    (aggOf State.reset 5).isOpen = false ∧
    (let s := after (.faultReport 5 report0 0) State.reset
     (aggOf s 5).isOpen = true ∧ max s.sun.ns 10000 ≤ (aggOf s 5).opened + 10000 ∧ (aggOf s 5).first = some report0 ∧
       (aggOf s 5).opened + 10000 ≤ max s.sun.ns 10000 ∧ (aggOf s 5).opened + 10000 < max s.sun.ns 10001) := by
  decide +kernel

/-- A state with both ends of module 0 of die 0 changed. -/
def linkLab (f : Sys2Proof.Machine.Module → Sys2Proof.Machine.Module) : State :=
  let o := otherEnd 0 0
  setModule (setModule State.reset 0 0 (f moduleReset)) o.1 o.2 (f moduleReset)

/-- A module end. -/
def end00 : ModuleId := .trellis 0 0

theorem test_link_premises :
    (let s := linkLab (fun x => { x with state := 5, width := 3, failed := [(0, 8)] })
     hasModule end00 = true ∧ (modEnd s end00).state = 5 ∧ overThreshold (atTime 5 s) end00 = true) ∧
    mayTrain State.reset end00 = true ∧ mayTrain State.reset .pergola = true ∧
    chosenWidth ((0 : BitVec 4) &&& 15).toNat = none ∧ chosenWidth ((8 : BitVec 4) &&& 15).toNat = some (1, 3) ∧
    chosenWidth ((15 : BitVec 4) &&& 15).toNat = some (3, 0) ∧
    (moduleOf State.reset 0 0).testing = false ∧ (moduleOf State.reset 0 0).retrains.toNat < 3 ∧
    (mayTrain (linkLab (fun x => { x with testing := true })) end00 = true ∧
      (modEnd (linkLab (fun x => { x with testing := true })) end00).testing = true) ∧
    (let s := { State.reset with ln := { State.reset.ln with pergola := { State.reset.ln.pergola with testing := true, retrains := 3 } } }
     mayTrain s .pergola = true ∧ (modEnd s .pergola).testing = true ∧ (modEnd s .pergola).retrains.toNat = 3) ∧
    State.reset.ln.leader = false ∧ (modEnd State.reset .pergola).testing = false ∧
    (modEnd (linkLab (fun x => { x with retrains := 3 })) end00).retrains.toNat = 3 ∧
      mayTrain (linkLab (fun x => { x with retrains := 3 })) end00 = true ∧
    (modEnd (linkLab (fun x => { x with state := 1 })) end00).state = 1 ∧
    (modEnd (linkLab (fun x => { x with state := 7 })) end00).state = 7 ∧
    (let s := { State.reset with ms := { State.reset.ms with dies := [(5, .lost)] } }
     mayTrain s (.trellis 5 0) = true ∧ (modEnd s (.trellis 5 0)).testing = false ∧ dieState s 5 = .lost) := by
  decide +kernel

/-- A flit as sent and as it arrives unharmed, with its number. -/
def flit0 : FlitPassage :=
  let b := leBytes 4 7 ++ zeros 248
  ⟨b, b ++ leBytes 4 (crc32c b).toNat⟩

theorem flitGood_crc {b : List Byte} (h : b.length = 252) : flitGood (flitSeq b) (b ++ leBytes 4 (crc32c b).toNat) = true := by
  have h1 : slice (b ++ leBytes 4 (crc32c b).toNat) 0 252 = b := by
    simp [slice, h]
  have h2 : slice (b ++ leBytes 4 (crc32c b).toNat) 252 4 = leBytes 4 (crc32c b).toNat := by
    rw [slice, List.drop_append_of_le_length (by omega), List.drop_of_length_le (by omega), List.nil_append]
    rfl
  have h3 : slice (b ++ leBytes 4 (crc32c b).toNat) 0 4 = slice b 0 4 := by
    simp only [slice, List.drop_zero]
    rw [List.take_append_of_le_length (by omega)]
  have h4 : ∀ n, n < 2 ^ 32 → leNat (leBytes 4 n) = n := by
    intro n hn
    simp [leBytes, leNat]
    omega
  simp only [flitGood, flitSeq, field, h1, h2, h3, h4 _ (crc32c b).isLt, beq_self_eq_true, Bool.and_self]

theorem test_flit_premises :
    (let s := linkLab (fun x => { x with state := 5, width := 3, seq := 7 })
     hasModule end00 = true ∧ (modEnd s end00).state = 5 ∧ (sender s end00).retry.length < 64 ∧ (modEnd s end00).seq = 7 ∧
       ((sender s end00).retry.any (fun l => flitSeq l == flitSeq flit0.sent)) = false ∧ flitSeq flit0.sent = 7 ∧
       flit0.sent.length = 252) ∧
    (let s := linkLab (fun x => { x with state := 5, width := 3, retry := List.replicate 64 (zeros 252) })
     ((sender s end00).retry.any (fun l => flitSeq l == flitSeq flit0.sent)) = false ∧ 64 ≤ (sender s end00).retry.length) := by
  decide +kernel

theorem test_flit_good : flitGood 7 flit0.got = true := flitGood_crc (b := flit0.sent) (by decide +kernel)

set_option Elab.async false in
theorem test_flit_bad : flitGood 8 flit0.got = false := by
  have h : flitSeq flit0.got = 7 := by decide +kernel
  simp [flitGood, h]

theorem test_die_lost_premises :
    dieState State.reset 3 = .service ∧ (toHub State.reset 3).hops = 0xFF ∧
    (toHub (setModule (setModule State.reset 3 0 { moduleReset with state := 5, width := 3 }) (otherEnd 3 0).1 (otherEnd 3 0).2
      { moduleReset with state := 5, width := 3 }) 3).hops ≠ 0xFF ∧
    dieState State.reset 5 = .service ∧ moduleLanes State.reset 5 0 = 0 := by
  decide +kernel

/-- A package of a pair: its Pergola module's state, its role and what the partner has. -/
def pairUpLab (st : Nat) (lead : Bool) : State :=
  let s := lab 1 []
  { s with ln := { s.ln with
      pairUp := true, leader := lead, pergola := { s.ln.pergola with state := BitVec.ofNat 4 st }, partnerCtx := [5] } }

theorem test_pair_link_premises :
    (let s := pairUpLab 5 false
     s.ln.pairUp = true ∧ s.ln.leader = false ∧ s.ln.pergola.state = 5 ∧ planQueueExists s = false ∧ planQueueExists (planned s) = true) ∧
    (pairUpLab 5 true).ln.leader = true ∧
    (let s := pairUpLab 0 false
     s.ln.pergola.state ≠ 5 ∧ ¬ (s.ln.pergola.state = 2 ∨ s.ln.pergola.state = 4) ∧ (5 : CtxId) ∈ s.ln.partnerCtx ∧
       (ctxOf s 5).state = .ready) ∧
    (let s := pairUpLab 2 false
     s.ln.pergola.retrainAt + 100000 < max s.sun.ns 100001) ∧
    (let u := pairUpLab 0 false
     let s := { u with ln := { u.ln with pairUp := false, lostAt := some 0 } }
     s.ln.lostAt = some 0 ∧ s.ln.pairUp = false ∧ 0 + 100000000 ≤ max s.sun.ns 100000000) := by
  decide +kernel

/-- A package that has lent the block at 8 GiB. -/
def lentLab : State :=
  let s := linked (pairUpLab 5 true)
  { s with
    ms := { s.ms with blocks := [(0x200000000, .lent)], pairLimit := 2 }
    ln := { s.ln with lend := [0x200000000] } }

theorem test_lend_premises :
    packageUp lentLab = true ∧ lentLab.ln.pairUp = true ∧ masterPaused lentLab 5 0x2001FFFFF = false ∧ lentRange lentLab 0x2001FFFFF 1 = true ∧
      lentRange lentLab 0x2001FFFFF 2 = false ∧ lentLab.ms.badGranules = [] ∧ lentBlocks lentLab < lentLab.ms.pairLimit.toNat := by
  decide +kernel

theorem test_lendable_premises : lendable lentLab ≠ [] := by
  have h : ∀ (f : KilnId → List Nat) (k : KilnId) (l : List KilnId) (a : Nat), k ∈ l → a ∈ f k → l.flatMap f ≠ [] := by
    intro f k l a hk ha h0
    have : a ∈ l.flatMap f := List.mem_flatMap.2 ⟨k, hk, ha⟩
    simp [h0] at this
  have hk : (0 : KilnId) ∈ kilnsIn lentLab := by decide +kernel
  have hn : kilnIn lentLab 0 = true := by decide +kernel
  have hr : classRange lentLab (0 : KilnId).val .qm = (8589934592, 34091302912) := by decide +kernel
  refine h _ 0 _ 0x200200000 hk ?_
  simp only [freeBlocks, hn, hr, Bool.not_true, Bool.false_eq_true, if_false, List.mem_filter, List.mem_map, List.mem_range]
  exact ⟨⟨1, by decide +kernel, by decide +kernel⟩, by decide +kernel⟩

theorem test_clock_premises :
    dieState State.reset 0 ≠ .fenced ∧ dieState State.reset 5 ≠ .fenced ∧ State.reset.rs.held = false ∧ dieState ({ State.reset with ms := { State.reset.ms with dies := [(0, .fenced)] } } : State) 0 = .fenced ∧
    State.reset.rs.railsOut.contains .maze = false ∧
    (let s := after (.railFault .package 0) State.reset
     s.rs.railsOut.contains .package = true ∧ s.rs.held = true ∧ s.rs.heldByRail = true ∧ s.rs.railsOut.erase .package = []) ∧
    (let s := after (.railFault (.island .b) 0) State.reset
     s.rs.railsOut.contains (.island .b) = true ∧ s.rs.held = false ∧ (s.rs.railsOut.erase (.island .b)).contains (.island .b) = false) ∧
    (let s := after (.thermalTrip 3) (after (.railFault .package 0) State.reset)
     s.rs.railsOut.contains .package = true ∧ s.rs.tripped = true ∧ s.rs.held = true) ∧
    (kilnPower State.reset 0).level ≠ 0 ∧
    (let s := setKilnPower State.reset 2 { kilnPower State.reset 2 with level := 1, request := some (true, 0) }
     (kilnPower s 2).level = 1 ∧ (kilnPower s 2).request = some (true, 0)) ∧
    (let s := setKilnPower State.reset 2 { kilnPower State.reset 2 with level := 0 }
     (kilnPower s 2).level = 0 ∧ (kilnPower s 2).request = none) := by
  decide +kernel

theorem test_tile_reset_premises :
    (tileOf (lab 1 []) 0).state ≠ .fenced ∧ (tileOf (lab 1 []) 0).state ≠ .inReset ∧
    (tileOf (labOn 1 (fun x => { x with state := .fenced })) 0).state = .fenced := by
  decide +kernel

/-- The same context and item with no instance on a tile. -/
def restLab : State :=
  let s := lab 1 []
  { s with gh := { s.gh with insts := [] }, tl := { s.tl with tiles := [] } }

theorem test_partition_reset_premises :
    let v : Word32 := 0x96A50000
    pfReaches restLab 0 = true ∧ bits v.toNat 31 16 = 0x96A5 ∧ classOf (bits v.toNat 1 0) = some .qm ∧
      restLab.rs.partBusy = false ∧ restLab.rs.partQueue = [] ∧ restLab.rs.flrWaits = [] ∧
      classTiles (partitionStart (atTime 3 restLab) .qm ⟨9, 0⟩) .qm = [] ∧
      classTags (partitionStart (atTime 3 restLab) .qm ⟨9, 0⟩) .qm = [] ∧
      (ctxOf restLab 5).cls = .qm ∧ (ctxOf restLab 5).state ≠ .free ∧ cleanCheck restLab = true ∧
      (restLab.gh.items.map (fun x => x.id)).Nodup ∧ item0 ∈ restLab.gh.items ∧ item0.stage ≠ .rejected ∧
      (queueOf restLab item0.id.queue).cls = .qm ∧
    classTiles (partitionStart (atTime 3 (withChain restLab)) .qm ⟨9, 0⟩) .qm = [] ∧
      classTags (partitionStart (atTime 3 (withChain restLab)) .qm ⟨9, 0⟩) .qm ≠ [] ∧
      classTags (atTime 3 (withChain restLab)) .qm ≠ [] := by
  decide +kernel

set_option Elab.async false in
theorem test_partition_wait_premises :
    let v : Word32 := 0x96A50000
    classTiles (partitionStart (atTime 3 (lab 1 [])) .qm ⟨9, 0⟩) .qm = [0] ∧ (lab 1 []).rs.partBusy = false ∧
    (let s := after (.partitionReset 0 v 3 ⟨9, 0⟩) (lab 1 [])
     s.rs.partBusy = true ∧ s.rs.partStep3 = none ∧ s.rs.partStep2 = some 3 ∧
       classTiles (atTime 4 s) (classOfD s.rs.partClass.toNat) = [0] ∧ max s.sun.ns 4 < 3 + yieldBoundNs (atTime 4 s) 0) ∧
    (let s := after (.partitionReset 0 v 3 ⟨9, 0⟩) (withChain restLab)
     s.rs.partBusy = true ∧ s.rs.partStep3 = some 3 ∧ classTags s (classOfD s.rs.partClass.toNat) ≠ [] ∧
       s.rs.partQueue = [] ∧ s.rs.flrWaits = [] ∧
       max s.sun.ns 3000002 < 3 + 3000000 ∧ 3 + 3000000 ≤ max s.sun.ns 3000003) := by
  decide +kernel

theorem test_reset_premises :
    let v : Word32 := 0x5AC30008
    pfReaches (lab 1 []) 0 = true ∧ bits v.toNat 31 16 = 0x5AC3 ∧ v.getLsbD 3 = true ∧ packageUp (lab 1 []) = true ∧
      (lab 1 []).rs.hubWaits = none ∧ (lab 1 []).rs.flrWaits = [] ∧ (lab 1 []).rs.dumpAuto = false ∧
      ({ lab 1 [] with rs := { (lab 1 []).rs with dumpAuto := true } } : State).rs.dumpAuto = true ∧
      ((lab 1 []).gh.items.map (fun x => x.id)).Nodup ∧ cleanCheck (lab 1 []) = true ∧ item0.stage ≠ .done ∧
    (∀ k ∈ [0, 3, 4, 5, 6], (BitVec.ofNat 32 (0x5AC30000 + k)).getLsbD 3 = false ∧ bits (BitVec.ofNat 32 (0x5AC30000 + k)).toNat 2 0 = k) ∧
      dieState (lab 1 []) 3 ≠ .fenced ∧ dieState (lab 1 []) 5 ≠ .fenced ∧ (lab 1 []).rs.busy = false := by
  decide +kernel

/-- Draws of 100 µs and 1 ms, in mW. -/
def draws (a b : Nat) : PowerDraws :=
  { kiln100us := List.replicate 4 a, kiln1ms := List.replicate 4 b, hub := 0, maze := 0, lpddr := 0 }

/-- Die 3 at a level. -/
def levelLab (n : Nat) : State := setKilnPower State.reset 3 { kilnPower State.reset 3 with level := BitVec.ofNat 3 n }

theorem test_governor_premises :
    packageUp (levelLab 4) = true ∧ kilnIn (levelLab 4) 3 = true ∧ (kilnPower (levelLab 4) 3).parked = false ∧
      (kilnPower (levelLab 4) 3).request = none ∧ (kilnPower (levelLab 4) 3).retryAt = none ∧
    fracLt (dieShare (levelLab 4) (draws 100000 0)) (frac 100000 1000) = true ∧
    fracLt (dieShare (levelLab 5) (draws 100000 0)) (frac 100000 1000) = true ∧
    (fracLt (dieShare (levelLab 5) (draws 0 0)) (frac 0 1000) = false ∧ ceilingOf (levelLab 5) 3 < 5 ∧
      (kilnPower (levelLab 5) 3).noRaise = false ∧ (kilnPower (levelLab 5) 3).lowered = none ∧
      fracLt (dieShare (levelLab 5) (draws 0 0)) (frac (0 * fullLoad 4 * 100) (1000 * fullLoad 5 * 95)) = false) ∧
    pfReaches (levelLab 4) 0 = true ∧ bits (0x28 : Word64).toNat 5 3 ≤ 5 ∧ 5 < bits (0x30 : Word64).toNat 5 3 := by
  decide +kernel

/-- Die 3 with a raise to P3 requested. -/
def requestLab (q : Option (BitVec 3)) : State :=
  setKilnPower State.reset 3 { kilnPower State.reset 3 with level := 4, request := some (true, 3), queued := q }

theorem test_avs_premises :
    (∀ q ∈ [none, some 5], (kilnPower (requestLab q) 3).request = some (true, 3) ∧ (requestLab q).rs.held = false ∧
      (kilnPower (requestLab q) 3).queued = q) ∧ levelMv 3 ≤ 640 + 10 ∧ 660 ≤ levelMv 3 + 10 := by
  decide +kernel

theorem test_slew_premises :
    tileDie 255 = 3 ∧ tileIn State.reset 255 = true ∧
    40000 + (((kilnPower State.reset 3).grants.filter (fun g => decide (max State.reset.sun.ns 5 < g.1 + 1000))).map (fun g => g.2)).sum ≤ 40000 ∧
    40000 < 40001 := by
  decide +kernel

/-- A boot's inputs. -/
def boot0 : BootInput := { pairLead := false, refValid := true, hot := false, badReads := [], startup := startup [] false }

/-- A sample of all sensors at one reading. -/
def sample (x : Int) : List Int := List.replicate 76 x

theorem test_thermal_premises :
    (sample (118 * 16 + 1)).length = 76 ∧ hottest (sample (118 * 16 + 1)) = some (118 * 16 + 1) ∧ hottest (sample (116 * 16)) = some (116 * 16) ∧
      hottest (sample (116 * 16 - 1)) = some (116 * 16 - 1) ∧ State.reset.rs.held = false ∧ State.reset.pw.sleepState ≠ 4 ∧
      (-641 : Int) < -640 ∧ State.reset.rs.tripped = false ∧
    (let s := after (.coldReset { boot0 with hot := true }) State.reset
     s.rs.held = true ∧ s.rs.heldHot = some { boot0 with hot := true } ∧ s.rs.railsOut = [] ∧
       (∀ x ∈ sample (105 * 16 - 1), x < 105 * 16) ∧ (∃ x ∈ sample (105 * 16), 105 * 16 ≤ x)) ∧
    (let s := after (.railFault .maze 0) (after (.coldReset { boot0 with hot := true }) State.reset)
     s.rs.held = true ∧ s.rs.heldHot = some { boot0 with hot := true } ∧ s.rs.railsOut ≠ []) := by
  decide +kernel

/-- A device in the over-temperature state, with a sample. -/
def hotLab : State :=
  let s := State.reset
  { s with pw := { s.pw with
      hot := true
      history := [sample 1900]
      kilns := (List.range 4).map (fun k => (k, { kilnReset with level := 4 })) } }

theorem test_hot_premises :
    hotLab.pw.hot = true ∧ packageUp hotLab = true ∧ unparked hotLab ≠ [] ∧
      (∀ k ∈ unparked hotLab, (kilnPower hotLab k).request = none ∧ (kilnPower hotLab k).level.toNat < 5) ∧
      hotLab.pw.history.head? = some (sample 1900) := by
  decide +kernel

/-! ## Premises of the statements about sleep, the mailbox, the host port and debug -/

/-- The device in a sleep state, with a return running or not. -/
def asleep (n : Nat) (go : Bool) : State :=
  let s := State.reset
  { s with pw := { s.pw with sleepState := BitVec.ofNat 3 n, sleepGo := go } }

theorem test_sleep_premises :
    (∀ n ∈ [1, 2, 3, 4], (BitVec.ofNat 32 (8 + n)).getLsbD 3 = true ∧ bits (BitVec.ofNat 32 (8 + n)).toNat 2 0 = n ∧
      sleepReady (asleep 0 false) n = true) ∧
    pfReaches (asleep 0 false) 0 = true ∧ pfReaches (asleep 2 true) 0 = true ∧ (asleep 0 true).pw.sleepGo = true ∧
    (4 ≤ (asleep 4 false).pw.sleepState.toNat) ∧ sleepReady house 1 = false ∧ pfReaches house 0 = true ∧
    bits (8 : Word32).toNat 2 0 = 0 ∧ (asleep 2 false).pw.sleepState = 2 := by
  decide +kernel

set_option Elab.async false in
theorem test_wake_premises :
    (asleep 4 false).pw.sleepState ≠ 0 ∧ (asleep 4 false).pw.sleepGo = false ∧ (asleep 4 false).rs.held = false ∧
    (asleep 1 true).pw.sleepState ≠ 0 ∧ (asleep 1 true).pw.sleepGo = true ∧
    (5 < 1 ∨ bits (0x00000081 : Word64).toNat 7 0 = 0x81 ∧ bit 0x81 7 = true ∧ bit 0x01 7 = false) := by
  decide +kernel

/-- A write of LG_MBOX_CTRL with GO. -/
def go (cmd : Nat) : MboxGo := { fn := 0, value := BitVec.ofNat 32 (2 ^ 31 + cmd), host := [], bufOk := true, resumes := false, t := 0 }

/-- A device in Production with a buffer of host memory and arguments for the mailbox. -/
def mboxLab (a0 a1 len : Nat) : State :=
  { house with lg := { house.lg with
      lifecycle := 1, arg0 := BitVec.ofNat 64 a0, arg1 := BitVec.ofNat 64 a1, buf := (if len = 0 then 0 else 0x10000), len := BitVec.ofNat 22 len } }

/-- The conditions of `MboxTakes` for a command that starts, as a check. -/
def takesCheck (s : State) (g : MboxGo) (cmd : Nat) : Bool :=
  pfReaches s g.fn && g.value.getLsbD 31 && bits g.value.toNat 7 0 == cmd && fnCanIssue s 0 && !s.lg.mboxGo && !mboxBarred s cmd &&
    !g.resumes

theorem takes_of_check {s : State} {g : MboxGo} {cmd : Nat} (h : takesCheck s g cmd = true) : MboxTakes s g cmd := by
  simp only [takesCheck, Bool.and_eq_true, beq_iff_eq, Bool.not_eq_true'] at h
  obtain ⟨⟨⟨⟨⟨⟨h1, h2⟩, h3⟩, h4⟩, h5⟩, h6⟩, h7⟩ := h
  exact ⟨h4, h6, fun _ => ⟨h1, h2, h3, h5⟩, fun h => by rw [h7] at h; cases h⟩

/-- A STATUS command that has waited goes on. -/
theorem test_mailbox_resume_premises :
    let s := { mboxLab 0 0 288 with lg := { (mboxLab 0 0 288).lg with mboxGo := true, mboxCmd := 1 } }
    MboxTakes s { go 1 with resumes := true } 1 ∧ noArgs s = true ∧ 288 ≤ s.lg.len.toNat :=
  ⟨{ issues := by decide +kernel
     allowed := by decide +kernel
     starts := fun h => by cases h
     goesOn := fun _ => ⟨by decide +kernel, by decide +kernel, by decide, by decide, by decide +kernel⟩ }, by decide +kernel, by decide +kernel⟩

theorem test_mailbox_row_premises :
    (∀ k ∈ [1, 2, 3, 4, 5, 6, 7, 8], bits (go k).value.toNat 7 0 = k ∧ (go k).value.getLsbD 31 = true) ∧
    (let s := { mboxLab 0 0 0 with lg := { (mboxLab 0 0 0).lg with mboxGo := true, mboxCmd := 0 } }
     s.lg.mboxGo = true ∧ s.lg.mboxCmd.toNat ≠ 1 ∧ pfReaches s 0 = true) ∧
    (let s := { mboxLab 0 0 0 with lg := { (mboxLab 0 0 0).lg with lifecycle := 4 } }
     s.lg.mboxGo = false ∧ fnCanIssue s 0 = true ∧ ∀ k ∈ [2, 3, 4, 5, 6, 7, 8], mboxBarred s k = true) ∧
    State.reset.lg.mboxGo = false ∧ fnCanIssue State.reset 0 = false ∧ pfReaches State.reset 0 = true := by
  decide +kernel

theorem test_mailbox_read_premises :
    takesCheck (mboxLab 0 0 288) (go 1) 1 = true ∧ noArgs (mboxLab 0 0 288) = true ∧ 288 ≤ (mboxLab 0 0 288).lg.len.toNat ∧
    takesCheck (mboxLab 0 0 704) (go 5) 5 = true ∧ 704 ≤ (mboxLab 0 0 704).lg.len.toNat ∧
    takesCheck (mboxLab 0xFFFFFFFF 65536 0x200000) (go 6) 6 = true ∧ 1 ≤ (mboxLab 0xFFFFFFFF 65536 0x200000).lg.arg1.toNat ∧
      (mboxLab 0xFFFFFFFF 65536 0x200000).lg.arg1.toNat ≤ 65536 ∧ (mboxLab 0xFFFFFFFF 65536 0x200000).lg.arg0.toNat ≤ 0xFFFFFFFF ∧
      32 * (mboxLab 0xFFFFFFFF 65536 0x200000).lg.arg1.toNat ≤ (mboxLab 0xFFFFFFFF 65536 0x200000).lg.len.toNat ∧
    takesCheck (mboxLab 0 0 0x200000) (go 8) 8 = true ∧ noArgs (mboxLab 0 0 0x200000) = true := by
  decide +kernel

/-- A record with its own CRC-32C in bytes 12 to 15. -/
def withCrc (b : List Byte) : List Byte := b.take 12 ++ leBytes 4 (imageCrc b).toNat ++ b.drop 16

theorem withCrc_length {b : List Byte} (h : 16 ≤ b.length) : (withCrc b).length = b.length := by
  have e : (leBytes 4 (imageCrc b).toNat).length = 4 := rfl
  rw [withCrc, List.length_append, List.length_append, List.length_take, List.length_drop, e]
  omega

theorem imageCrc_withCrc {b : List Byte} (h : 16 ≤ b.length) : imageCrc (withCrc b) = imageCrc b := by
  have h1 : (withCrc b).take 12 = b.take 12 := by
    simp only [withCrc, List.append_assoc]
    rw [List.take_append_of_le_length (by rw [List.length_take]; omega), List.take_take]
    simp
  have h2 : (withCrc b).drop 16 = b.drop 16 := by
    simp only [withCrc]
    have e : (b.take 12 ++ leBytes 4 (imageCrc b).toNat).length = 16 := by
      rw [List.length_append, List.length_take, Nat.min_eq_left (by omega)]
      rfl
    rw [List.drop_append_of_le_length (by omega), List.drop_of_length_le (by omega)]
    simp
  simp only [imageCrc, h1, h2, withCrc_length h]

theorem field_withCrc {b : List Byte} (h : 16 ≤ b.length) : (imageCrc (withCrc b)).toNat = field (withCrc b) 12 4 := by
  have h3 : slice (withCrc b) 12 4 = leBytes 4 (imageCrc b).toNat := by
    simp only [slice, withCrc, List.append_assoc]
    rw [List.drop_append_of_le_length (by rw [List.length_take]; omega), List.drop_of_length_le (by rw [List.length_take]; omega)]
    simp [leBytes]
  have h4 : ∀ n, n < 2 ^ 32 → leNat (leBytes 4 n) = n := by
    intro n hn
    simp [leBytes, leNat]
    omega
  rw [imageCrc_withCrc h, field, h3, h4 _ (imageCrc b).isLt]

/-- An image of one kind and length with its one section at 192: a trailer of algorithm 4, the fields given. -/
def plain (kind len file : Nat) (l : List (Nat × Nat × Nat)) : List Byte :=
  fields len ([(0, 4, 0x48534C55), (4, 2, 2), (6, 2, kind), (8, 4, len), (18, 2, 1), (24, 4, 128), (128, 4, 192), (132, 4, file),
    (140, 4, file), (len - 288, 1, 4)] ++ l)

/-- A Road firmware image of kind 9 and a lifecycle token for state Field. -/
def update9 : List Byte := withCrc (plain 9 480 0 [])
def token2 : List Byte := withCrc (plain 0xA 544 64 [(208, 1, 2), (209, 1, 0)])

/-- A device whose fuse 0 holds the hash of an image's key, the image in the mailbox's buffer. -/
def signedLab (a0 : Nat) (img : List Byte) : State :=
  let s := mboxLab a0 0 img.length
  { s with
    hostMem := memWrites [] 0x10000 img
    lg := { s.lg with keyHash := [Config.sha512 (slice img (img.length - 288) 133)] } }

/-- An image that passes every check but the signature's passes them all where the signature verifies. -/
theorem verify_none {s : State} {b : List Byte} {kind counter : Nat} (h1 : 416 ≤ b.length)
    (h2 : (imageCrc b).toNat = field b 12 4) (h3 : s.lg.keyHash[field b 36 1]? = some (Config.sha512 (slice b (b.length - 288) 133)))
    (h4 : bit s.lg.revoke.toNat (field b 36 1) = false)
    (h5 : Config.ecdsaValid (slice b (b.length - 288) 133) (slice b (b.length - 288 + 136) 66) (slice b (b.length - 288 + 202) 66)
      (b.take (b.length - 288)) = true)
    (h6 : field b 6 2 = kind) (h7 : b.length ≤ if kind = 0xA then 4096 else slotSize (kind - 5)) (h8 : counter ≤ field b 32 4)
    (h9 : firmwareRules b b.length kind = true) : verifyImage s b kind counter = none := by
  simp only [verifyImage, h2, h3, h4, h5, h6, h9, Nat.not_lt.2 h1, Nat.not_lt.2 h7, Nat.not_lt.2 h8]
  simp

/-- The image that the mailbox reads. -/
def mboxImage (s : State) : List Byte := memReads (memCells s.hostMem []) s.lg.buf.toNat s.lg.len.toNat

theorem mboxImage_signedLab {a0 : Nat} {img : List Byte} (h : img.length < 2 ^ 22) (h0 : img.length ≠ 0) :
    mboxImage (signedLab a0 img) = img := by
  have e : (BitVec.ofNat 22 img.length).toNat = img.length := by rw [BitVec.toNat_ofNat, Nat.mod_eq_of_lt h]
  simp only [mboxImage, signedLab, mboxLab, memCells, e, h0, if_false]
  exact memReads_memWrites img _ _

theorem test_update_premises :
    let s := signedLab 9 update9
    takesCheck s (go 2) 2 = true ∧ s.lg.arg0.toNat = 5 + 4 ∧ s.lg.arg1 = 0 ∧ (slotOf s 4).trial = false ∧ s.lg.len.toNat = 480 ∧
      field update9 8 4 = s.lg.len.toNat := by
  decide +kernel

/-- The image's signature verifies. -/
def goodSignature (b : List Byte) : Prop :=
  Config.ecdsaValid (slice b (b.length - 288) 133) (slice b (b.length - 288 + 136) 66) (slice b (b.length - 288 + 202) 66)
    (b.take (b.length - 288)) = true

theorem test_update_verified_premises (h : goodSignature update9) :
    mboxImage (signedLab 9 update9) = update9 ∧ verifyImage (signedLab 9 update9) update9 9 0 = none :=
  ⟨mboxImage_signedLab (by decide +kernel) (by decide +kernel),
   verify_none (by decide +kernel) (field_withCrc (by decide +kernel))
    (by have e : field update9 36 1 = 0 := by decide +kernel
        rw [e]; rfl)
    (by decide +kernel) h (by decide +kernel) (by decide +kernel) (by decide +kernel) (by decide +kernel)⟩

/-- With no key in the fuses the same image fails check 2. -/
theorem test_update_failed_premises : verifyImage (mboxLab 9 0 480) update9 9 0 = some 2 := by
  have n : ¬ update9.length < 416 := by decide +kernel
  have c : (imageCrc update9).toNat = field update9 12 4 := field_withCrc (by decide +kernel)
  have k : (mboxLab 9 0 480).lg.keyHash[field update9 36 1]? = none := by decide +kernel
  simp only [verifyImage, n, if_false, c, ne_eq, not_true_eq_false, k]
  simp

theorem test_commit_premises :
    takesCheck (mboxLab 4 0 0) (go 4) 4 = true ∧ noBuffer (mboxLab 4 0 0) = true ∧ (mboxLab 4 0 0).lg.onTrial.getLsbD 4 = false ∧
      (mboxLab 4 0 0).lg.counters.length = 5 ∧ ({ (mboxLab 4 0 0).lg with onTrial := 0x10 } : Lodge).onTrial.getLsbD 4 = true ∧
    takesCheck (mboxLab 31 0 0) (go 3) 3 = true ∧ (mboxLab 31 0 0).lg.arg0.toNat ≤ 31 ∧ inactiveValid (mboxLab 31 0 0) 4 = false ∧
    (∀ k ∈ [0, 1, 2, 3, 4], inactiveValid ({ mboxLab 31 0 0 with lg := { (mboxLab 31 0 0).lg with
        slots := (List.range 5).map (fun k => (k, { slotReset with stateB := 1 })) } } : State) k = true) := by
  decide +kernel

theorem test_lifecycle_premises :
    let s := signedLab 0 token2
    let d := slice token2 (imgData token2).1 64
    takesCheck s (go 7) 7 = true ∧ noArgs s = true ∧ s.lg.len.toNat = 544 ∧ field token2 8 4 = s.lg.len.toNat ∧
      slice d 0 16 = slice s.lg.serial 0 16 ∧ lifecycleStep s.lg.lifecycle.toNat (field d 16 1) = true ∧ field d 17 1 ≤ 15 ∧
      s.lg.revoke ||| BitVec.ofNat 4 (field d 17 1) ≠ 15 ∧ lifecycleStep s.lg.lifecycle.toNat 0 = false := by
  decide +kernel

theorem test_lifecycle_verified_premises (h : goodSignature token2) :
    mboxImage (signedLab 0 token2) = token2 ∧ verifyImage (signedLab 0 token2) token2 0xA 0 = none :=
  ⟨mboxImage_signedLab (by decide +kernel) (by decide +kernel),
   verify_none (by decide +kernel) (field_withCrc (by decide +kernel))
    (by have e : field token2 36 1 = 0 := by decide +kernel
        rw [e]; rfl)
    (by decide +kernel) h (by decide +kernel) (by decide +kernel) (by decide +kernel) (by decide +kernel)⟩

/-- A log of which so many entries are not in the mirror. -/
def logLab (n : Nat) : State := { house with lg := { house.lg with nextSeq := BitVec.ofNat 32 n, mirrored := 0, pageAt := 0 } }

set_option Elab.async false in
theorem test_log_premises :
    (∀ n ∈ [0, 127, 128], (logLab n).rs.held = false ∧ ((logLab n).lg.nextSeq - (logLab n).lg.mirrored).toNat = n) ∧
      128 - (logLab 0).lg.mirrored.toNat % 128 = 128 ∧ max (logLab 127).sun.ns 999999999 < (logLab 127).lg.pageAt + 1000000000 ∧
      (logLab 127).lg.pageAt + 1000000000 ≤ max (logLab 127).sun.ns 1000000000 := by
  decide +kernel

/-- Virtual functions enabled, queue 62 of function 8, class QM of function 8. -/
def vfLab : State :=
  let s := lab 1 []
  { s with
    hi := { s.hi with vfEnable := true, numVfs := 8 }
    part := { s.part with mapQm := { s.part.mapQm with function := 8 } }
    gh := { s.gh with queues := [(62, { queueReset with enable := true, function := 8 })] } }

theorem test_function_premises :
    fnExists vfLab 8 = true ∧ fnExists State.reset 8 = false ∧ (queueOf vfLab 62).enable = true ∧ (queueOf vfLab 62).function.toNat = 8 ∧
      (ctxOf vfLab 5).state ≠ .free ∧ classFunction vfLab (ctxOf vfLab 5).cls = 8 ∧
      fnExists (after (.sriovVfChange true 7 0) { vfLab with tl := { vfLab.tl with tiles := [] }, gh := { vfLab.gh with insts := [] } }) 8 = false ∧ vfLab.rs.held = false := by
  decide +kernel

/-- The premises of a function-level reset, with nothing of a partition in flight and with a partition reset that runs. -/
theorem test_function_idle_premises :
    (let s := { vfLab with tl := { vfLab.tl with tiles := [] } }
     s.rs.partBusy = false ∧ s.rs.partQueue = [] ∧ s.rs.flrWaits = [] ∧ s.tl.chains = [] ∧
       (∀ tl, (tileOf s tl).inst = none) ∧ (∀ x ∈ s.gh.items, x.engine = none) ∧ (queueOf s 62).enable = true ∧
       (ctxOf s 5).state ≠ .free ∧ fnExists s 8 = true) ∧
    (let s := { vfLab with rs := { vfLab.rs with partBusy := true, partClass := 2 } }
     s.rs.partBusy = true ∧ fnExists s 8 = true ∧ classFunction s .qm = 8 ∧ s.rs.partClass.toNat ≠ classCode .qm) := by
  decide +kernel

theorem test_bar4_premises :
    let s := linked State.reset
    hostReaches s 0 = true ∧ s.pw.sleepState.toNat < 2 ∧ s.ms.badGranules = [] ∧ masterPaused s 1 (bar4Address s 0) = false ∧
      2 ^ 37 - 1 + 1 ≤ 2 ^ s.hi.bar4Log ∧ bar4Writes s (bar4Address s 0) = true ∧ bar4Writes s (bar4Address s (2 ^ 37 - 1)) = false ∧
      masterPaused s 1 (bar4Address s (2 ^ 37 - 1)) = false ∧
    (let u := linked { s with ms := { s.ms with badGranules := [0] } }
     badGranule u (bar4Address u 31) 8 = some 0 ∧ hubSees u 0 = true ∧ masterPaused u 1 (bar4Address u 31) = false) ∧
    (let u := { s with part := { s.part with masters := s.part.masters.set 1 ⟨0, 0, .qm⟩ } }
     masterPaused u 1 (bar4Address u 0) = true) ∧ hostReaches s 3 = false := by
  decide +kernel

theorem test_host_error_premises :
    packageUp house = true ∧ canFetch house 63 = true := by
  decide +kernel

theorem test_register_premises :
    hostReaches vfLab 8 = true ∧ hostReaches vfLab 0 = true ∧ (∀ tl, (tileOf vfLab tl).vbad = []) ∧ hostReaches State.reset 8 = false ∧
      (∀ o ∈ [0x10, 0x10_0100, 0x10_0180, 0x40_0260, 0xE0_0020], goodAccess o 8 = true) ∧ goodAccess 0xE0_0024 4 = true ∧ goodAccess 0x28 8 = true ∧ goodAccess 0x2C 4 = true ∧ goodAccess 0x2C 8 = false ∧
      goodAccess 0x28 2 = false ∧ unitReaches vfLab 8 0x28 false = false ∧ unitReaches vfLab 0 0x28 false = true ∧
      goodAccess 0x10_0108 8 = true ∧ goodAccess (0x11_0008 + 0x20 * 63) 8 = true ∧ unitReaches vfLab 8 0x10 true = false := by
  decide +kernel

/-- A tile at a breakpoint and with a watch hit, in a lifecycle state. -/
def debugLab (l : Nat) : State :=
  let s := labOn 1 (fun x => { x with dbg := { x.dbg with bp := [(3, 2 ^ 43)], watchHit := none } })
  { s with lg := { s.lg with lifecycle := BitVec.ofNat 3 l } }

theorem test_debug_premises :
    (∀ l ∈ [0, 1, 3], let s := debugLab l
      (tileOf s 0).inst.isSome = true ∧ (tileOf s 0).state = .running ∧ breakpointAt s 0 = some 3 ∧ (tileOf s 0).dbg.passing = false ∧
        debugActs s 5 = true ∧ (ctxOf s 5).state ≠ .closing ∧ windowReaches s 0 0 = true ∧ (tileOf s 0).dbg.state = 0) ∧
    debugActs (debugLab 4) 5 = false ∧
    (let s := setCtx (debugLab 2) 5 { ctx5 with cls := .d }
     debugActs s 5 = false ∧ windowReaches s 0 0 = true) ∧
    (tileOf (labOn 1 (fun x => { x with dbg := { x.dbg with watchHit := some 1 } })) 0).dbg.watchHit = some 1 := by
  decide +kernel

theorem test_halted_premises :
    let s := labOn 1 (fun x => { x with state := .halted, dbg := { x.dbg with state := 1 } })
    (tileOf s 0).dbg.state = 1 ∧ (tileOf s 0).tensor.drain = none ∧ (tileOf s 0).tensor.fetches = [] ∧ (tileOf fetchLab 0).tensor.fetches ≠ [] ∧ debugActs s 5 = true ∧
      debugActs (debugLab 4) 5 = false ∧ windowReaches s 0 0 = true ∧ (tileOf s 0).dbg.state ≠ 0 ∧
      (2 : Word32).getLsbD 1 = true ∧ (4 : Word32).getLsbD 2 = true ∧
    (tileOf (checkLab []) 0).tensor.drain.isSome = true := by
  decide +kernel

/-- The Gatehouse in a halt state and lifecycle state, with breakpoint 3 at an address. -/
def ghLab (st l : Nat) : State :=
  let s := State.reset
  { s with
    db := { s.db with ghState := BitVec.ofNat 2 st, ghBp := [(3, 2 ^ 63 + 0x100)], ghWatch := [(1, 2 ^ 63 + 2 ^ 52 + 3 * 2 ^ 48 + 0x1000)] }
    lg := { s.lg with lifecycle := BitVec.ofNat 3 l } }

theorem test_gatehouse_debug_premises :
    (ghLab 0 1).db.ghState = 0 ∧ debugReaches (ghLab 0 1) 0 = true ∧ ghDebugActs (ghLab 0 1) = true ∧ ghDebugActs (ghLab 0 2) = false ∧
      debugReaches (ghLab 0 2) 0 = true ∧ (tabGet 0 (ghLab 0 1).db.ghBp 3).getLsbD 63 = true ∧
      bits (tabGet 0 (ghLab 0 1).db.ghBp 3).toNat 47 1 = (0x100 : Word32).toNat / 2 ∧ (ghLab 2 1).db.ghState ≠ 0 ∧
      debugReaches (ghLab 2 1) 0 = true ∧
      ghWatchHits (tabGet 0 (ghLab 0 1).db.ghWatch 1) 0x1007 1 true = true ∧ ghWatchHits (tabGet 0 (ghLab 0 1).db.ghWatch 1) 0x1007 1 false = false ∧
      ghWatchHits (tabGet 0 (ghLab 0 1).db.ghWatch 1) 0x1008 8 true = false ∧ ghWatchHits (tabGet 0 (ghLab 0 1).db.ghWatch 1) 0xFFC 8 true = true := by
  decide +kernel

/-- An ENTRY record that tile 255's events have formed. -/
def due255 : TraceDue := ⟨1, 5, [1]⟩

/-- Trace to the buffers (bit 1) or the port (bit 0), every kind and die let out, with a ring of slots and that record due. -/
def traceLab (ctrl slots : Nat) : State :=
  let s := { house with db := { house.db with
      traceCtrl := BitVec.ofNat 32 (0xFFC + ctrl), ltbSlots := BitVec.ofNat 16 slots, ltbPtr := 0x8000, linkUp := false } }
  modTile s 255 (fun x => { x with dbg := { x.dbg with due := [due255] } })

/-- A record of tile 255. -/
def record255 : TraceInput := { master := 255, kind := 1, timeInvalid := false }

set_option Elab.async false in
theorem test_trace_premises :
    (dueOf (traceLab 2 1) 255).head? = some due255 ∧ due255.kind = record255.kind ∧ (dueOf house 255).head? = none ∧
    (sourceOf (traceLab 2 1) 255).lost = 0 ∧ (traceLab 2 1).db.traceCtrl.getLsbD 0 = false ∧
      (traceLab 2 1).db.traceCtrl.getLsbD 1 = true ∧ (traceLab 2 1).db.ltbSlots ≠ 0 ∧ (bufferOf (traceLab 2 1) 3).filling = [] ∧
      (let s := setSource (traceLab 2 1) 255 ⟨[], 9⟩
       (sourceOf s 255).lost ≠ 0 ∧ lostLets s = true) ∧
    (dueOf (traceLab 2 0) 255).head? = some due255 ∧ (traceLab 2 0).db.ltbSlots = 0 ∧
    (dueOf (traceLab 1 0) 255).head? = some due255 ∧ (traceLab 1 0).db.traceCtrl.getLsbD 0 = true ∧
      (traceLab 1 0).db.traceCtrl.getLsbD 1 = false ∧ (traceLab 1 0).db.linkUp = false ∧ (sourceOf (traceLab 1 0) 255).queue.length < 64 ∧
      64 ≤ (sourceOf (setSource (traceLab 1 0) 255 ⟨List.replicate 64 (zeros 16), 0⟩) 255).queue.length := by
  decide +kernel

theorem test_half_premises :
    let s := traceLab 2 1
    let u := setBuffer s 4 { bufferOf s 4 with full := some [zeros 32] }
    let v := { u with part := { u.part with masters := u.part.masters.set 4 { u.part.masters[(4 : Fin 6)] with limit := 512 } } }
    u.db.ltbSlots ≠ 0 ∧ fnCanIssue u 0 = true ∧ u.rs.held = false ∧ (bufferOf u 4).full = some [zeros 32] ∧ u.db.drain = none ∧
      requestRoom u 4 0xC000_0000_0000 256 129 = 129 ∧ requestRoom v 4 0xC000_0000_0000 256 129 = 2 ∧
      (bufferOf s 4).full = none ∧ (bufferOf s 4).filling = [] ∧
    max s.sun.ns 9999999 < (bufferOf s 4).started + 10000000 ∧
    (let w := { u with db := { u.db with drain := some ⟨3, [(0x8000, leBytes 8 1)]⟩ } }
     w.db.drain = some ⟨3, [(0x8000, leBytes 8 1)]⟩ ∧ requestRoom w 4 0xC000_0000_0000 256 1 = 1) := by
  decide +kernel

/-- A dump in progress, with a buffer of pages, which a hub reset may wait for. -/
def dumpLab (pages : Nat) (waits : Option Bool) : State :=
  { house with rs := { house.rs with dumpGo := true, dumpSize := BitVec.ofNat 32 pages, dumpBase := 0x1000, hubWaits := waits } }

theorem test_dump_premises :
    debugReaches house 0 = true ∧ (0x800001FF : Word32).getLsbD 31 = true ∧ house.rs.dumpGo = false ∧ (dumpLab 1 none).rs.dumpGo = true ∧
      (dumpLab 1 none).rs.held = false ∧ (dumpLab 1 none).rs.hubWaits = none ∧ (dumpLab 1 none).rs.dumpSize ≠ 0 ∧
      fnCanIssue (dumpLab 1 none) 0 = true ∧ (dumpLab 0 none).rs.dumpSize = 0 ∧ (dumpLab 0 (some true)).rs.hubWaits = some true := by
  decide +kernel

theorem test_reset_invariants : State.reset.mem.wf = true ∧ State.reset.hostMem.wf = true ∧ State.reset.partnerMem.wf = true ∧
    State.reset.bv.pins = pinsOf State.reset.bv.a State.reset.bv.b := by
  decide +kernel

/-! ## Ill-formed operands are refused -/

theorem test_wf_time : Instr.wf (.tilePlace (2 ^ 64)) = false ∧ Instr.wf (.tilePlace (2 ^ 64 - 1)) = true := by decide +kernel

theorem test_wf_host :
    Instr.wf (.descriptorFetch 0 0 [(5, 1), (5, 2)]) = false ∧ Instr.wf (.descriptorFetch 0 0 [(2 ^ 64, 1)]) = false ∧
      Instr.wf (.descriptorFetch 0 0 [(5, 1), (6, 2)]) = true := by decide +kernel

theorem test_wf_bus :
    Instr.wf (.registerWrite { fn := 0, off := 0, size := 0, data := 0, poisoned := false }) = false ∧
      Instr.wf (.registerWrite { fn := 0, off := 0, size := 4, data := 2 ^ 32, poisoned := false }) = false ∧
      Instr.wf (.registerReadClear { fn := 0, off := 0, size := 0 }) = false := by decide +kernel

theorem test_wf_instance :
    Instr.wf (.swaitSatisfied ⟨⟨0, 0⟩, 65535, false⟩) = false ∧ Instr.wf (.pairSignature ⟨⟨0, 0⟩, 65535, false⟩ 0) = false ∧
      Instr.wf (.swaitSatisfied ⟨⟨0, 0⟩, 65534, true⟩) = true := by decide +kernel

set_option Elab.async false in
theorem test_wf_sync : Instr.wf (.syncFabricApply 0) = false := by decide +kernel

theorem test_wf_upset : Instr.wf (.instrSscoreI8 0 1 ⟨some (65536, 0), none⟩) = false := by decide +kernel

theorem test_wf_block :
    Instr.wf (.blockAlloc 0 0 [0x20_0001]) = false ∧ Instr.wf (.blockScrubDone 0x20_0000_0000) = false ∧
      Instr.wf (.blockScrubDone 0x20_0000) = true := by decide +kernel

theorem test_wf_offset : Instr.wf (.gptpSync 0 (2 ^ 63) 0) = false := by decide +kernel

/-- A camera frame. -/
def frame0 (strips start arrival : Nat) : CameraSample :=
  { port := 0, channel := 0, frameNumber := 0, frameStart := start, arrival := arrival, corrupt := false,
    strips := List.replicate strips 0, payload := [] }

theorem test_wf_samples :
    Instr.wf (.cameraFrame (frame0 15 0 0)) = false ∧ Instr.wf (.cameraFrame (frame0 16 1 0)) = false ∧
      Instr.wf (.cameraFrame (frame0 16 0 (2 ^ 64))) = false ∧ Instr.wf (.cameraFrame (frame0 16 0 0)) = true ∧
      Instr.wf (.lidarPacket { port := 0, udpPort := 0, payload := [], gptpSynced := true, arrival := 2 ^ 64 }) = false ∧
      Instr.wf (.spiDataReady 0 [] (2 ^ 64) 0) = false ∧ Instr.wf (.gnssFix [] (2 ^ 64)) = false := by decide +kernel

/-- A fusion step's input with so many words of pose and covariance. -/
def fusion0 (pose cov : Nat) : FusionInput :=
  { acceptedSweep := none, regRejected := 0, localMap := [], pose := (List.replicate pose 0).set 3 0x3F800000, mapPose := none,
    covariance := List.replicate cov 0, changes := [], data := [], vOdo := [], vEgo := 0, speed := 0, tracks := [], unreadable := [] }

theorem test_wf_fusion :
    Instr.wf (.fusionPublish (fusion0 12 21) 0) = false ∧ Instr.wf (.fusionPublish (fusion0 13 20) 0) = false ∧
      Instr.wf (.fusionPublish { fusion0 13 21 with mapPose := some [0] } 0) = false ∧
      Instr.wf (.fusionPublish { fusion0 13 21 with changes := [(0, [0])] } 0) = false ∧
      Instr.wf (.fusionPublish (fusion0 13 21) 0) = true := by decide +kernel

/-- A still object of no size with so many places. -/
def track0 (id : Word32) (places : Nat) : Track :=
  { id := id, sphere := true, detection := none, conf := 0, half := Vector.replicate 3 0, velocity := Vector.replicate 2 0,
    place := List.replicate places ⟨0, 0, 0, 0⟩ }

theorem test_wf_track :
    Instr.wf (.fusionPublish { fusion0 13 21 with tracks := [track0 0xFFFFFFFF 32] } 0) = false ∧
      Instr.wf (.fusionPublish { fusion0 13 21 with tracks := [track0 0 31] } 0) = false ∧
      Instr.wf (.fusionPublish { fusion0 13 21 with tracks := [track0 0 32] } 0) = true := by decide +kernel

theorem test_wf_maze :
    Instr.wf (.mazePass ⟨[⟨0, 8192⟩], []⟩) = false ∧ Instr.wf (.mazeWindowOpen 0 ⟨⟨[⟨1, 8192⟩], []⟩, []⟩) = false ∧
      Instr.wf (.mazePass ⟨[], [7]⟩) = false ∧ Instr.wf (.mazeWindowOpen 0 ⟨⟨[], []⟩, List.replicate 4 ⟨false, zeros 32⟩⟩) = false ∧
      Instr.wf (.mazePass ⟨[], [storeBase - 8]⟩) = false ∧ Instr.wf (.mazePass ⟨[], [0x6000_2208_0000]⟩) = false ∧
      Instr.wf (.mazeWindowOpen 0 ⟨⟨[], []⟩, [⟨false, zeros 31⟩]⟩) = false ∧
      Instr.wf (.recheckPass 0 ⟨[⟨0, 8192⟩], []⟩) = false ∧ Instr.wf (.mazePass ⟨[⟨0, 8191⟩], [storeBase + 8]⟩) = true := by decide +kernel

set_option Elab.async false in
theorem test_wf_regulators :
    Instr.wf (.regulatorWindow 0 [.other 0, .other 0]) = false ∧ Instr.wf (.throttleLevelChange .pcie (2 ^ 32)) = false := by
  decide +kernel

theorem test_wf_islands :
    Instr.wf (.boundaryTimeout .a (.measured (2 ^ 64))) = false ∧ Instr.wf (.stopRequestFrame .a 0 (List.replicate 65 0)) = false ∧
      Instr.wf (.pairTimeout ⟨0, 0⟩ (2 ^ 32) 0) = false ∧ Instr.wf (.faultReport 0 { report0 with names := some (unitId 5 1 0) } 0) = false := by
  decide +kernel

theorem test_wf_links :
    Instr.wf (.linkTraining .pergola ⟨0, 0, true, 0, false, 2 ^ 32⟩ 0) = false ∧
      Instr.wf (.pairTopologyRefresh [(0, 0, 0), (0, 1, 1)]) = false ∧ Instr.wf (.pcieLinkChange 5 3 true) = false ∧
      Instr.wf (.partnerAccess 0 (some [1, 2]) 1) = false ∧ Instr.wf (.partnerAccess 0 none 0) = false ∧
      Instr.wf (.partnerLendRequest 65536) = false := by decide +kernel

theorem test_wf_resets :
    Instr.wf (.tlResetDie 0 0 0 ⟨[1, 1], false, false, [], false, false, []⟩) = false ∧
      Instr.wf (.partitionReset 0 0 0 ⟨65536, 0⟩) = false ∧
      Instr.wf (.dumpEnd true [3, 3] 0) = false := by decide +kernel

theorem test_wf_power :
    Instr.wf (.governorTick { kiln100us := [0], kiln1ms := List.replicate 4 0, hub := 0, maze := 0, lpddr := 0 } 0) = false ∧
      Instr.wf (.avsRequest 0 5 0) = false ∧ Instr.wf (.avsRequest 0 0 65536) = false ∧ Instr.wf (.avsRequestFail 0 5 0) = false ∧
      Instr.wf (.powerTelemetry [(1, 1)]) = false ∧ Instr.wf (.slewAdmit 0 0 (2 ^ 32) 0) = false ∧
      Instr.wf (.thermalSample ⟨List.replicate 75 0, List.replicate 16 none⟩ none 0) = false ∧
      Instr.wf (.thermalSample ⟨List.replicate 76 0, List.replicate 16 none⟩ none 0) = true := by decide +kernel

theorem test_wf_return :
    Instr.wf (.sleepReturn { failedStep := none, lost := 0, lengthUs := 65536, boot := boot0 } 0) = false := by decide +kernel

theorem test_wf_mailbox :
    Instr.wf (.mboxStatus { go 1 with t := 2 ^ 64 }) = false ∧ Instr.wf (.mboxCommit { go 4 with host := [(2, 0), (1, 0)] }) = false := by
  decide +kernel

theorem test_wf_host_port :
    Instr.wf (.traceRecord { record255 with master := 0x116 } 0) = false ∧ Instr.wf (.sriovVfChange true 9 0) = false ∧
      Instr.wf (.bar4Access { off := 0, write := none, n := 0, poisoned := false }) = false ∧
      Instr.wf (.bar4Access { off := 0, write := some [1], n := 2, poisoned := false }) = false := by decide +kernel

/-! ## The queue -/

set_option Elab.async false in
theorem test_step_takes_front :
    (match step (State.reset.withPending [.gatehouseHeartbeatLoss, .gatehouseHeartbeat]) with
     | .next t => t.pending == [.gatehouseHeartbeat] && holdsCause t .a 11
     | _ => false) = true := by decide +kernel

theorem test_idle_step :
    (match step State.reset with
     | .next t => t == { State.reset with sun := { State.reset.sun with ns := 1, elapsed := 1 } }
     | _ => false) = true := by decide +kernel

theorem test_decode_word : decodeTableWord 64 1 = none ∧ State.reset.withFetchWord 64 1 = State.reset := by decide +kernel

/-! ## Single commands

Expected results are worked out from the manual's rules. -/

/-- s3 after an instruction of the lab. -/
def s3After (i : Instr) (word : Nat) (l : List Word64) : Word64 := sReg (tileOf (after i (lab word l)) 0) 3

/-- add wraps modulo 2^64 (R164). -/
theorem test_add_wraps : s3After (.instrAddI64 0 1) (wordA 0x20 3 1 2 0 0 0) [0, 0xFFFFFFFFFFFFFFFF, 2] = 1 := by decide +kernel

/-- A source that is also the destination is read first (R164). -/
theorem test_sub_same_register : s3After (.instrSubI64 0 1) (wordA 0x21 3 3 2 0 0 0) [0, 0, 7, 5] = 0xFFFFFFFFFFFFFFFE := by
  decide +kernel

/-- A division by zero gives all ones, and the remainder is the dividend (R164). -/
theorem test_div_zero :
    s3After (.instrDivI64 0 1) (wordA 0x25 3 1 2 0 0 0) [0, 7, 0] = 0xFFFFFFFFFFFFFFFF ∧
      s3After (.instrRemI64 0 1) (wordA 0x27 3 1 2 0 0 0) [0, 7, 0] = 7 := by decide +kernel

/-- div.i64 truncates towards zero (R164). -/
theorem test_div_truncates : s3After (.instrDivI64 0 1) (wordA 0x25 3 1 2 0 0 0) [0, 0xFFFFFFFFFFFFFFF9, 2] = 0xFFFFFFFFFFFFFFFD := by
  decide +kernel

/-- mulh takes the upper half of the signed product, mulh.u64 of the unsigned one. -/
theorem test_mulh :
    s3After (.instrMulhI64 0 1) (wordA 0x23 3 1 2 0 0 0) [0, 0xFFFFFFFFFFFFFFFF, 2] = 0xFFFFFFFFFFFFFFFF ∧
      s3After (.instrMulhU64 0 1) (wordA 0x24 3 1 2 0 0 0) [0, 0xFFFFFFFFFFFFFFFF, 2] = 1 := by decide +kernel

/-- Shifts use the low 6 bits of the count. -/
theorem test_shift_count : s3After (.instrShlI64 0 1) (wordA 0x2C 3 1 2 0 0 0) [0, 1, 65] = 2 := by decide +kernel

/-- addi sign-extends IMM32. -/
theorem test_addi_sign : s3After (.instrAddiI64 0 1) (wordB 0x31 3 1 0xFFFFFFFF) [0, 5] = 4 := by decide +kernel

/-- lih replaces bits 63 to 44 alone. -/
theorem test_lih : s3After (.instrLihI64 0 1) (0x39 + 3 * 2 ^ 13 + 0xABCDE * 2 ^ 20) [0, 0, 0, 0xFFFFFFFFFFFFFFFF] = 0xABCDEFFFFFFFFFFF := by
  decide +kernel

/-- 1.0 + 2.0 in FP64 is 3.0. -/
theorem test_fop_add : s3After (.instrFop 0 1) (wordA 0x3F 3 1 2 0 0 0) [0, 0x3FF0000000000000, 0x4000000000000000] = 0x4008000000000000 := by
  decide +kernel

/-- A branch taken moves the program counter by its offset, one not taken by 8 (R160). -/
theorem test_branch :
    (tileOf (after (.instrB 0 1) (lab (0x05 + 2 ^ 18 + 2 * 2 ^ 23 + 2 * 2 ^ 28 + 64 * 2 ^ 32) [0, 1, 2])) 0).pc = 64 ∧
      (tileOf (after (.instrB 0 1) (lab (0x05 + 2 ^ 18 + 2 * 2 ^ 23 + 2 * 2 ^ 28 + 64 * 2 ^ 32) [0, 2, 1])) 0).pc = 8 := by
  decide +kernel

/-- A store and what it leaves in the context's second shelf, byte by byte little-endian. -/
theorem test_store_bytes :
    memReads (after (.instrSt 0 1 0) (modTile (labA (wordM 0x42 3 1 1 0) 0x10000) 0 (fun x => x.setS 3 0xABCD))).mem (shelfBase 257) 3 =
      [0xCD, 0xAB, 0] := by decide +kernel

/-- ld.i sign-extends. -/
theorem test_load_sign :
    let s := labA (wordM 0x41 3 1 0 0) 0x10000
    sReg (tileOf (after (.instrLdI 0 1) { s with mem := memWrites s.mem (shelfBase 257) [0x80] }) 0) 3 = 0xFFFFFFFFFFFFFF80 := by
  decide +kernel

/-- trap ends the instance with ST_PROGRAM_TRAP and its IMM32 (R159). -/
theorem test_trap :
    (findItem (after (.instrTrap 0 1) (lab (0x04 + 0x1234 * 2 ^ 32) [])) w0.item).map (fun x => x.verdict) = some (some (0x0205, 0x1234)) := by
  decide +kernel

/-- An add beyond all-ones stops there and sets the object's bit (R74). -/
theorem test_sync_saturates :
    let t := after (.syncAdd ⟨63, 0⟩ 0) { houseWith (itemWith (syncDesc 0 2)) with sync := { syncReset with counters := [(0x2000, 0xFFFFFFFE)] } }
    (syncGet t 0x2000).toNat = 0xFFFFFFFF ∧ tabGet false t.sync.saturated 0x2000 = true := by decide +kernel

/-- A release needs its key (R364). -/
theorem test_release_key :
    (after (.safeRelease 0 0x1A5C3) (after (.lockstepMismatch .a) State.reset)).bv.a.causes = 1 ∧
      (after (.safeRelease 0 0x1A5C2) (after (.lockstepMismatch .a) State.reset)).bv.a.causes = 5 := by decide +kernel

/-- A core reset holds the island: SAFE0 is low while SAFE1 is not, and a heartbeat loss is not seen (R357, R358). -/
theorem test_island_held :
    let s := { State.reset with bv := { State.reset.bv with a := { State.reset.bv.a with causes := 0 } } }
    let t := after (.islandReset ⟨.a, true⟩) s
    t.bv.pins.getLsbD 0 = false ∧ t.bv.pins.getLsbD 1 = true ∧ after .gatehouseHeartbeatLoss t = t := by decide +kernel

/-- CLASS_MISMATCH outranks CONTEXT_INVALID, and of two equal statuses the lower offset counts (R18). -/
theorem test_status_rank :
    worst [⟨stContextInvalid, 2, 2⟩, ⟨stClassMismatch, 5, 5⟩, ⟨stClassMismatch, 4, 4⟩] = some ⟨stClassMismatch, 4, 4⟩ := by decide +kernel

/-! ## Pages and configuration space -/

/-- Entry 5 of the worked decode step (spec/08_sequence_models.md). -/
def seq5 : SeqEntry := { length := 1000, new := 1, nsink := 1, rsvd := false, npages := 63, sinks := [0, 0, 0, 0] }

/-- Scores that rise with the block number, above zero. -/
def risingScore (b : Nat) : Word32 := BitVec.ofNat 32 (b + 1)

/-- The worked decode step: 25 blocks with 392 tokens, the scored ones the 16 best of blocks 1 to 54. -/
theorem test_attended_set :
    scoredBlocks 8 seq5 = (List.range 54).map (fun i => i + 1) ∧ (attendedSet 8 16 risingScore seq5).length = 25 ∧
      (attendedTokens seq5 (attendedSet 8 16 risingScore seq5)).length = 392 ∧
      (bestBlocks 16 risingScore (scoredBlocks 8 seq5)).head? = some 54 := by
  decide +kernel

/-- The two sizes of R246. -/
theorem test_page_size : pageSize .int8 64 = 2176 ∧ pageSize .bf16 128 = 8192 ∧ scaleOffsets .bf16 128 0 = none ∧
    valueOffset .int8 64 1 = 1088 := by decide

theorem test_packed_rows :
    packedRows [(seq5, 1), ({ seq5 with new := 2 }, 0), (seq5, 0)] = [(1, 998), (1, 999), (2, 999)] := by decide

/-- The worked virtual function 3 of spec/17_pcie_and_register_map.md. -/
theorem test_vf3 : vfBar0 3 = 0x800_0000 ∧ vfBar2 3 = 0x8_0000 ∧ carries 3 .sriov = false ∧ carries 3 .ari = true ∧
    (identityOf State.reset 3).device = 0x0801 ∧ routingId 0x100 3 = 0x103 := by decide +kernel

/-! ## Trace (R494) -/

/-- After `jumpTo` with two untaken branches before it, the BRANCH record due holds source, target and their count. -/
theorem test_branch_record :
    let s := modTile { State.reset with db := { State.reset.db with traceCtrl := 0xFFD } } 3 (fun x => { x with dbg := { x.dbg with untaken := 2 } })
    (tileOf (jumpTo s (siteOf s 3 ⟨⟨0, 0⟩, 0, false⟩ 0x100 0) 0x40) 3).dbg.due =
      [⟨2, 0, [0, 1, 0, 0, 0x40, 0, 0, 0, 2, 0]⟩] := by
  decide +kernel

/-- LOST records wait for their KINDS bit: until then the count stays. -/
theorem test_lost_record :
    let lab (ctrl : Word32) : State := { State.reset with
      db := { State.reset.db with
        traceCtrl := ctrl, sources := [(0x100, { queue := [], lost := 7 })], due := [(0x100, ⟨4, 0xFFFF, []⟩)] } }
    let r : TraceInput := { master := 0x100, kind := 4, timeInvalid := false }
    (sourceOf (after (.traceRecord r 0) (lab 1)) 0x100).lost = 7 ∧ (sourceOf (after (.traceRecord r 0) (lab 1)) 0x100).queue.length = 1 ∧
      (sourceOf (after (.traceRecord r 0) (lab 0x81)) 0x100).lost = 0 ∧
      ((sourceOf (after (.traceRecord r 0) (lab 0x81)) 0x100).queue.map (fun r => (field r 0 1, field r 4 4))) = [(6, 7), (4, 0)] := by
  decide +kernel

/-- A call's tile: the link register and the target. -/
theorem test_call_tile :
    let x := tileOf (after (.instrCall 0 1) (lab (0x06 + 3 * 2 ^ 13 + 64 * 2 ^ 32) [0, 1, 2])) 0
    x.s[3] = 8 ∧ x.pc = 64 ∧ x.dbg.untaken = 0 ∧ x.state = .running := by
  decide +kernel

/-! ## Segments, flits and sleep -/

/-- 60,000 tile clock cycles at P5's 0.6 GHz, and at P0's (R388). -/
theorem test_segment_length : segmentNs 5 = 100000 ∧ segmentNs 0 < segmentNs 5 := by decide +kernel

/-- Eight failures of one flit cross the threshold, eight of several flits do not (R404). -/
theorem test_flit_threshold :
    overThreshold (linkLab (fun x => { x with state := 5, failed := [(3, 8)] })) end00 = true ∧
      overThreshold (linkLab (fun x => { x with state := 5, failed := [(3, 4), (4, 4)] })) end00 = false := by
  decide +kernel

/-- PUBLISHED counts on over a return from S3, HEARTBEAT starts again (R76, R450; log 131). -/
theorem test_published_over_sleep :
    let s := { asleep 3 true with gh := { (asleep 3 true).gh with published := [7, 8, 9] } }
    (after (.sleepReturn { failedStep := none, lost := 0, lengthUs := 9, boot := boot0 } 5) s).gh.published = [7, 8, 9] := by
  decide +kernel

end Sys2Proof.Tests
end

section
/-! PROOF. The state right after package cold reset (O58). Every table of it lists nothing, so each lookup gives the
table's default; what is no lookup is the field as `State.reset` gives it. -/

namespace Sys2Proof.Machine

@[simp] theorem queueOf_reset (q : QueueId) : queueOf State.reset q = queueReset := rfl
@[simp] theorem ctxOf_reset (c : CtxId) : ctxOf State.reset c = contextReset := rfl
@[simp] theorem tileOf_reset (tl : TileId) : tileOf State.reset tl = tileReset := rfl
@[simp] theorem syncGet_reset (i : Nat) : syncGet State.reset i = 0 := rfl
@[simp] theorem kilnPower_reset (k : KilnId) : kilnPower State.reset k = kilnReset := rfl
@[simp] theorem moduleOf_reset (d i : Nat) : moduleOf State.reset d i = moduleReset := rfl

theorem noRegisters_tileReset : noRegisters tileReset := ⟨rfl, rfl, rfl, rfl, rfl⟩

theorem memoriesOk_reset : State.reset.memoriesOk := ⟨rfl, rfl, rfl⟩

/-- START_UP alone holds an island's outputs low (R362, R363). -/
theorem islandPins_startUp : islandPins (islandReset 0x0001) = 0 := rfl

theorem pinsOk_reset : State.reset.pinsOk := by
  show (0 : BitVec 4) = BitVec.ofNat 4 (islandPins (islandReset 0x0001) + 4 * islandPins (islandReset 0x0001))
  rw [islandPins_startUp]; rfl

/-- Queues, contexts, tiles and sync objects hold no work. -/
theorem reset_no_work :
    (∀ q, queueOf State.reset q = queueReset) ∧ queueReset.enable = false ∧
      (∀ c, (ctxOf State.reset c).state = .free) ∧
      (∀ tl, (tileOf State.reset tl).state = .free ∧ noRegisters (tileOf State.reset tl)) ∧
      (∀ i, syncGet State.reset i = 0 ∧ tabGet false State.reset.sync.saturated i = false) :=
  ⟨queueOf_reset, rfl, fun c => by rw [ctxOf_reset]; rfl,
    fun tl => by rw [tileOf_reset]; exact ⟨rfl, noRegisters_tileReset⟩, fun i => ⟨syncGet_reset i, rfl⟩⟩

/-- Settles O58: the lookups of the empty tables, the registers' reset values, and the two invariants. -/
theorem resetState : Obligations.ResetState := by
  obtain ⟨hqueues, hdisabled, hcontexts, htiles, hsync⟩ := reset_no_work
  have hlevels : ∀ k, (kilnPower State.reset k).level = 5 := fun k => by rw [kilnPower_reset]; rfl
  have hmodules : ∀ d i, (moduleOf State.reset d i).state = 0 := fun d i => by rw [moduleOf_reset]; rfl
  exact ⟨rfl, hqueues, hdisabled, hcontexts, rfl, rfl, rfl, htiles, hsync, rfl, rfl, rfl, rfl, rfl, rfl, rfl, rfl, rfl,
    rfl, rfl, rfl, rfl, rfl, rfl, hlevels, rfl, rfl, rfl, hmodules, rfl, memoriesOk_reset, pinsOk_reset⟩

end Sys2Proof.Machine
end

section
/-! PROOF. The refutation of O56. Its clause on a BAR4 read of an uncorrectable granule says that memory is as before.
The controller reports such a read to its die's fault aggregator (R226); a report that comes when the aggregator's epoch
is more than 10 µs old closes that epoch first (R396, R397), and the closed epoch's record goes into the Lodge log
(R399), whose ring is memory: Keep SRAM (R475). -/

namespace Sys2Proof.Machine

/-- A BAR4 read that is answered, fits the BAR and is not paused comes to its move (R509). -/
theorem exec_bar4Access_read {s : State} {a : Bar4Access} (hw : a.write = none) (hr : hostReaches s 0 = true)
    (hfit : a.off + a.n ≤ 2 ^ s.hi.bar4Log) (hp : masterPaused s 1 (bar4Address s a.off) = false) :
    exec (.bar4Access a) s = .next (bar4Move s (bar4Address s a.off) a) := by
  have hfit' : ¬ 2 ^ s.hi.bar4Log < a.off + a.n := by omega
  simp [exec, execBar4Access, hw, hr, hp, hfit']

/-- The package with its first granule uncorrectable, and die 0 on the hub through one ACTIVE module of 64 lanes. -/
def badGranuleLab : State :=
  let up : Module := { moduleReset with state := 5, width := 3 }
  setModule (setModule { State.reset with ms := { memSysReset with badGranules := [0] } } 0 0 up) 4 0 up

/-- A BAR4 read of that granule. -/
def granuleRead : Bar4Access := { off := 0, write := none, n := 32, poisoned := false }

/-- That package 20 µs after such a read, which has opened an epoch of die 0's aggregator. -/
def overdueLab : State := atTime 20000 (bar4Move badGranuleLab 0 granuleRead)

/-- The epoch that the first read opened is overdue: the next report to the aggregator closes it. -/
theorem overdueLab_epoch :
    (aggOf overdueLab 0).isOpen = true ∧ (aggOf overdueLab 0).first.isSome = true ∧
      (aggOf overdueLab 0).opened + 10000 < now overdueLab := by decide +kernel

theorem overdueLab_reads :
    hostReaches overdueLab 0 = true ∧ overdueLab.pw.sleepState.toNat < 2 ∧
      granuleRead.off + granuleRead.n ≤ 2 ^ overdueLab.hi.bar4Log ∧
      masterPaused overdueLab 1 (bar4Address overdueLab granuleRead.off) = false ∧
      badGranule overdueLab (bar4Address overdueLab granuleRead.off) granuleRead.n = some 0 ∧
      hubSees overdueLab 0 = true := by decide +kernel

/-- The read again: bytes 4 and 5 of the log's first entry become its CODE 0x0010, of a fault record. -/
theorem overdueLab_read_logs :
    memReads overdueLab.mem (logRing + 4) 2 = [0, 0] ∧
      memReads (bar4Move overdueLab (bar4Address overdueLab granuleRead.off) granuleRead).mem (logRing + 4) 2 =
        [0x10, 0] := by decide +kernel

/-- Refutes O56: of two BAR4 reads of an uncorrectable granule, 20 µs apart with no FAULT_EPOCH_CLOSE between, the second
closes the first's epoch and so writes its fault record into the Lodge log, a part of memory. -/
theorem not_hostPortAndRegisters : ¬ Obligations.HostPortAndRegisters := by
  intro h
  obtain ⟨-, -, -, -, -, -, -, hbad, -⟩ := h
  obtain ⟨hreach, hawake, hfit, hpause, hgranule, hsees⟩ := overdueLab_reads
  obtain ⟨u, hu, -, -, hmem⟩ := hbad overdueLab granuleRead 0 hreach hawake rfl hfit hpause hgranule hsees
  rw [exec_bar4Access_read rfl hreach hfit hpause] at hu
  cases hu
  obtain ⟨hbefore, hafter⟩ := overdueLab_read_logs
  rw [hmem, hbefore] at hafter
  exact absurd hafter (by decide)

end Sys2Proof.Machine
end
